-- ==== Sys2Proof/Word.lean ====
section
/-! DEFINITION. The word types of the block and their plainest arithmetic (00 R4, R7, R9). -/
namespace Sys2Proof

/-- A register word (00 R7). -/
abbrev Word := BitVec 32
/-- A general register of a core (09 R246). -/
abbrev Dbl := BitVec 64
/-- A byte of memory. -/
abbrev Byte := BitVec 8
/-- One bit of every lane, bit index = lane index 2048*y + x (00 R11). -/
abbrev Plane := BitVec 4194304
/-- A microword (03 R87). -/
abbrev Micro := BitVec 128
/-- A vector register (10 R277). -/
abbrev VReg := BitVec 512

/-- Bits [hi:lo] of a natural number read as a word. -/
def bits (x hi lo : Nat) : Nat := (x >>> lo) % 2 ^ (hi + 1 - lo)

end Sys2Proof
end

