-- ==== Sys2Proof/Syntax.lean ====
section
/-! DEFINITION. The commands of the block: one constructor of Instr for each row of spec/opcode_table.json, with the
operands that come from outside (an address, a value, a pin level, a physical outcome). Stamps named d are DEVCLK
cycles (log 13). -/
namespace Sys2Proof

/-- The two Aveidy cores (09). -/
inductive CoreId where
  | seq | cmd
  deriving DecidableEq, Repr

/-- How a read finds a stored word (02 R50, R51; 06 R173, R182). -/
inductive Ecc where
  | clean | corrected | lost
  deriving DecidableEq, Repr

/-- Who makes an access: its ring station and the PRIV, WINB, DBG and QUIET bits of its request (11 R306). -/
structure Requester where
  src   : Nat
  priv  : Bool
  winb  : Bool
  dbg   : Bool
  quiet : Bool
  deriving DecidableEq, Repr

/-- Integer register operation: W form, rd, ra, rb (09 R251, R254). -/
structure IntR where
  c : CoreId
  w : Bool
  rd : Fin 32
  ra : Fin 32
  rb : Fin 32
  deriving DecidableEq, Repr

/-- Immediate and memory forms: rd (rs for stores), ra, imm16 (09 R251). -/
structure IntI where
  c : CoreId
  rd : Fin 32
  ra : Fin 32
  imm : BitVec 16
  deriving DecidableEq, Repr

/-- What physically befalls a load: the word it reads in a bank or stack (06 R173, R182), an L1 word that it or its fetch
reads, a register file's parity (09 R271), and whether the line it brings in replaces that of the core's reservation
(09 R266). -/
structure LoadEv where
  ecc : Ecc
  l1 : Ecc
  parity : Bool
  evict : Bool
  deriving DecidableEq, Repr

/-- Load with an immediate offset (09 R252; 10 R281). -/
structure LoadI extends IntI where
  ev : LoadEv
  deriving DecidableEq, Repr

/-- Indexed access: ra + rb, func[2:0] size, func[3] zero-extend (09 R252). -/
structure IdxOp where
  c : CoreId
  rd : Fin 32
  ra : Fin 32
  rb : Fin 32
  size : BitVec 3
  zext : Bool
  deriving DecidableEq, Repr

/-- Scalar floating-point operation: D, RM, fd, fa, fb (10 R281, R283). -/
structure FpOp where
  c : CoreId
  d : Bool
  rm : BitVec 3
  rd : Fin 32
  ra : Fin 32
  rb : Fin 32
  deriving DecidableEq, Repr

/-- Vector operation on integers, moves and memory: K, EW, rd, ra, rb (10 R281). -/
structure VecOp where
  c : CoreId
  k : Fin 8
  ew : Fin 4
  rd : Fin 32
  ra : Fin 32
  rb : Fin 32
  deriving DecidableEq, Repr

/-- Vector floating-point operation: K, D, RM, rd, ra, rb (10 R281). -/
structure VecFp where
  c : CoreId
  k : Fin 8
  d : Bool
  rm : BitVec 3
  rd : Fin 32
  ra : Fin 32
  rb : Fin 32
  deriving DecidableEq, Repr

/-- Predicate operation: rd, ra, rb (10 R296). -/
structure KOp where
  c : CoreId
  rd : Fin 32
  ra : Fin 32
  rb : Fin 32
  deriving DecidableEq, Repr

/-- A physical upset of a stored well word: plane, tile, segment, and the one or two of its 80 stored bits that flip:
0 to 71 the data bits in the order of 02 R49, 72 to 79 the check bits (02 R50, R51). -/
structure Upset where
  plane : Fin 4096
  tile : Fin 1024
  seg : Fin 64
  bit : Fin 80
  also : Option (Fin 80)
  deriving DecidableEq, Repr

/-- What physically befalls one microword: the copies disagree (03 R117), a field sees bad parity (03 R118), a stored
word is upset before its reads (02 R50). -/
structure MwEvents where
  mismatch : Bool
  parity : Option (Fin 16)
  upset : Option Upset
  deriving DecidableEq, Repr

/-- A request flit and its data (11 R306), with the ECC outcome of the word it reads. aged, dataAged: how often waiting has
raised the urgency of the flit and of its data flit on their way (11 R313). -/
structure ReqFlit where
  who : Requester
  op : BitVec 3
  tag : BitVec 8
  addr : BitVec 48
  len : Nat
  data : BitVec 512
  ecc : Ecc
  parity : Bool
  aged : Nat
  dataAged : Nat
  deriving DecidableEq, Repr

/-- A snoop flit (11 R308): granule address bits [47:6], TYPE, SRC, DST, TAG, and its urgency: that which the request had on
arrival (11 R314), raised by what waiting added. -/
structure SnoopFlit where
  granule : BitVec 42
  ty : BitVec 3
  src : BitVec 5
  dst : BitVec 5
  tag : BitVec 4
  urg : BitVec 3
  aged : Nat
  deriving DecidableEq, Repr

/-- An entry of a scatter list: address, length, bytes 12 to 15 (12 R332). -/
structure SgEntry where
  addr : Dbl
  len : Word
  rest : Word
  deriving DecidableEq, Repr

/-- A command slot as fetched (12 R332): its fields, the parameter bytes 16 to 63, the scatter list that a scatter reference
names. fetched, listRead, replyOk: the slot fetch, the list reads and the later reply write succeed. -/
structure Slot where
  opcode : BitVec 16
  tag : BitVec 16
  len : BitVec 16
  flags : BitVec 16
  seq : Word
  rest : Word
  params : List Byte
  list : List SgEntry
  fetched : Bool
  listRead : Bool
  replyOk : Bool
  deriving DecidableEq, Repr

/-- The link settings of a JESD section, whose layout chapter 08 does not give (12 R339; log 24): JESD_CTL, RXCFG, TXCFG
and RX_RBD of links 0 to 3, SYSREF_DLY. -/
structure JesdSet where
  ctl : Word
  rx : List Word
  tx : List Word
  rbd : List Word
  dly : Word
  deriving DecidableEq, Repr

/-- A firmware image as PRIME finds it (12 R338, R340): its bytes, and whether the copy succeeds. -/
structure FwImage where
  raw : List Byte
  copied : Bool
  deriving DecidableEq, Repr

/-- A workload image as WL_LOAD finds it (12 R338, R342): its bytes, whether the fetch succeeds, and what its JESD section
says. -/
structure WlImage where
  raw : List Byte
  copied : Bool
  jesd : Option JesdSet
  deriving DecidableEq, Repr

/-- What HELLO carries (13 R353, R354): the items the checks compare, each beside the peer's. -/
structure Hello where
  digest : BitVec 384
  level : BitVec 16
  verA : BitVec 8
  verB : BitVec 8
  verC : BitVec 16
  live : BitVec 16
  period : Nat
  frameLen : Nat
  offset : Nat
  policy : BitVec 2
  links : List Word
  linksInData : Bool
  imageId : Dbl
  edgeSt : BitVec 2
  ckptN : Nat
  ckptTable : List (Nat × Nat)
  role : BitVec 2
  out : Bool
  sel : Bool
  deriving DecidableEq, Repr

/-- A mirrored input (13 R358). -/
inductive Mirrored where
  | data (dst : BitVec 48) (content : List Byte)
  | seed (s : BitVec 256)
  | user (opcode : BitVec 16) (params : List Byte)
  | bay (b : Fin 8) (frames : List (BitVec 2048))
  deriving DecidableEq, Repr

/-- The results of a full self-test (15 R410). pathBad: fields whose pump or status path it found failed (01 R18). -/
structure StResult where
  failed : BitVec 6
  newFaults : List (Nat × Nat)
  firstTile : Fin 1024
  firstPlane : Fin 4096
  pathBad : BitVec 16
  deriving DecidableEq, Repr

/-- A slack self-test routine (15 R412 to R414): the array cycles it occupies and those of them in which it executes
nothing, whether a tick's first issue abandons it, the plane it checks, whether its contributions mismatch and, then, the segment row and
column of a fault that the firmware's repetitions locate. -/
structure SlackRun where
  len : Nat
  idle : List Nat
  abandoned : Bool
  plane : Fin 4096
  mismatch : Bool
  fault : Option (Nat × Nat)
  deriving DecidableEq, Repr

/-- What the start-up sequence finds (14 R392): training of the stacks, the link, the strap, a
pending wipe's result, the fields whose pump or status path has failed (01 R18). -/
structure StartUp where
  rdy0 : Bool
  rdy1 : Bool
  hbm0 : Bool
  hbm1 : Bool
  lgen : BitVec 3
  lwidth : BitVec 5
  sel : Bool
  wipeOk : Bool
  pathBad : BitVec 16
  deriving DecidableEq, Repr

/-- A boundary-scan or pin picture of the 1.8 V CMOS pins (14 R397, 16 R418), bit i the i-th pin of that row. -/
abbrev PinPic := BitVec 64

/-- The commands. Each constructor is one row of spec/opcode_table.json; LAWS.json maps them. The cores' instructions stand
first. -/
inductive Instr where
  /-- ISSN (R146). -/
  | issn (c : CoreId) (rtn : BitVec 10) (pd : Fin 16) (ps1 : Fin 16) (ps2 : Fin 16) (s : Fin 8) (sv : Bool)
  /-- ISSU (R146). -/
  | issu (c : CoreId) (rtn : BitVec 10) (pd : Fin 16) (ps1 : Fin 16) (ps2 : Fin 16) (s : Fin 8) (sv : Bool)
  /-- AWAIT (R154). -/
  | await (c : CoreId) (u : Bool)
  /-- SREAD (R155). -/
  | sread (c : CoreId) (gd : Fin 32) (s : Fin 8)
  /-- TEND (R156). -/
  | tend (c : CoreId) (d : Nat)
  /-- PPSET (R144). -/
  | ppset (c : CoreId) (gs : Fin 32) (p : Fin 16)
  /-- PPGET (R147). -/
  | ppget (c : CoreId) (gd : Fin 32) (p : Fin 16)
  /-- PPADD (R144). -/
  | ppadd (c : CoreId) (p : Fin 16) (imm : BitVec 12)
  /-- ADD (R254). -/
  | add (o : IntR)
  /-- SUB (R254). -/
  | sub (o : IntR)
  /-- ADC (R254). -/
  | adc (o : IntR)
  /-- SBC (R254). -/
  | sbc (o : IntR)
  /-- NEG (R254). -/
  | neg (o : IntR)
  /-- ABS (R254). -/
  | abs (o : IntR)
  /-- CMP (R254). -/
  | cmp (o : IntR)
  /-- AND (R254). -/
  | and (o : IntR)
  /-- OR (R254). -/
  | or (o : IntR)
  /-- XOR (R254). -/
  | xor (o : IntR)
  /-- ANDN (R254). -/
  | andn (o : IntR)
  /-- SHL (R256). -/
  | shl (o : IntR)
  /-- SHRL (R256). -/
  | shrl (o : IntR)
  /-- SHRA (R256). -/
  | shra (o : IntR)
  /-- MUL (R254). -/
  | mul (o : IntR)
  /-- MULHU (R254). -/
  | mulhu (o : IntR)
  /-- MULHS (R254). -/
  | mulhs (o : IntR)
  /-- CLZ (R254). -/
  | clz (o : IntR)
  /-- POPC (R254). -/
  | popc (o : IntR)
  /-- MOV (R254). -/
  | mov (o : IntR)
  /-- ADDI (R252). -/
  | addi (o : IntI)
  /-- CMPI (R252). -/
  | cmpi (o : IntI)
  /-- ANDI (R252). -/
  | andi (o : IntI)
  /-- ORI (R252). -/
  | ori (o : IntI)
  /-- XORI (R252). -/
  | xori (o : IntI)
  /-- LDIZ (R252). -/
  | ldiz (c : CoreId) (rd : Fin 32) (imm : BitVec 16)
  /-- LDIS (R252). -/
  | ldis (c : CoreId) (rd : Fin 32) (imm : BitVec 16)
  /-- SHIN (R252). -/
  | shin (c : CoreId) (rd : Fin 32) (imm : BitVec 16)
  /-- SHIFT_BY_IMMEDIATE (R252). -/
  | shiftByImmediate (c : CoreId) (rd : Fin 32) (ra : Fin 32) (amount : BitVec 7) (op : Fin 4) (w : Bool)
  /-- DVSETU (R257). -/
  | dvsetu (o : IntR)
  /-- DVSETS (R257). -/
  | dvsets (o : IntR)
  /-- DVSTEP (R257). -/
  | dvstep (c : CoreId)
  /-- DVQ (R257). -/
  | dvq (c : CoreId) (rd : Fin 32)
  /-- DVR (R257). -/
  | dvr (c : CoreId) (rd : Fin 32)
  /-- RPT (R259). -/
  | rpt (c : CoreId) (next : Word)
  /-- LB (R252). -/
  | lb (o : LoadI)
  /-- LBU (R252). -/
  | lbu (o : LoadI)
  /-- LH (R252). -/
  | lh (o : LoadI)
  /-- LHU (R252). -/
  | lhu (o : LoadI)
  /-- LW (R252). -/
  | lw (o : LoadI)
  /-- LWU (R252). -/
  | lwu (o : LoadI)
  /-- LD (R252). -/
  | ld (o : LoadI)
  /-- INDEXED_LOAD (R252). -/
  | indexedLoad (o : IdxOp) (ev : LoadEv)
  /-- SB (R252). -/
  | sb (o : IntI)
  /-- SH (R252). -/
  | sh (o : IntI)
  /-- SW (R252). -/
  | sw (o : IntI)
  /-- SD (R252). -/
  | sd (o : IntI)
  /-- INDEXED_STORE (R252). -/
  | indexedStore (o : IdxOp)
  /-- RSVL_W (R266). -/
  | rsvlW (c : CoreId) (rd : Fin 32) (ra : Fin 32) (ev : LoadEv)
  /-- RSVL_D (R266). -/
  | rsvlD (c : CoreId) (rd : Fin 32) (ra : Fin 32) (ev : LoadEv)
  /-- CNDS_W (R266). -/
  | cndsW (c : CoreId) (rd : Fin 32) (ra : Fin 32) (rb : Fin 32)
  /-- CNDS_D (R266). -/
  | cndsD (c : CoreId) (rd : Fin 32) (ra : Fin 32) (rb : Fin 32)
  /-- B_COND (R255). -/
  | bCond (c : CoreId) (cond : Fin 16) (off : BitVec 22)
  /-- BR (R252). -/
  | br (c : CoreId) (off : BitVec 26)
  /-- CALL (R252). -/
  | call (c : CoreId) (off : BitVec 26)
  /-- JR (R252). -/
  | jr (c : CoreId) (ra : Fin 32)
  /-- CALLR (R252). -/
  | callr (c : CoreId) (ra : Fin 32)
  /-- LOOP (R252). -/
  | loop (c : CoreId) (off : BitVec 22)
  /-- CBZ (R252). -/
  | cbz (c : CoreId) (ra : Fin 32) (off : BitVec 20)
  /-- CBNZ (R252). -/
  | cbnz (c : CoreId) (ra : Fin 32) (off : BitVec 20)
  /-- MFCR (R253). -/
  | mfcr (c : CoreId) (rd : Fin 32) (cr : Fin 32)
  /-- MTCR (R253). -/
  | mtcr (c : CoreId) (ra : Fin 32) (cr : Fin 32)
  /-- RFE (R262). -/
  | rfe (c : CoreId)
  /-- TRAP (R253). -/
  | trap (c : CoreId) (code : BitVec 5) (word : Option Word)
  /-- BKPT (R253). -/
  | bkpt (c : CoreId)
  /-- WFI (R253). -/
  | wfi (c : CoreId)
  /-- WFI_WAKE (R253). -/
  | wfiWake (c : CoreId)
  /-- FENCE (R268). -/
  | fence (c : CoreId)
  /-- IFENCE (R270). -/
  | ifence (c : CoreId)
  /-- MTLC (R253). -/
  | mtlc (c : CoreId) (ra : Fin 32)
  /-- MFLC (R253). -/
  | mflc (c : CoreId) (rd : Fin 32)
  /-- FADD (R283). -/
  | fadd (o : FpOp)
  /-- FSUB (R283). -/
  | fsub (o : FpOp)
  /-- FMUL (R283). -/
  | fmul (o : FpOp)
  /-- FMA (R283). -/
  | fma (o : FpOp)
  /-- FSQRT (R291). -/
  | fsqrt (o : FpOp)
  /-- FRE (R287). -/
  | fre (o : FpOp)
  /-- FRS (R288). -/
  | frs (o : FpOp)
  /-- FDC (R289). -/
  | fdc (o : FpOp)
  /-- FMIN (R283). -/
  | fmin (o : FpOp)
  /-- FMAX (R283). -/
  | fmax (o : FpOp)
  /-- FNEG (R283). -/
  | fneg (o : FpOp)
  /-- FABS (R283). -/
  | fabs (o : FpOp)
  /-- FMOV (R283). -/
  | fmov (o : FpOp)
  /-- FCMP (R285). -/
  | fcmp (o : FpOp)
  /-- FCMPS (R285). -/
  | fcmps (o : FpOp)
  /-- FCVT (R283). -/
  | fcvt (o : FpOp)
  /-- FCVTH (R283). -/
  | fcvth (o : FpOp)
  /-- FCVTB (R283). -/
  | fcvtb (o : FpOp)
  /-- FHCVT (R283). -/
  | fhcvt (o : FpOp)
  /-- FBCVT (R283). -/
  | fbcvt (o : FpOp)
  /-- FCVTIS32 (R286). -/
  | fcvtis32 (o : FpOp)
  /-- FCVTIU32 (R286). -/
  | fcvtiu32 (o : FpOp)
  /-- FCVTIS64 (R286). -/
  | fcvtis64 (o : FpOp)
  /-- FCVTIU64 (R286). -/
  | fcvtiu64 (o : FpOp)
  /-- ICVTFS32 (R283). -/
  | icvtfs32 (o : FpOp)
  /-- ICVTFU32 (R283). -/
  | icvtfu32 (o : FpOp)
  /-- ICVTFS64 (R283). -/
  | icvtfs64 (o : FpOp)
  /-- ICVTFU64 (R283). -/
  | icvtfu64 (o : FpOp)
  /-- FMVGF (R283). -/
  | fmvgf (o : FpOp)
  /-- FMVFG (R283). -/
  | fmvfg (o : FpOp)
  /-- MFFS (R283). -/
  | mffs (o : FpOp)
  /-- MTFS (R279). -/
  | mtfs (o : FpOp)
  /-- FLW (R281). -/
  | flw (o : LoadI)
  /-- FLD (R281). -/
  | fld (o : LoadI)
  /-- FSW (R281). -/
  | fsw (o : IntI)
  /-- FSD (R281). -/
  | fsd (o : IntI)
  /-- VSETL (R295). -/
  | vsetl (c : CoreId) (ew : Fin 4) (rd : Fin 32) (ra : Fin 32)
  /-- VADD (R296). -/
  | vadd (o : VecOp)
  /-- VSUB (R296). -/
  | vsub (o : VecOp)
  /-- VMUL (R296). -/
  | vmul (o : VecOp)
  /-- VAND (R296). -/
  | vand (o : VecOp)
  /-- VOR (R296). -/
  | vor (o : VecOp)
  /-- VXOR (R296). -/
  | vxor (o : VecOp)
  /-- VSHL (R296). -/
  | vshl (o : VecOp)
  /-- VSHRL (R296). -/
  | vshrl (o : VecOp)
  /-- VSHRA (R296). -/
  | vshra (o : VecOp)
  /-- VMINS (R296). -/
  | vmins (o : VecOp)
  /-- VMAXS (R296). -/
  | vmaxs (o : VecOp)
  /-- VMINU (R296). -/
  | vminu (o : VecOp)
  /-- VMAXU (R296). -/
  | vmaxu (o : VecOp)
  /-- VCMPEQ (R296). -/
  | vcmpeq (o : VecOp)
  /-- VCMPLTS (R296). -/
  | vcmplts (o : VecOp)
  /-- VCMPLTU (R296). -/
  | vcmpltu (o : VecOp)
  /-- VREDSUM (R296). -/
  | vredsum (o : VecOp)
  /-- VFADD (R296). -/
  | vfadd (o : VecFp)
  /-- VFSUB (R296). -/
  | vfsub (o : VecFp)
  /-- VFMUL (R296). -/
  | vfmul (o : VecFp)
  /-- VFMA (R296). -/
  | vfma (o : VecFp)
  /-- VFSQRT (R296). -/
  | vfsqrt (o : VecFp)
  /-- VFRE (R296). -/
  | vfre (o : VecFp)
  /-- VFRS (R296). -/
  | vfrs (o : VecFp)
  /-- VFDC (R296). -/
  | vfdc (o : VecFp)
  /-- VFMIN (R296). -/
  | vfmin (o : VecFp)
  /-- VFMAX (R296). -/
  | vfmax (o : VecFp)
  /-- VFCMPEQ (R296). -/
  | vfcmpeq (o : VecFp)
  /-- VFCMPLT (R296). -/
  | vfcmplt (o : VecFp)
  /-- VFCMPLE (R296). -/
  | vfcmple (o : VecFp)
  /-- VFCVTI (R296). -/
  | vfcvti (o : VecFp)
  /-- VFICVT (R296). -/
  | vficvt (o : VecFp)
  /-- VFREDSUM (R297). -/
  | vfredsum (o : VecFp)
  /-- VBCAST (R296). -/
  | vbcast (o : VecOp)
  /-- VBCASTG (R296). -/
  | vbcastg (o : VecOp)
  /-- VMOV (R296). -/
  | vmov (o : VecOp)
  /-- VSEL (R296). -/
  | vsel (o : VecOp)
  /-- KAND (R296). -/
  | kand (o : KOp)
  /-- KOR (R296). -/
  | kor (o : KOp)
  /-- KXOR (R296). -/
  | kxor (o : KOp)
  /-- KANDN (R296). -/
  | kandn (o : KOp)
  /-- KMOVG (R296). -/
  | kmovg (o : KOp)
  /-- KMOVK (R296). -/
  | kmovk (o : KOp)
  /-- KPOPC (R296). -/
  | kpopc (o : KOp)
  /-- KFIRST (R296). -/
  | kfirst (o : KOp)
  /-- VLD (R299). -/
  | vld (o : VecOp) (strided : Bool) (bad : List (Nat × Ecc))
  /-- VST (R300). -/
  | vst (o : VecOp) (strided : Bool)
  /-- VLDX (R299). -/
  | vldx (o : VecOp) (bad : List (Nat × Ecc))
  /-- VSTX (R300). -/
  | vstx (o : VecOp)
  /-- VLSEG (R298). -/
  | vlseg (o : VecOp) (nf : Fin 4) (bad : List (Nat × Ecc))
  /-- VSSEG (R298). -/
  | vsseg (o : VecOp) (nf : Fin 4)
  /-- MICROWORD (R40). -/
  | microword (x : MwEvents)
  /-- WELL_COMMIT (R52). -/
  | wellCommit
  /-- PLANE_SWAP (R59). -/
  | planeSwap (x : MwEvents)
  /-- SUMP_RESULT (R79). -/
  | sumpResult (parity : Bool)
  /-- S_REGISTER_VALID (R151). -/
  | sRegisterValid
  /-- TAP_COLLECT (R82). -/
  | tapCollect
  /-- SCRUB_OPERATION (R56). -/
  | scrubOperation (upset : Option Upset)
  /-- DISPATCH_PREPARATION (R105). -/
  | dispatchPreparation
  /-- DISPATCH (R105). -/
  | dispatch
  /-- PREEMPTION (R108). -/
  | preemption
  /-- COMMIT_OVERRUN (R103). -/
  | commitOverrun
  /-- FIELD_CLEAR (R71). -/
  | fieldClear (f : Fin 16)
  /-- FIELD_LIVE (R71). -/
  | fieldLive (f : Fin 16)
  /-- FIELD_DRY (R72). -/
  | fieldDry (f : Fin 16)
  /-- CONTROL_STORE_WRITE (R101). -/
  | controlStoreWrite (q : Requester) (off : BitVec 18) (wide : Bool) (v : Dbl)
  /-- DISP_EN (R121). -/
  | dispEn (q : Requester) (on : Bool)
  /-- ENTRY_ACCEPTED (R148). -/
  | entryAccepted
  /-- OVL_ADD (R69). -/
  | ovlAdd (q : Requester)
  /-- OVL_LOG (R69). -/
  | ovlLog (q : Requester)
  /-- OVL_CLEAR (R69). -/
  | ovlClear (q : Requester)
  /-- LOG_APPEND_COMPLETE (R69). -/
  | logAppendComplete
  /-- TILE_CTL_INJ (R86). -/
  | tileCtlInj (q : Requester) (t : Fin 1024) (v : Word)
  /-- TILEOR_SNAPSHOT (R85). -/
  | tileorSnapshot (q : Requester)
  /-- LATCHED_HIGH_READ (R408). -/
  | latchedHighRead (q : Requester) (a : BitVec 48)
  /-- READ_CLEAR (R8). -/
  | readClear (q : Requester) (a : BitVec 48) (ev : Word)
  /-- REGISTER_WRITE (R8). -/
  | registerWrite (q : Requester) (a : BitVec 48) (v : Word) (ev : Word)
  /-- TICK_CTL (R157). -/
  | tickCtl (q : Requester) (v : Word)
  /-- TICK_PERIOD (R159). -/
  | tickPeriod (q : Requester) (v : Word)
  /-- TICK_FRAME_LEN (R159). -/
  | tickFrameLen (q : Requester) (v : Word)
  /-- SYSREF_CAPTURE (R228). -/
  | sysrefCapture (d : Nat)
  /-- TICK_BOUNDARY (R158). -/
  | tickBoundary (tie : Bool)
  /-- LATE_WARNING (R165). -/
  | lateWarning (tie : Bool)
  /-- DEVCLK_LOST (R401). -/
  | devclkLost
  /-- DEVCLK_PRESENT (R401). -/
  | devclkPresent (khz : Nat)
  /-- ISSUE_RETIRE (R148). -/
  | issueRetire
  /-- AWAIT_RETIRE (R154). -/
  | awaitRetire
  /-- SREAD_RETIRE (R155). -/
  | sreadRetire
  /-- TEND_RETIRE (R156). -/
  | tendRetire (d : Nat)
  /-- PUMP_TAIL (R189). -/
  | pumpTail (q : Requester) (f : Fin 16) (v : Word)
  /-- DESCRIPTOR_FETCH (R189). -/
  | descriptorFetch (f : Fin 16) (ecc : Ecc)
  /-- PUMP_PLANE_SHIFTED (R187). -/
  | pumpPlaneShifted (f : Fin 16) (bad : List (BitVec 48 × Ecc)) (portA : List (BitVec 48 × BitVec 512 × BitVec 64))
  /-- DESCRIPTOR_COMPLETE (R193). -/
  | descriptorComplete (f : Fin 16)
  /-- PUMP_RESUME (R193). -/
  | pumpResume (q : Requester) (f : Fin 16)
  /-- PUMP_FLUSH (R193). -/
  | pumpFlush (q : Requester) (f : Fin 16)
  /-- CISTERN_PWR (R175). -/
  | cisternPwr (q : Requester) (k : Fin 4) (v : Word)
  /-- BANK_STATE_CHANGE_END (R175). -/
  | bankStateChangeEnd (n : Fin 64)
  /-- CISTERN_PORTB_OWNER (R177). -/
  | cisternPortbOwner (q : Requester) (hi : Bool) (v : Word)
  /-- OWNER_CHANGE_EFFECTIVE (R177). -/
  | ownerChangeEffective (n : Fin 64)
  /-- CW_REQ (R220). -/
  | cwReq (p : Fin 8) (a : BitVec 20) (v : BitVec 256) (be : BitVec 32) (portA : Option (BitVec 512 × BitVec 64))
  /-- CW_DONE (R220). -/
  | cwDone (p : Fin 8)
  /-- CR_REQ (R220). -/
  | crReq (p : Fin 8) (a : BitVec 20)
  /-- CR_DVALID (R220). -/
  | crDvalid (p : Fin 8) (ecc : Ecc)
  /-- WIPE (R180). -/
  | wipe (q : Requester)
  /-- WIPE_COMPLETE (R181). -/
  | wipeComplete (ok : Bool)
  /-- TAMPER_N (R393). -/
  | tamperN (low : Bool)
  /-- VOLTAGE_GLITCH (R389). -/
  | voltageGlitch (rail : Fin 10)
  /-- CLOCK_GLITCH (R389). -/
  | clockGlitch
  /-- LOAD (R212). -/
  | load (q : Requester)
  /-- RELOAD (R215). -/
  | reload (q : Requester) (bay : Fin 8) (atTick : Bool)
  /-- START (R213). -/
  | start (q : Requester) (atTick : Bool)
  /-- STOP (R214). -/
  | stop (q : Requester)
  /-- CONFIGURATION_FRAME (R208). -/
  | configurationFrame (ecc : Ecc) (g : Fin 4)
  /-- FABRIC_RUNNING (R213). -/
  | fabricRunning (d : Nat)
  /-- BAY_ISOLATION (R215). -/
  | bayIsolation (d : Nat)
  /-- BAY_RELEASE (R215). -/
  | bayRelease (d : Nat)
  /-- BACKGROUND_CHECK (R210). -/
  | backgroundCheck (seq : Nat) (upset : Bool)
  /-- GCLK_FAST (R199). -/
  | gclkFast (n : Fin 4) (mhz : BitVec 10)
  /-- SER_DATA_WRITE (R222). -/
  | serDataWrite (q : Requester) (i : Fin 5) (v : Word)
  /-- SER_DATA_READ (R222). -/
  | serDataRead (q : Requester) (i : Fin 5)
  /-- SER_CTL (R222). -/
  | serCtl (q : Requester) (i : Fin 5) (v : Word)
  /-- SERIAL_BYTE_SENT (R222). -/
  | serialByteSent (i : Fin 5) (nack : Bool)
  /-- SERIAL_BYTE_RECEIVED (R222). -/
  | serialByteReceived (i : Fin 5) (b : Byte)
  /-- JESD_CTL (R226). -/
  | jesdCtl (q : Requester) (v : Word)
  /-- RX_LANE_LOCK (R230). -/
  | rxLaneLock (l : Fin 16) (headers : BitVec 64) (crcBad : List (Fin 16))
  /-- LOSS_OF_LOCK (R230). -/
  | lossOfLock (l : Fin 16) (headers : BitVec 64) (crcBad : List (Fin 16))
  /-- LEMC_BOUNDARY (R228). -/
  | lemcBoundary (d : Nat) (crcBad : List (Fin 16))
  /-- RX_RELEASE (R230). -/
  | rxRelease (k : Fin 4) (d : Nat) (samples : List (List (BitVec 16))) (crcBad : List (Fin 16 × Fin 16)) (headBad : List (Fin 16 × Fin 256))
  /-- BURST_REQUEST (R238). -/
  | burstRequest (k : Fin 4) (d : Nat) (samples : List (List (BitVec 16)))
  /-- BURST_TRUNCATION (R238). -/
  | burstTruncation (k : Fin 4) (samples : List (List (BitVec 16)))
  /-- VALVE_CLOSE (R235). -/
  | valveClose (d : Nat)
  /-- VALVE_OPEN (R236). -/
  | valveOpen (d : Nat)
  /-- SLOT_BOUNDARY (R239). -/
  | slotBoundary (d : Nat)
  /-- TX_PERMIT (R241). -/
  | txPermit (level : Bool) (d : Nat) (late : Bool)
  /-- LIMIT_WRITE (R242). -/
  | limitWrite (off : BitVec 10) (v : Word)
  /-- VALVE_LOCK (R242). -/
  | valveLock
  /-- VALVE_SHUT (R243). -/
  | valveShut (q : Requester) (v : Word)
  /-- INTERRUPT (R261). -/
  | interrupt (c : CoreId)
  /-- WDOG_CTL (R274). -/
  | wdogCtl (q : Requester) (c : CoreId) (v : Word)
  /-- WDOG_KICK (R274). -/
  | wdogKick (q : Requester) (c : CoreId) (v : Word)
  /-- CORE_WATCHDOG_EXPIRY (R274). -/
  | coreWatchdogExpiry (c : CoreId)
  /-- IRQ_SET (R275). -/
  | irqSet (q : Requester) (c : CoreId) (v : Word)
  /-- SEQCORE_REL_GO (R275). -/
  | seqcoreRelGo (q : Requester)
  /-- REQUEST (R306). -/
  | request (r : ReqFlit)
  /-- RESPONSE (R323). -/
  | response (waiting : List (Nat × Nat)) (parity : Bool)
  /-- SNOOP (R308). -/
  | snoop (x : SnoopFlit)
  /-- URGENCY_AGING (R313). -/
  | urgencyAging (net : Fin 3) (i : Nat)
  /-- ISOLATION (R318). -/
  | isolation (s : Fin 32) (unanswered : List Nat)
  /-- DRAIN_END (R320). -/
  | drainEnd (s : Fin 32) (unanswered : List Nat)
  /-- FLIP (R322). -/
  | flip (q : Requester)
  /-- HOST_ACCESS (R326). -/
  | hostAccess (winb : Bool) (off : BitVec 26) (write : Bool) (len : Nat) (v : List Byte) (bad : List (Nat × Ecc))
  /-- DOORBELL (R333). -/
  | doorbell (r : Fin 4) (tail : BitVec 13)
  /-- COMMAND_START (R333). -/
  | commandStart (s : Slot)
  /-- RING_ENABLE (R332). -/
  | ringEnable (ring : Fin 6) (v : Word) (written : Bool)
  /-- EVENT (R334). -/
  | event (code : BitVec 16) (v : Dbl) (written : Bool)
  /-- MSIX_SEND (R334). -/
  | msixSend (q : Requester) (vec : BitVec 6)
  /-- IDENTIFY (R337). -/
  | identify (buf : Dbl) (len : Nat) (dmaOk : Bool)
  /-- STATUS (R335). -/
  | status
  /-- LC_QUERY (R335). -/
  | lcQuery
  /-- PRIME (R340). -/
  | prime (img : FwImage)
  /-- FW_COMMIT (R335). -/
  | fwCommit
  /-- WL_LOAD (R342). -/
  | wlLoad (img : WlImage)
  /-- FABRIC_START (R335). -/
  | fabricStart (atTick : Bool)
  /-- FABRIC_STOP (R335). -/
  | fabricStop
  /-- BAY_RELOAD (R335). -/
  | bayReload (bay : Fin 8) (frames : List (BitVec 2048)) (dmaOk : Bool)
  /-- LINK_UP (R335). -/
  | linkUp (timeoutMs : Nat)
  /-- RUN (R354). -/
  | run (role : Fin 4)
  /-- STOP_RUN (R375). -/
  | stopRun
  /-- DATA_WRITE (R335). -/
  | dataWrite (dst : BitVec 48) (content : List Byte) (dmaOk : Bool)
  /-- DATA_READ (R335). -/
  | dataRead (src : BitVec 48) (len : Nat) (dmaOk : Bool) (bad : List (Nat × Ecc))
  /-- SEED (R335). -/
  | seed (s : BitVec 256)
  /-- SELFTEST_FULL (R409). -/
  | selftestFull (repair : Bool) (log : Bool)
  /-- SELFTEST_SLACK (R412). -/
  | selftestSlack
  /-- QUIESCE (R381). -/
  | quiesce
  /-- USER (R335). -/
  | user (params : List Byte) (res0 : Dbl) (res1 : Dbl)
  /-- HOSTIF_B_RESET (R343). -/
  | hostifBReset (v : Word)
  /-- FUNCTION_LEVEL_RESET (R325). -/
  | functionLevelReset
  /-- PERST_N (R390). -/
  | perstN
  /-- HOSTIF_B_LC_REQ (R345). -/
  | hostifBLcReq (v : Word)
  /-- LIFE_CYCLE_RESET (R345). -/
  | lifeCycleReset (wipeOk : Bool)
  /-- PRIMING_TIMEOUT (R341). -/
  | primingTimeout
  /-- HELLO (R354). -/
  | hello (h : Hello) (retx : Nat)
  /-- HELLO_TIMEOUT (R354). -/
  | helloTimeout
  /-- ARM (R355). -/
  | arm (retx : Nat)
  /-- JOIN (R356). -/
  | joinMsg (n : Nat) (phase : Nat) (frame : Nat) (inframe : Nat) (retx : Nat)
  /-- CKPT (R372). -/
  | ckpt (f : Nat) (regions : List (List Byte)) (crcs : List Dbl) (ended : Bool) (retx : Nat)
  /-- FAULT (R364). -/
  | faultMsg (d : Nat) (retx : Nat)
  /-- STEPDOWN (R375). -/
  | stepdown (boundary : Option Nat) (d : Nat) (retx : Nat)
  /-- FWD (R358). -/
  | fwd (t : Nat) (x : Mirrored) (code : BitVec 4) (retx : Nat)
  /-- ACK (R359). -/
  | ack (t : Nat) (retx : Nat)
  /-- DIGEST (R362). -/
  | digest (tick : Nat) (value : Dbl) (retx : Nat)
  /-- HEARTBEAT_SILENCE (R364). -/
  | heartbeatSilence (d : Nat)
  /-- OWN_IN_TIMEOUT (R364). -/
  | ownInTimeout
  /-- TAKEOVER (R365). -/
  | takeover (d : Nat)
  /-- OWNERSHIP_CONFLICT (R366). -/
  | ownershipConflict
  /-- TWIN_LINK_DOWN (R352). -/
  | twinLinkDown
  /-- DIGEST_LATE (R362). -/
  | digestLate
  /-- MIRROR_DEADLINE (R359). -/
  | mirrorDeadline
  /-- TWIN_CKPT_GO (R371). -/
  | twinCkptGo (q : Requester)
  /-- CHECKPOINT_COMPLETE (R371). -/
  | checkpointComplete (ended : Bool)
  /-- ENTER_LOCKSTEP (R373). -/
  | enterLockstep
  /-- RESYNC_FAIL (R373). -/
  | resyncFail
  /-- HANDOVER (R375). -/
  | handover (d : Nat)
  /-- POWER_FLD_REQ (R385). -/
  | powerFldReq (q : Requester) (v : Word)
  /-- FIELD_SWITCH_END (R385). -/
  | fieldSwitchEnd (f : Fin 16)
  /-- BCAST_REQ (R386). -/
  | bcastReq (q : Requester) (on : Bool)
  /-- EDGE_REQ (R386). -/
  | edgeReq (q : Requester) (on : Bool) (ready : Bool)
  /-- POWER_ON (R379). -/
  | powerOn
  /-- VDD_AON_REMOVED (R379). -/
  | vddAonRemoved
  /-- START_UP_SEQUENCE (R392). -/
  | startUpSequence (x : StartUp)
  /-- WAKE (R381). -/
  | wake
  /-- THERMAL_SAMPLE (R398). -/
  | thermalSample (temps : List Byte)
  /-- WELLHEAD_WDOG (R402). -/
  | wellheadWdog (q : Requester) (v : Word)
  /-- WELLHEAD_WDOG_KICK (R402). -/
  | wellheadWdogKick (q : Requester) (v : Word)
  /-- WELLHEAD_WATCHDOG_EXPIRY (R402). -/
  | wellheadWatchdogExpiry
  /-- FAULT_HOLD_ENTRY (R406). -/
  | faultHoldEntry
  /-- SELFTEST_COMPLETE (R410). -/
  | selftestComplete (r : StResult)
  /-- SLACK_ROUTINE (R412). -/
  | slackRoutine (x : SlackRun)
  /-- IDCODE (R418). -/
  | idcode
  /-- SAMPLE (R418). -/
  | sample (pins : PinPic)
  /-- EXTEST (R418). -/
  | extest (pins : PinPic)
  /-- DBGREG (R419). -/
  | dbgreg (wr : Bool) (off : BitVec 14) (v : Word)
  /-- DBGCHAL (R421). -/
  | dbgchal
  /-- DBGRESP (R421). -/
  | dbgresp (slot : Byte) (r : BitVec 384) (s : BitVec 384)
  /-- UNLOCK_VERIFY (R421). -/
  | unlockVerify
  /-- RESETREQ (R418). -/
  | resetreq (b : Bool)
  /-- BYPASS (R418). -/
  | bypass
  /-- HALT (R423). -/
  | halt (q : Requester) (c : CoreId)
  /-- CORE_HALT (R423). -/
  | coreHalt (c : CoreId)
  /-- RESUME (R427). -/
  | resume (q : Requester) (c : CoreId)
  /-- STEP (R426). -/
  | step (q : Requester) (c : CoreId)
  /-- STEP_BLOCKED (R426). -/
  | stepBlocked (c : CoreId)
  /-- DBG_MEMORY_GO (R429). -/
  | dbgMemoryGo (c : CoreId)
  /-- DBG_REG (R428). -/
  | dbgReg (q : Requester) (c : CoreId) (hi : Bool) (wr : Bool) (v : Word)
  /-- MSTEP (R433). -/
  | mstep (q : Requester)
  /-- FREEZE (R434). -/
  | freeze (q : Requester) (on : Bool)
  /-- DBG_TXD (R435). -/
  | dbgTxd (q : Requester) (c : CoreId) (wr : Bool) (b : Byte)
  /-- DBG_RXD (R435). -/
  | dbgRxd (q : Requester) (c : CoreId) (wr : Bool) (b : Byte)
  /-- BURST_REQUEST_END (R238). -/
  | burstRequestEnd (k : Fin 4) (samples : List (List (BitVec 16)))
  /-- VALVE_BLOCK_BOUNDARY (R242). -/
  | valveBlockBoundary (d : Nat)
  /-- OWN_IN_CHANGE (R364). -/
  | ownInChange (level : Bool) (d : Nat)
  /-- TWIN_LINK_UP (R352). -/
  | twinLinkUp
  /-- END_OF_EXTENDED_MULTIBLOCK_MARKER (R230). -/
  | endOfExtendedMultiblockMarker (l : Fin 16) (crcBad : List (Fin 16))
  /-- TAP_CLOCK_EDGE (R82). -/
  | tapClockEdge (passed : Nat) (trees : BitVec 4) (pins : BitVec 48)
  /-- PERST_N_RELEASE (R392). -/
  | perstNRelease
  /-- LINK_UP_TIMEOUT (R335). -/
  | linkUpTimeout
  /-- CHECKPOINT_COPY_END (R372). -/
  | checkpointCopyEnd
  deriving DecidableEq, Repr

end Sys2Proof
end

