-- ==== Sys2Proof/Decode.lean ====
section
/-! DEFINITION. The instruction words of the cores (05 R146, R147; 09 R251 to R254; 10 R281, R283, R296). The table gives no
row any bits; a core's instructions have the words of those chapters. -/
namespace Sys2Proof

/-- Bits [hi:lo] of a word. -/
def wordField (w hi lo : Nat) : Nat := w / 2 ^ lo % 2 ^ (hi + 1 - lo)

/-- Five bits from lo on, as a register number. -/
def wordReg (w lo : Nat) : Fin 32 := ⟨w / 2 ^ lo % 32, Nat.mod_lt _ (by decide)⟩

/-- Four bits from lo on. -/
def wordNib (w lo : Nat) : Fin 16 := ⟨w / 2 ^ lo % 16, Nat.mod_lt _ (by decide)⟩

/-- Three bits from lo on. -/
def wordOct (w lo : Nat) : Fin 8 := ⟨w / 2 ^ lo % 8, Nat.mod_lt _ (by decide)⟩

/-- Two bits from lo on. -/
def wordTwo (w lo : Nat) : Fin 4 := ⟨w / 2 ^ lo % 4, Nat.mod_lt _ (by decide)⟩

/-- x where every bit of the mask is 0 in the word: bits that a row does not use must be 0 (09 R251). -/
def unused (w mask : Nat) (x : Option Instr) : Option Instr := if w &&& mask = 0 then x else none

/-- What befalls a load is none of its word's bits: nothing. -/
def noEv : LoadEv := ⟨.clean, .clean, false, false⟩

/-- The masks of the fields rd, ra and rb. -/
def rdBits : Nat := 0x03E00000
/-- ra. -/
def raBits : Nat := 0x001F0000
/-- rb. -/
def rbBits : Nat := 0x0000F800

/-- Major 0x01: func[10] W, func[9:0] the operation (09 R254). -/
def decodeIntR (o : IntR) (op : Nat) : Option Instr :=
  match op with
  | 0 => some (.add o) | 1 => some (.sub o) | 2 => some (.adc o) | 3 => some (.sbc o) | 4 => some (.neg o)
  | 5 => some (.abs o) | 6 => some (.cmp o) | 7 => some (.and o) | 8 => some (.or o) | 9 => some (.xor o)
  | 10 => some (.andn o) | 11 => some (.shl o) | 12 => some (.shrl o) | 13 => some (.shra o) | 14 => some (.mul o)
  | 15 => some (.mulhu o) | 16 => some (.mulhs o) | 17 => some (.clz o) | 18 => some (.popc o) | 19 => some (.mov o)
  | _ => none

/-- Major 0x09: the division sequence (09 R257). -/
def decodeDiv (c : CoreId) (w : Nat) (o : IntR) : Option Instr :=
  match wordField w 10 0 with
  | 0 => some (.dvsetu o) | 0x400 => some (.dvsetu o)
  | 1 => some (.dvsets o) | 0x401 => some (.dvsets o)
  | 2 => unused w (rdBits + raBits + rbBits) (some (.dvstep c))
  | 3 => unused w (raBits + rbBits) (some (.dvq c o.rd))
  | 4 => unused w (raBits + rbBits) (some (.dvr c o.rd))
  | _ => none

/-- Major 0x0A: the system functions (09 R253). -/
def decodeSys (c : CoreId) (w : Nat) (o : IntR) : Option Instr :=
  match wordField w 10 0 with
  | 0 => unused w raBits (some (.mfcr c o.rd o.rb))
  | 1 => unused w rdBits (some (.mtcr c o.ra o.rb))
  | 2 => unused w (rdBits + raBits + rbBits) (some (.rfe c))
  | 3 => unused w (raBits + rbBits) (some (.trap c (BitVec.ofNat 5 o.rd.val) none))
  | 4 => unused w (rdBits + raBits + rbBits) (some (.bkpt c))
  | 5 => unused w (rdBits + raBits + rbBits) (some (.wfi c))
  | 6 => unused w (rdBits + raBits + rbBits) (some (.fence c))
  | 7 => unused w (rdBits + raBits + rbBits) (some (.ifence c))
  | 8 => unused w (rdBits + rbBits) (some (.mtlc c o.ra))
  | 9 => unused w (raBits + rbBits) (some (.mflc c o.rd))
  | _ => none

/-- Major 0x07: constants; op in [20:18], [17:16] 0 (09 R252). -/
def decodeConst (c : CoreId) (w : Nat) : Option Instr :=
  let rd := wordReg w 21
  let imm := BitVec.ofNat 16 w
  unused w 0x30000 (match wordField w 20 18 with
    | 0 => some (.ldiz c rd imm)
    | 1 => some (.ldis c rd imm)
    | 2 => some (.shin c rd imm)
    | _ => none)

/-- Majors 0x17, 0x1C and 0x1D: indexed accesses and reservations (09 R252, R266). -/
def decodeIdx (c : CoreId) (w : Nat) (o : IntR) : Option Instr :=
  let x : IdxOp := ⟨c, o.rd, o.ra, o.rb, BitVec.ofNat 3 w, w.testBit 3⟩
  match wordField w 31 26, wordField w 10 0 with
  | 0x17, _ => unused w 0x7F0 (some (.indexedLoad x noEv))
  | 0x1C, _ => unused w 0x7F0 (some (.indexedStore x))
  | 0x1D, 0 => unused w rbBits (some (.rsvlW c o.rd o.ra noEv))
  | 0x1D, 1 => unused w rbBits (some (.rsvlD c o.rd o.ra noEv))
  | 0x1D, 2 => some (.cndsW c o.rd o.ra o.rb)
  | 0x1D, 3 => some (.cndsD c o.rd o.ra o.rb)
  | _, _ => none

/-- Major 0x28: scalar arithmetic (10 R283). -/
def decodeFp (o : FpOp) (op : Nat) : Option Instr :=
  match op with
  | 0 => some (.fadd o) | 1 => some (.fsub o) | 2 => some (.fmul o) | 3 => some (.fma o) | 4 => some (.fsqrt o)
  | 5 => some (.fre o) | 6 => some (.frs o) | 7 => some (.fdc o) | 8 => some (.fmin o) | 9 => some (.fmax o)
  | 10 => some (.fneg o) | 11 => some (.fabs o) | 12 => some (.fmov o)
  | _ => none

/-- Major 0x29: scalar compares, conversions and moves (10 R283). -/
def decodeFpMove (o : FpOp) (op : Nat) : Option Instr :=
  match op with
  | 0 => some (.fcmp o) | 1 => some (.fcmps o) | 2 => some (.fcvt o) | 3 => some (.fcvth o) | 4 => some (.fcvtb o)
  | 5 => some (.fhcvt o) | 6 => some (.fbcvt o) | 8 => some (.fcvtis32 o) | 9 => some (.fcvtiu32 o)
  | 10 => some (.fcvtis64 o) | 11 => some (.fcvtiu64 o) | 12 => some (.icvtfs32 o) | 13 => some (.icvtfu32 o)
  | 14 => some (.icvtfs64 o) | 15 => some (.icvtfu64 o) | 16 => some (.fmvgf o) | 17 => some (.fmvfg o)
  | 18 => some (.mffs o) | 19 => some (.mtfs o)
  | _ => none

/-- Major 0x2F: vector integer operations (10 R296). -/
def decodeVec (o : VecOp) (op : Nat) : Option Instr :=
  match op with
  | 0 => some (.vadd o) | 1 => some (.vsub o) | 2 => some (.vmul o) | 3 => some (.vand o) | 4 => some (.vor o)
  | 5 => some (.vxor o) | 6 => some (.vshl o) | 7 => some (.vshrl o) | 8 => some (.vshra o) | 9 => some (.vmins o)
  | 10 => some (.vmaxs o) | 11 => some (.vminu o) | 12 => some (.vmaxu o) | 13 => some (.vcmpeq o)
  | 14 => some (.vcmplts o) | 15 => some (.vcmpltu o) | 16 => some (.vredsum o)
  | _ => none

/-- Major 0x30: vector floating point (10 R296). -/
def decodeVecFp (o : VecFp) (op : Nat) : Option Instr :=
  match op with
  | 0 => some (.vfadd o) | 1 => some (.vfsub o) | 2 => some (.vfmul o) | 3 => some (.vfma o) | 4 => some (.vfsqrt o)
  | 5 => some (.vfre o) | 6 => some (.vfrs o) | 7 => some (.vfdc o) | 8 => some (.vfmin o) | 9 => some (.vfmax o)
  | 10 => some (.vfcmpeq o) | 11 => some (.vfcmplt o) | 12 => some (.vfcmple o) | 13 => some (.vfcvti o)
  | 14 => some (.vficvt o) | 15 => some (.vfredsum o)
  | _ => none

/-- Major 0x31: vector moves and, with K and EW 0, predicates (10 R296). -/
def decodeVecMove (w : Nat) (o : VecOp) (op : Nat) : Option Instr :=
  let k : KOp := ⟨o.c, o.rd, o.ra, o.rb⟩
  let pred (i : Instr) : Option Instr := unused w 0x7C0 (some i)
  match op with
  | 0 => some (.vbcast o) | 1 => some (.vbcastg o) | 2 => some (.vmov o) | 3 => some (.vsel o)
  | 4 => pred (.kand k) | 5 => pred (.kor k) | 6 => pred (.kxor k) | 7 => pred (.kandn k) | 8 => pred (.kmovg k)
  | 9 => pred (.kmovk k) | 10 => pred (.kpopc k) | 11 => pred (.kfirst k)
  | _ => none

/-- Majors 0x32 to 0x37: vector memory accesses (10 R281, R298). -/
def decodeVecMem (w : Nat) (o : VecOp) : Option Instr :=
  let nf := wordTwo w 4
  match wordField w 31 26 with
  | 0x32 => unused w 0x3E (some (.vld o (w.testBit 0) []))
  | 0x33 => unused w 0x3E (some (.vst o (w.testBit 0)))
  | 0x34 => unused w 0x3F (some (.vldx o []))
  | 0x35 => unused w 0x3F (some (.vstx o))
  | 0x36 => unused w 0xF (some (.vlseg o nf []))
  | 0x37 => unused w 0xF (some (.vsseg o nf))
  | _ => none

/-- Major 0x3A: ACTL, minor opcode in [25:22] (05 R147). -/
def decodeActl (c : CoreId) (w : Nat) : Option Instr :=
  let g := wordReg w 17
  match wordField w 25 22 with
  | 0 => unused w 0x3FFFFE (some (.await c (w.testBit 0)))
  | 1 => unused w 0x3FFF (some (.sread c g (wordOct w 14)))
  | 2 => unused w 0x3FFFFF (some (.tend c 0))
  | 3 => unused w 0x1FFF (some (.ppset c g (wordNib w 13)))
  | 4 => unused w 0x1FFF (some (.ppget c g (wordNib w 13)))
  | 5 => unused w 0x3E1000 (some (.ppadd c (wordNib w 13) (BitVec.ofNat 12 w)))
  | _ => none

/-- The instruction that core c reads from a 32-bit word; none: illegal, cause 2 (09 R251, R252). Where a row's operand says
what no bit of its word says (what befalls a load, the word after an RPT, the DEVCLK cycle of a TEND) it takes its plainest value.
Register and value checks that a row makes of operands its word can hold are its meaning's. -/
def decodeCore (c : CoreId) (n : Nat) : Option Instr :=
  let w := n % 2 ^ 32
  let o : IntR := ⟨c, w.testBit 10, wordReg w 21, wordReg w 16, wordReg w 11⟩
  let i : IntI := ⟨c, o.rd, o.ra, BitVec.ofNat 16 w⟩
  let l : LoadI := ⟨i, noEv⟩
  let f : FpOp := ⟨c, w.testBit 10, BitVec.ofNat 3 (w / 128), o.rd, o.ra, o.rb⟩
  let v : VecOp := ⟨c, wordOct w 8, wordTwo w 6, o.rd, o.ra, o.rb⟩
  let issue (mk : CoreId → BitVec 10 → Fin 16 → Fin 16 → Fin 16 → Fin 8 → Bool → Instr) : Option Instr :=
    some (mk c (BitVec.ofNat 10 (w / 65536)) (wordNib w 12) (wordNib w 8) (wordNib w 4) (wordOct w 1) (w.testBit 0))
  match wordField w 31 26 with
  | 0x01 => decodeIntR o (wordField w 9 0)
  | 0x02 => some (.addi i)
  | 0x03 => some (.cmpi i)
  | 0x04 => some (.andi i)
  | 0x05 => some (.ori i)
  | 0x06 => some (.xori i)
  | 0x07 => decodeConst c w
  | 0x08 => unused w 0xFC00 (some (.shiftByImmediate c o.rd o.ra (BitVec.ofNat 7 w) (wordTwo w 7) (w.testBit 9)))
  | 0x09 => decodeDiv c w o
  | 0x0A => decodeSys c w o
  | 0x0B => unused w 0x3FFFFFF (some (.rpt c 0))
  | 0x10 => some (.lb l)
  | 0x11 => some (.lbu l)
  | 0x12 => some (.lh l)
  | 0x13 => some (.lhu l)
  | 0x14 => some (.lw l)
  | 0x15 => some (.lwu l)
  | 0x16 => some (.ld l)
  | 0x17 => decodeIdx c w o
  | 0x18 => some (.sb i)
  | 0x19 => some (.sh i)
  | 0x1A => some (.sw i)
  | 0x1B => some (.sd i)
  | 0x1C => decodeIdx c w o
  | 0x1D => decodeIdx c w o
  | 0x20 => some (.bCond c (wordNib w 22) (BitVec.ofNat 22 w))
  | 0x21 => some (.br c (BitVec.ofNat 26 w))
  | 0x22 => some (.call c (BitVec.ofNat 26 w))
  | 0x23 => match wordField w 10 0 with
    | 0 => unused w (rdBits + rbBits) (some (.jr c o.ra))
    | 1 => unused w (rdBits + rbBits) (some (.callr c o.ra))
    | _ => none
  | 0x24 => unused w 0x3C00000 (some (.loop c (BitVec.ofNat 22 w)))
  | 0x25 => some (if w.testBit 20 then .cbnz c o.rd (BitVec.ofNat 20 w) else .cbz c o.rd (BitVec.ofNat 20 w))
  | 0x28 => decodeFp f (wordField w 6 0)
  | 0x29 => decodeFpMove f (wordField w 6 0)
  | 0x2A => some (.flw l)
  | 0x2B => some (.fld l)
  | 0x2C => some (.fsw i)
  | 0x2D => some (.fsd i)
  | 0x2E => unused w (rbBits + 0x73F) (some (.vsetl c v.ew o.rd o.ra))
  | 0x2F => decodeVec v (wordField w 5 0)
  | 0x30 => decodeVecFp ⟨c, v.k, w.testBit 7, BitVec.ofNat 3 (w / 16), o.rd, o.ra, o.rb⟩ (wordField w 3 0)
  | 0x31 => decodeVecMove w v (wordField w 5 0)
  | 0x32 => decodeVecMem w v
  | 0x33 => decodeVecMem w v
  | 0x34 => decodeVecMem w v
  | 0x35 => decodeVecMem w v
  | 0x36 => decodeVecMem w v
  | 0x37 => decodeVecMem w v
  | 0x38 => issue Instr.issn
  | 0x39 => issue Instr.issu
  | 0x3A => decodeActl c w
  | _ => none

/-- The command a word of nbits bits spells by the table's bits: the table gives no row bits, but the sequencer core's
instructions have 32-bit words of their own. -/
def decodeTableWord (nbits w : Nat) : Option Instr := if nbits = 32 then decodeCore .seq w else none

end Sys2Proof
end

