-- ==== Sys2Proof/Config.lean ====
section
/-! DEFINITION. What one implementation fixes and what the manual leaves open. Every value here has no body: a
claim is true whatever it is (assumption log 2). -/
namespace Sys2Proof

/-! ### The edge fabric's structure (07 R195 to R201, R217 to R223) -/

/-- The direction in which a wire carries its signal (07 R197). -/
inductive Heading where
  | east | west | north | south
  deriving DecidableEq, Repr

/-- A wire: its direction, its length of 1, 4 or 16 blocks, the block where it starts, its number there (07 R197). -/
structure Wire where
  dir : Heading
  len : Nat
  col : Nat
  row : Nat
  num : Nat
  deriving DecidableEq, Repr

/-- A signal that a hard block or pin gives the fabric (07 R217 to R223). serial: line i of a controller: UART 0 TXD; I²C 0
SCL low, 1 SDA low, 2 SCL, 3 SDA; SPI 0 SCLK, 1 MOSI, 2 to 5 CS_N. -/
inductive HardIn where
  | rxData (l : Fin 16) (i : Fin 128) | rxValid (l : Fin 16) | rxMbstart (l : Fin 16) | rxErr (l : Fin 16)
  | txMbstart (l : Fin 16)
  | vtOpen | vtGrant (k : Fin 4) | vtSupp (k : Fin 4) | vtClip (k : Fin 4)
  | cwRdy (p : Fin 8) | cwDone (p : Fin 8) | cwErr (p : Fin 8)
  | crRdy (p : Fin 8) | crData (p : Fin 8) (i : Fin 256) | crDvalid (p : Fin 8) | crErr (p : Fin 8)
  | tapNv | tapNor | tapUv | tapUor | tapGv | tapG (g : Fin 4)
  | tickP | frameP
  | serial (c : Fin 5) (i : Fin 6) | serialOe (c : Fin 5) (i : Fin 6)
  | pin (i : Fin 48)
  deriving DecidableEq, Repr

/-- A signal that the fabric gives a user pin (07 R223). -/
inductive PinOut where
  | level (i : Fin 48) | enable (i : Fin 48)
  deriving DecidableEq, Repr

/-- A source that a multiplexer can choose: a constant, a cell's output, a wire, a GEN net, a hard block's signal
(07 R196 to R201). Cell 8·(64·by + bx) + i is cell i of block (bx, by). -/
inductive EdgeNet where
  | zero | one | cell (n : Nat) | wire (w : Wire) | gen (n : Fin 4) | hard (h : HardIn)
  deriving DecidableEq, Repr, Inhabited

/-- A cell's configuration (07 R196). ce: 0 always, 1 to 4 GEN0 to GEN3, 5 input in2; rst: the GEN net of a synchronous
reset; sel: the selects of the input multiplexers in0 to in3. -/
structure CellCfg where
  lut : BitVec 16
  direct : Bool
  clk : Fin 4
  ce : Fin 6
  rst : Option (Fin 4)
  init : Bool
  reg : Bool
  sel : Fin 4 → Nat
  deriving Inhabited

/-- The source of a GEN net (07 R201). -/
inductive GenSrc where
  | gnet | cell (n : Nat) | tick | frame
  deriving DecidableEq, Repr, Inhabited

end Sys2Proof

namespace Sys2Proof.Config

/-- Fresh free values, one for each count of State.free (log 2). -/
opaque freeNat : Nat → Nat
/-- A fresh free plane: scratch planes, CY, TG and LK after a standard routine, results out of its limits
(04 R124, R125, R133; log 9). -/
opaque freePlane : Nat → Plane
/-- The control-store address of a library routine's i-th microword, modulo 8,192: the firmware release sets it
(04 R440; log 14). Arguments: routine, i. -/
opaque libAddr : Nat → Nat → Nat
/-- What MSEQ_LOOP shows while a library routine runs its i-th microword: the firmware release's loops (04 R440; log 14).
Arguments: routine, i. -/
opaque libLoop : Nat → Nat → Nat
/-- The value an FRE would like to write; used only within the bound of 10 R287 (log 10). Arguments: binary64?, operand. -/
opaque freChoice : Bool → Nat → Int
/-- FDC with a seed that misses its bound: a fixed function of fa, fb, fd and RM (10 R289; log 10). -/
opaque fdcChoice : Bool → Nat → Nat → Nat → Nat → Nat
/-- The transmit latency of a link, as a choice within the bounds of 08 R232 (log 11). Arguments: the link's configuration
word, DEVCLK in kHz. -/
opaque txLat : BitVec 32 → Nat → Nat
/-- The bits that the sync headers of a multiblock's 32 blocks carry, which the JESD204C standard defines (08 R231; log 97).
Arguments: the blocks, whether the multiblock ends an extended one. -/
opaque syncWord : List (BitVec 64) → Bool → BitVec 32
/-- Bytes of the boot ROM (01 R29; its contents are not given; log 12). -/
opaque romByte : Nat → Byte
/-- JEDEC manufacturer code of IDCODE (16 R418; log 12). -/
opaque jedec : BitVec 11
/-- A nonce of the wellhead's entropy source, one for each count of State.free (16 R421; log 12). -/
opaque nonce : Nat → BitVec 256
/-- The PCI vendor identifier assigned to the maker (12 R325; log 12). -/
opaque pciVendor : BitVec 16
/-- The PCI revision identifier, which the manual does not name (12 R325; log 12). -/
opaque pciRevision : BitVec 8
/-- The boot ROM version of the identity block (12 R337; log 12). -/
opaque romVersion : BitVec 16
/-! What the payloads of LOGIC and HARD frames mean is produced by the Benay tools (07 R207; log 55). Argument of each:
the frames in configuration memory, with their positions in the full image. -/

/-- The configuration of a cell (07 R196). -/
opaque cellCfg : List (Nat × BitVec 2048) → Nat → CellCfg
/-- The select of the multiplexer at a wire's start (07 R198). -/
opaque wireSel : List (Nat × BitVec 2048) → Wire → Nat
/-- The sources of the multiplexer at a wire's start, those beside it that the device has (07 R197, R198). -/
opaque wireSrc : Wire → List EdgeNet
/-- The source of a GEN net (07 R201). -/
opaque genSrc : List (Nat × BitVec 2048) → Fin 4 → GenSrc
/-- The source code of a clock tree, 0 to 9 (07 R199). -/
opaque treeCode : List (Nat × BitVec 2048) → Fin 4 → Fin 10
/-- The tree that is the tap clock (07 R221). -/
opaque tapTree : List (Nat × BitVec 2048) → Fin 4
/-- The tree that is the pulse tree (07 R221). -/
opaque pulseTree : List (Nat × BitVec 2048) → Fin 4
/-- The exponent of D where the pulse tree does not come from DEVCLK: the manual gives D there no value (07 R221). -/
opaque pulseOdd : List (Nat × BitVec 2048) → BitVec 2
/-- What drives a user pin's level and output enable (07 R223). -/
opaque pinNet : List (Nat × BitVec 2048) → PinOut → EdgeNet
/-- The drive strength of a user pin (07 R223). -/
opaque pinDrive : List (Nat × BitVec 2048) → Fin 48 → Nat
/-- The value of a net on a combinational loop (07 R198; log 55). Arguments: State.free, the net. -/
opaque edgeLoop : Nat → EdgeNet → Bool
/-- A signal to the fabric whose moment against a tree's edge the block does not hold (07 R218 to R222; log 55).
Arguments: State.free, the signal. -/
opaque hardNow : Nat → HardIn → Bool
/-- The flip-flops of a fabric that is not loaded (07 R211; log 55). Argument: State.free. -/
opaque freeFf : Nat → BitVec 32768
/-- The data of a pair event, whose form the manual does not give (12 R334, 13 R374; log 19). Arguments: the loss cause,
and the frames F and G of a takeover from a checkpoint. -/
opaque pairData : Nat → Nat → Nat → BitVec 64

end Sys2Proof.Config
end

