-- ==== Sys2Proof/Machine/RegTable.lean ====
section
/-! DEFINITION. The register map: for every register row of the chapters its address, the bits a write stores (RW), the
bits a write of 1 clears (W1C), the bits a read clears (RC), its reset value and who may write it. Words held in
structures of State (limits, TICK_CTL, ...) are overlaid in Machine/Bus.lean. -/
namespace Sys2Proof.Machine

/-- Who may write a register (11 R316 collects the rules of the register chapters). -/
inductive Writer where
  | sup | cmdSup | seqSup | anyCore | winB | supOrWinA | supOrWinB | table | debug
  deriving DecidableEq, Repr

/-- One row of a register chapter: count registers, stride bytes apart, from base. -/
structure RegRow where
  base : Nat
  stride : Nat
  count : Nat
  rw : Nat
  w1c : Nat
  rc : Nat
  reset : Nat
  who : Writer
  deriving DecidableEq, Repr

namespace Reg

/-- ARRAY_LIVE_FIELDS (02). -/
def arrayLiveFields : Nat := 0x20040000
/-- ARRAY_DEAD_FIELDS (02). -/
def arrayDeadFields : Nat := 0x20040004
/-- ARRAY_EDGE (02). -/
def arrayEdge : Nat := 0x20040008
/-- ARRAY_SCRUB (02). -/
def arrayScrub : Nat := 0x2004000C
/-- ARRAY_SCRUB_PASSES (02). -/
def arrayScrubPasses : Nat := 0x20040010
/-- ARRAY_ECC_CORR (02). -/
def arrayEccCorr : Nat := 0x20040014
/-- ARRAY_ECC_STAT (02). -/
def arrayEccStat : Nat := 0x20040018
/-- ARRAY_REPAIR_STAT (02). -/
def arrayRepairStat : Nat := 0x2004001C
/-- ARRAY_OVL_ROW (02). -/
def arrayOvlRow : Nat := 0x20040020
/-- ARRAY_OVL_CMD (02). -/
def arrayOvlCmd : Nat := 0x20040024
/-- SUMP_CTL (02). -/
def sumpCtl : Nat := 0x20060000
/-- SUMP_STAT (02). -/
def sumpStat : Nat := 0x20060004
/-- SUMP_NACC_LO (02). -/
def sumpNaccLo : Nat := 0x20060008
/-- SUMP_NACC_HI (02). -/
def sumpNaccHi : Nat := 0x2006000C
/-- SUMP_UACC_LO (02). -/
def sumpUaccLo : Nat := 0x20060010
/-- SUMP_UACC_HI (02). -/
def sumpUaccHi : Nat := 0x20060014
/-- SUMP_LAST_LO (02). -/
def sumpLastLo : Nat := 0x20060018
/-- SUMP_LAST_HI (02). -/
def sumpLastHi : Nat := 0x2006001C
/-- SUMP_TILEOR (02). -/
def sumpTileor : Nat := 0x20060100
/-- SUMP_TGMASK (02). -/
def sumpTgmask : Nat := 0x20060200
/-- TILE_CTL (02). -/
def tileCtl : Nat := 0x21000000
/-- TILE_STAT (02). -/
def tileStat : Nat := 0x21000004
/-- TILE_ECC (02). -/
def tileEcc : Nat := 0x21000008
/-- TILE_REPAIR (02). -/
def tileRepair : Nat := 0x2100000C
/-- MSEQ_CTL (03). -/
def mseqCtl : Nat := 0x20050000
/-- MSEQ_STAT (03). -/
def mseqStat : Nat := 0x20050004
/-- MSEQ_CUR (03). -/
def mseqCur : Nat := 0x20050008
/-- MSEQ_LOOP (03). -/
def mseqLoop : Nat := 0x2005000C
/-- MSEQ_ISTALL_LO (03). -/
def mseqIstallLo : Nat := 0x20050010
/-- MSEQ_ISTALL_HI (03). -/
def mseqIstallHi : Nat := 0x20050014
/-- MSEQ_SSTALL_LO (03). -/
def mseqSstallLo : Nat := 0x20050018
/-- MSEQ_SSTALL_HI (03). -/
def mseqSstallHi : Nat := 0x2005001C
/-- MSEQ_BUBBLE_LO (03). -/
def mseqBubbleLo : Nat := 0x20050020
/-- MSEQ_BUBBLE_HI (03). -/
def mseqBubbleHi : Nat := 0x20050024
/-- MSEQ_DISPATCH (03). -/
def mseqDispatch : Nat := 0x20050028
/-- MSEQ_PREEMPT (03). -/
def mseqPreempt : Nat := 0x2005002C
/-- MSEQ_GUARD (03). -/
def mseqGuard : Nat := 0x20050030
/-- MSEQ_FATAL (03). -/
def mseqFatal : Nat := 0x20050034
/-- MSEQ_RTAB_LO (03). -/
def mseqRtabLo : Nat := 0x20058000
/-- MSEQ_RTAB_HI (03). -/
def mseqRtabHi : Nat := 0x20058004
/-- TICK_CTL (05). -/
def tickCtl : Nat := 0x20030000
/-- TICK_PERIOD (05). -/
def tickPeriod : Nat := 0x20030004
/-- TICK_FRAME_LEN (05). -/
def tickFrameLen : Nat := 0x20030008
/-- TICK_WARN_LEAD (05). -/
def tickWarnLead : Nat := 0x2003000C
/-- TICK_OFFSET (05). -/
def tickOffset : Nat := 0x20030010
/-- TICK_STAT (05). -/
def tickStat : Nat := 0x20030014
/-- TICK_COUNT_LO (05). -/
def tickCountLo : Nat := 0x20030018
/-- TICK_COUNT_HI (05). -/
def tickCountHi : Nat := 0x2003001C
/-- TICK_CUR_LO (05). -/
def tickCurLo : Nat := 0x20030020
/-- TICK_CUR_HI (05). -/
def tickCurHi : Nat := 0x20030024
/-- TICK_FRAME_LO (05). -/
def tickFrameLo : Nat := 0x20030028
/-- TICK_FRAME_HI (05). -/
def tickFrameHi : Nat := 0x2003002C
/-- TICK_INFRAME (05). -/
def tickInframe : Nat := 0x20030030
/-- TICK_PHASE (05). -/
def tickPhase : Nat := 0x20030034
/-- TICK_DCYC_LO (05). -/
def tickDcycLo : Nat := 0x20030038
/-- TICK_DCYC_HI (05). -/
def tickDcycHi : Nat := 0x2003003C
/-- TICK_ACYC_LO (05). -/
def tickAcycLo : Nat := 0x20030040
/-- TICK_ACYC_HI (05). -/
def tickAcycHi : Nat := 0x20030044
/-- TICK_OVERRUNS (05). -/
def tickOverruns : Nat := 0x20030048
/-- TICK_SKIPS (05). -/
def tickSkips : Nat := 0x2003004C
/-- TICK_LATES (05). -/
def tickLates : Nat := 0x20030050
/-- TICK_TEND (05). -/
def tickTend : Nat := 0x20030054
/-- TICK_TEND_MAX (05). -/
def tickTendMax : Nat := 0x20030058
/-- PUMP_CTL (06). -/
def pumpCtl : Nat := 0x20070000
/-- PUMP_RBASE (06). -/
def pumpRbase : Nat := 0x20070004
/-- PUMP_RSIZE (06). -/
def pumpRsize : Nat := 0x20070008
/-- PUMP_TAIL (06). -/
def pumpTail : Nat := 0x2007000C
/-- PUMP_HEAD (06). -/
def pumpHead : Nat := 0x20070010
/-- PUMP_STAT (06). -/
def pumpStat : Nat := 0x20070014
/-- PUMP_DONE (06). -/
def pumpDone : Nat := 0x20070018
/-- PUMP_READY (06). -/
def pumpReady : Nat := 0x20070400
/-- PUMP_IRQ (06). -/
def pumpIrq : Nat := 0x20070404
/-- CISTERN_PORTB_OWNER_LO (06). -/
def cisternPortbOwnerLo : Nat := 0x20080000
/-- CISTERN_PORTB_OWNER_HI (06). -/
def cisternPortbOwnerHi : Nat := 0x20080004
/-- CISTERN_PORTB_EFF_LO (06). -/
def cisternPortbEffLo : Nat := 0x20080008
/-- CISTERN_PORTB_EFF_HI (06). -/
def cisternPortbEffHi : Nat := 0x2008000C
/-- CISTERN_PWR (06). -/
def cisternPwr : Nat := 0x20080010
/-- CISTERN_BUSY_LO (06). -/
def cisternBusyLo : Nat := 0x20080020
/-- CISTERN_BUSY_HI (06). -/
def cisternBusyHi : Nat := 0x20080024
/-- CISTERN_STAT (06). -/
def cisternStat : Nat := 0x20080028
/-- CISTERN_CORR (06). -/
def cisternCorr : Nat := 0x2008002C
/-- CISTERN_SEC_CTL (06). -/
def cisternSecCtl : Nat := 0x20080030
/-- CISTERN_SEC_STAT (06). -/
def cisternSecStat : Nat := 0x20080034
/-- CISTERN_COLL (06). -/
def cisternColl : Nat := 0x20080100
/-- BULK_CTL (06). -/
def bulkCtl : Nat := 0x20090000
/-- BULK_STAT (06). -/
def bulkStat : Nat := 0x20090004
/-- BULK_CORR (06). -/
def bulkCorr : Nat := 0x20090008
/-- BULK_UNC_LO (06). -/
def bulkUncLo : Nat := 0x20090010
/-- BULK_UNC_HI (06). -/
def bulkUncHi : Nat := 0x20090014
/-- EDGE_STAT (07). -/
def edgeStat : Nat := 0x200B0000
/-- EDGE_CFG_CMD (07). -/
def edgeCfgCmd : Nat := 0x200B0004
/-- EDGE_CFG_ADDR_LO (07). -/
def edgeCfgAddrLo : Nat := 0x200B0008
/-- EDGE_CFG_ADDR_HI (07). -/
def edgeCfgAddrHi : Nat := 0x200B000C
/-- EDGE_CFG_LEN (07). -/
def edgeCfgLen : Nat := 0x200B0010
/-- EDGE_CFG_ERR (07). -/
def edgeCfgErr : Nat := 0x200B0014
/-- EDGE_IMAGE_ID_LO (07). -/
def edgeImageIdLo : Nat := 0x200B0018
/-- EDGE_IMAGE_ID_HI (07). -/
def edgeImageIdHi : Nat := 0x200B001C
/-- EDGE_GNET (07). -/
def edgeGnet : Nat := 0x200B0020
/-- EDGE_SER_CTL (07). -/
def edgeSerCtl : Nat := 0x200B0100
/-- EDGE_SER_DATA (07). -/
def edgeSerData : Nat := 0x200B0104
/-- EDGE_SER_STAT (07). -/
def edgeSerStat : Nat := 0x200B0108
/-- JESD_CTL (08). -/
def jesdCtl : Nat := 0x200C0000
/-- JESD_RXCFG (08). -/
def jesdRxcfg : Nat := 0x200C0010
/-- JESD_TXCFG (08). -/
def jesdTxcfg : Nat := 0x200C0020
/-- JESD_RX_RBD (08). -/
def jesdRxRbd : Nat := 0x200C0030
/-- JESD_SYSREF_DLY (08). -/
def jesdSysrefDly : Nat := 0x200C0040
/-- JESD_STAT (08). -/
def jesdStat : Nat := 0x200C0044
/-- JESD_SR_ERR (08). -/
def jesdSrErr : Nat := 0x200C0048
/-- JESD_TX_LAT (08). -/
def jesdTxLat : Nat := 0x200C0050
/-- JESD_LANE_ERR (08). -/
def jesdLaneErr : Nat := 0x200C0100
/-- VALVE_CTL (08). -/
def valveCtl : Nat := 0x200D0000
/-- VALVE_STAT (08). -/
def valveStat : Nat := 0x200D0004
/-- VALVE_SHUT (08). -/
def valveShut : Nat := 0x200D0008
/-- VALVE_SLOT (08). -/
def valveSlot : Nat := 0x200D000C
/-- VALVE_MAG (08). -/
def valveMag : Nat := 0x200D0200
/-- SEQCORE_STAT (09). -/
def seqcoreStat : Nat := 0x20100000
/-- CMDCORE_STAT (09). -/
def cmdcoreStat : Nat := 0x20110000
/-- SEQCORE_IRQ_PEND (09). -/
def seqcoreIrqPend : Nat := 0x20100004
/-- CMDCORE_IRQ_PEND (09). -/
def cmdcoreIrqPend : Nat := 0x20110004
/-- SEQCORE_IRQ_EN (09). -/
def seqcoreIrqEn : Nat := 0x20100008
/-- CMDCORE_IRQ_EN (09). -/
def cmdcoreIrqEn : Nat := 0x20110008
/-- SEQCORE_IRQ_SET (09). -/
def seqcoreIrqSet : Nat := 0x2010000C
/-- CMDCORE_IRQ_SET (09). -/
def cmdcoreIrqSet : Nat := 0x2011000C
/-- SEQCORE_WDOG_CTL (09). -/
def seqcoreWdogCtl : Nat := 0x20100010
/-- CMDCORE_WDOG_CTL (09). -/
def cmdcoreWdogCtl : Nat := 0x20110010
/-- SEQCORE_WDOG_PERIOD (09). -/
def seqcoreWdogPeriod : Nat := 0x20100014
/-- CMDCORE_WDOG_PERIOD (09). -/
def cmdcoreWdogPeriod : Nat := 0x20110014
/-- SEQCORE_WDOG_KICK (09). -/
def seqcoreWdogKick : Nat := 0x20100018
/-- CMDCORE_WDOG_KICK (09). -/
def cmdcoreWdogKick : Nat := 0x20110018
/-- SEQCORE_WDOG_LEFT (09). -/
def seqcoreWdogLeft : Nat := 0x2010001C
/-- CMDCORE_WDOG_LEFT (09). -/
def cmdcoreWdogLeft : Nat := 0x2011001C
/-- SEQCORE_CYC_LO (09). -/
def seqcoreCycLo : Nat := 0x20100020
/-- SEQCORE_CYC_HI (09). -/
def seqcoreCycHi : Nat := 0x20100024
/-- CMDCORE_CYC_LO (09). -/
def cmdcoreCycLo : Nat := 0x20110020
/-- CMDCORE_CYC_HI (09). -/
def cmdcoreCycHi : Nat := 0x20110024
/-- SEQCORE_RET_LO (09). -/
def seqcoreRetLo : Nat := 0x20100028
/-- SEQCORE_RET_HI (09). -/
def seqcoreRetHi : Nat := 0x2010002C
/-- CMDCORE_RET_LO (09). -/
def cmdcoreRetLo : Nat := 0x20110028
/-- CMDCORE_RET_HI (09). -/
def cmdcoreRetHi : Nat := 0x2011002C
/-- SEQCORE_CORR (09). -/
def seqcoreCorr : Nat := 0x20100030
/-- CMDCORE_CORR (09). -/
def cmdcoreCorr : Nat := 0x20110030
/-- SEQCORE_FATAL (09). -/
def seqcoreFatal : Nat := 0x20100034
/-- CMDCORE_FATAL (09). -/
def cmdcoreFatal : Nat := 0x20110034
/-- SEQCORE_BOOT_LO (09). -/
def seqcoreBootLo : Nat := 0x20100038
/-- SEQCORE_BOOT_HI (09). -/
def seqcoreBootHi : Nat := 0x2010003C
/-- SEQCORE_REL (09). -/
def seqcoreRel : Nat := 0x20100040
/-- RING_STAT (11). -/
def ringStat : Nat := 0x200A0000
/-- RING_EPOCH (11). -/
def ringEpoch : Nat := 0x200A0004
/-- RING_ISO (11). -/
def ringIso : Nat := 0x200A0008
/-- RING_DRAIN (11). -/
def ringDrain : Nat := 0x200A000C
/-- RING_DRY (11). -/
def ringDry : Nat := 0x200A0010
/-- RING_ERRLOG (11). -/
def ringErrlog : Nat := 0x200A0014
/-- RING_ERRADDR_LO (11). -/
def ringErraddrLo : Nat := 0x200A0018
/-- RING_ERRADDR_HI (11). -/
def ringErraddrHi : Nat := 0x200A001C
/-- RING_ERRCNT (11). -/
def ringErrcnt : Nat := 0x200A0020
/-- RING_AGED (11). -/
def ringAged : Nat := 0x200A0024
/-- RING_INJ_URG (11). -/
def ringInjUrg : Nat := 0x200A0100
/-- RING_RT_SHADOW (11). -/
def ringRtShadow : Nat := 0x200A0200
/-- RING_RT_ACTIVE (11). -/
def ringRtActive : Nat := 0x200A0280
/-- HOSTIF_STAT (12). -/
def hostifStat : Nat := 0x200F0000
/-- HOSTIF_ERRLOG (12). -/
def hostifErrlog : Nat := 0x200F0004
/-- HOSTIF_ERROFF (12). -/
def hostifErroff : Nat := 0x200F0008
/-- HOSTIF_ERRCNT (12). -/
def hostifErrcnt : Nat := 0x200F000C
/-- HOSTIF_EV_LOST (12). -/
def hostifEvLost : Nat := 0x200F0010
/-- HOSTIF_MSIX_SEND (12). -/
def hostifMsixSend : Nat := 0x200F0014
/-- HOSTIF_B_RESET (12). -/
def hostifBReset : Nat := 0x200F8000
/-- HOSTIF_B_LC_REQ (12). -/
def hostifBLcReq : Nat := 0x200F8004
/-- TWIN_CTL (13). -/
def twinCtl : Nat := 0x200E0000
/-- TWIN_STAT (13). -/
def twinStat : Nat := 0x200E0004
/-- TWIN_PEER (13). -/
def twinPeer : Nat := 0x200E0008
/-- TWIN_LEAD (13). -/
def twinLead : Nat := 0x200E000C
/-- TWIN_LOSS (13). -/
def twinLoss : Nat := 0x200E0010
/-- POWER_FLD_REQ (14). -/
def powerFldReq : Nat := 0x20010000
/-- POWER_FLD_STAT (14). -/
def powerFldStat : Nat := 0x20010004
/-- POWER_DOM (14). -/
def powerDom : Nat := 0x20010008
/-- POWER_STAT (14). -/
def powerStat : Nat := 0x2001000C
/-- CLOCK_STAT (14). -/
def clockStat : Nat := 0x20020000
/-- CLOCK_DEVCLK_KHZ (14). -/
def clockDevclkKhz : Nat := 0x20020004
/-- CLOCK_GCLK_MHZ (14). -/
def clockGclkMhz : Nat := 0x20020010
/-- WELLHEAD_RST_CAUSE (14). -/
def wellheadRstCause : Nat := 0x20000000
/-- WELLHEAD_LC (14). -/
def wellheadLc : Nat := 0x20000004
/-- WELLHEAD_STAT (14). -/
def wellheadStat : Nat := 0x20000008
/-- WELLHEAD_TEMP (14). -/
def wellheadTemp : Nat := 0x2000000C
/-- WELLHEAD_TSENSE (14). -/
def wellheadTsense : Nat := 0x20000100
/-- WELLHEAD_SEC_LO (14). -/
def wellheadSecLo : Nat := 0x20000010
/-- WELLHEAD_SEC_HI (14). -/
def wellheadSecHi : Nat := 0x20000014
/-- WELLHEAD_WDOG (14). -/
def wellheadWdog : Nat := 0x20000018
/-- WELLHEAD_WDOG_KICK (14). -/
def wellheadWdogKick : Nat := 0x2000001C
/-- ERROR_FATAL (15). -/
def errorFatal : Nat := 0x20130000
/-- ERROR_FATAL_TICK_LO (15). -/
def errorFatalTickLo : Nat := 0x20130004
/-- ERROR_FATAL_TICK_HI (15). -/
def errorFatalTickHi : Nat := 0x20130008
/-- ERROR_PREV_FATAL (15). -/
def errorPrevFatal : Nat := 0x2013000C
/-- ERROR_CONT_LOG (15). -/
def errorContLog : Nat := 0x20130010
/-- ERROR_CONT_CNT (15). -/
def errorContCnt : Nat := 0x20130014
/-- ERROR_CORR_SUM (15). -/
def errorCorrSum : Nat := 0x20130018
/-- ERROR_ST_STAT (15). -/
def errorStStat : Nat := 0x2013001C
/-- ERROR_ST_FAIL (15). -/
def errorStFail : Nat := 0x20130020
/-- ERROR_ST_PASSES (15). -/
def errorStPasses : Nat := 0x20130024
/-- VALVE_BURST_MAX (08). -/
def valveBurstMax : Nat := 0x200D0040
/-- VALVE_GAP_MIN (08). -/
def valveGapMin : Nat := 0x200D0044
/-- VALVE_DUTY (08). -/
def valveDuty : Nat := 0x200D0048
/-- VALVE_EG_CTL (08). -/
def valveEgCtl : Nat := 0x200D004C
/-- VALVE_EG_THR_LO (08). -/
def valveEgThrLo : Nat := 0x200D0050
/-- VALVE_EG_THR_HI (08). -/
def valveEgThrHi : Nat := 0x200D0054
/-- VALVE_CLIPS (08). -/
def valveClips : Nat := 0x200D0100
/-- VALVE_SUPP (08). -/
def valveSupp : Nat := 0x200D0104
/-- VALVE_TRUNC (08). -/
def valveTrunc : Nat := 0x200D0108
/-- HOSTIF_CR_BASE_LO (12). -/
def hostifCrBaseLo : Nat := 0x200F0100
/-- HOSTIF_CR_BASE_HI (12). -/
def hostifCrBaseHi : Nat := 0x200F0104
/-- HOSTIF_CR_SIZE (12). -/
def hostifCrSize : Nat := 0x200F0108
/-- HOSTIF_CR_TAIL (12). -/
def hostifCrTail : Nat := 0x200F010C
/-- HOSTIF_CR_HEAD (12). -/
def hostifCrHead : Nat := 0x200F0110
/-- HOSTIF_CR_STAT (12). -/
def hostifCrStat : Nat := 0x200F0114
/-- HOSTIF_RP_BASE_LO (12). -/
def hostifRpBaseLo : Nat := 0x200F0200
/-- HOSTIF_RP_BASE_HI (12). -/
def hostifRpBaseHi : Nat := 0x200F0204
/-- HOSTIF_RP_SIZE (12). -/
def hostifRpSize : Nat := 0x200F0208
/-- HOSTIF_RP_TAIL (12). -/
def hostifRpTail : Nat := 0x200F020C
/-- HOSTIF_RP_HEAD (12). -/
def hostifRpHead : Nat := 0x200F0210
/-- HOSTIF_RP_STAT (12). -/
def hostifRpStat : Nat := 0x200F0214
/-- HOSTIF_EV_BASE_LO (12). -/
def hostifEvBaseLo : Nat := 0x200F0220
/-- HOSTIF_EV_BASE_HI (12). -/
def hostifEvBaseHi : Nat := 0x200F0224
/-- HOSTIF_EV_SIZE (12). -/
def hostifEvSize : Nat := 0x200F0228
/-- HOSTIF_EV_TAIL (12). -/
def hostifEvTail : Nat := 0x200F022C
/-- HOSTIF_EV_HEAD (12). -/
def hostifEvHead : Nat := 0x200F0230
/-- HOSTIF_EV_STAT (12). -/
def hostifEvStat : Nat := 0x200F0234
/-- TWIN_DIG_LO (13). -/
def twinDigLo : Nat := 0x200E0014
/-- TWIN_DIG_HI (13). -/
def twinDigHi : Nat := 0x200E0018
/-- TWIN_DIGTICK_LO (13). -/
def twinDigtickLo : Nat := 0x200E001C
/-- TWIN_DIGTICK_HI (13). -/
def twinDigtickHi : Nat := 0x200E0020
/-- TWIN_DIVTICK_LO (13). -/
def twinDivtickLo : Nat := 0x200E0024
/-- TWIN_DIVTICK_HI (13). -/
def twinDivtickHi : Nat := 0x200E0028
/-- TWIN_CKPT_BASE_LO (13). -/
def twinCkptBaseLo : Nat := 0x200E002C
/-- TWIN_CKPT_BASE_HI (13). -/
def twinCkptBaseHi : Nat := 0x200E0030
/-- TWIN_CKPT_N (13). -/
def twinCkptN : Nat := 0x200E0034
/-- TWIN_CKPT_CTL (13). -/
def twinCkptCtl : Nat := 0x200E0038
/-- TWIN_CKPT_FRAME_LO (13). -/
def twinCkptFrameLo : Nat := 0x200E003C
/-- TWIN_CKPT_FRAME_HI (13). -/
def twinCkptFrameHi : Nat := 0x200E0040
/-- TWIN_CKPT_RX_LO (13). -/
def twinCkptRxLo : Nat := 0x200E0044
/-- TWIN_CKPT_RX_HI (13). -/
def twinCkptRxHi : Nat := 0x200E0048
/-- TWIN_DIVERGE (13). -/
def twinDiverge : Nat := 0x200E0050
/-- TWIN_CKPT_LATE (13). -/
def twinCkptLate : Nat := 0x200E0054
/-- TWIN_FAILOVER (13). -/
def twinFailover : Nat := 0x200E0058
/-- TWIN_LINK_ERR (13). -/
def twinLinkErr : Nat := 0x200E005C
/-- TWIN_MIR_HOLD (13). -/
def twinMirHold : Nat := 0x200E0060
/-- DBG_LOCK (16). -/
def dbgLock : Nat := 0x20120000
/-- DBG_GLB (16). -/
def dbgGlb : Nat := 0x20120004
/-- DBG_MBRK_RTN (16). -/
def dbgMbrkRtn : Nat := 0x20120010
/-- DBG_MBRK_ADDR (16). -/
def dbgMbrkAddr : Nat := 0x20120018
/-- DBG_MBRK_SUMP (16). -/
def dbgMbrkSump : Nat := 0x20120020
/-- DBG_MSTAT (16). -/
def dbgMstat : Nat := 0x20120024
/-- DBG_CTL (16). -/
def dbgCtl : Nat := 0x20121000
/-- DBG_STAT (16). -/
def dbgStat : Nat := 0x20121004
/-- DBG_WPC_LO (16). -/
def dbgWpcLo : Nat := 0x20121008
/-- DBG_WPC_HI (16). -/
def dbgWpcHi : Nat := 0x2012100C
/-- DBG_REG_SEL (16). -/
def dbgRegSel : Nat := 0x20121010
/-- DBG_REG_LO (16). -/
def dbgRegLo : Nat := 0x20121014
/-- DBG_REG_HI (16). -/
def dbgRegHi : Nat := 0x20121018
/-- DBG_MADDR_LO (16). -/
def dbgMaddrLo : Nat := 0x2012101C
/-- DBG_MADDR_HI (16). -/
def dbgMaddrHi : Nat := 0x20121020
/-- DBG_MCTL (16). -/
def dbgMctl : Nat := 0x20121024
/-- DBG_MDATA_LO (16). -/
def dbgMdataLo : Nat := 0x20121028
/-- DBG_MDATA_HI (16). -/
def dbgMdataHi : Nat := 0x2012102C
/-- DBG_TXD (16). -/
def dbgTxd : Nat := 0x20121030
/-- DBG_RXD (16). -/
def dbgRxd : Nat := 0x20121034
/-- DBG_VTSTAT (16). -/
def dbgVtstat : Nat := 0x20121038
/-- DBG_IBS_LO_c0 (16). -/
def dbgIbsLoC0 : Nat := 0x20121100
/-- DBG_IBS_HI_c0 (16). -/
def dbgIbsHiC0 : Nat := 0x20121104
/-- DBG_IBE_LO_c0 (16). -/
def dbgIbeLoC0 : Nat := 0x20121108
/-- DBG_IBE_HI_c0 (16). -/
def dbgIbeHiC0 : Nat := 0x2012110C
/-- DBG_IBC_c0 (16). -/
def dbgIbcC0 : Nat := 0x20121110
/-- DBG_DBS_LO_c0 (16). -/
def dbgDbsLoC0 : Nat := 0x20121200
/-- DBG_DBS_HI_c0 (16). -/
def dbgDbsHiC0 : Nat := 0x20121204
/-- DBG_DBE_LO_c0 (16). -/
def dbgDbeLoC0 : Nat := 0x20121208
/-- DBG_DBE_HI_c0 (16). -/
def dbgDbeHiC0 : Nat := 0x2012120C
/-- DBG_DBC_c0 (16). -/
def dbgDbcC0 : Nat := 0x20121210
/-- DBG_VAL_LO_c0 (16). -/
def dbgValLoC0 : Nat := 0x20121214
/-- DBG_VAL_HI_c0 (16). -/
def dbgValHiC0 : Nat := 0x20121218
/-- DBG_VMSK_LO_c0 (16). -/
def dbgVmskLoC0 : Nat := 0x2012121C
/-- DBG_VMSK_HI_c0 (16). -/
def dbgVmskHiC0 : Nat := 0x20121220
/-- DBG_IBS_LO_c1 (16). -/
def dbgIbsLoC1 : Nat := 0x20122100
/-- DBG_IBS_HI_c1 (16). -/
def dbgIbsHiC1 : Nat := 0x20122104
/-- DBG_IBE_LO_c1 (16). -/
def dbgIbeLoC1 : Nat := 0x20122108
/-- DBG_IBE_HI_c1 (16). -/
def dbgIbeHiC1 : Nat := 0x2012210C
/-- DBG_IBC_c1 (16). -/
def dbgIbcC1 : Nat := 0x20122110
/-- DBG_DBS_LO_c1 (16). -/
def dbgDbsLoC1 : Nat := 0x20122200
/-- DBG_DBS_HI_c1 (16). -/
def dbgDbsHiC1 : Nat := 0x20122204
/-- DBG_DBE_LO_c1 (16). -/
def dbgDbeLoC1 : Nat := 0x20122208
/-- DBG_DBE_HI_c1 (16). -/
def dbgDbeHiC1 : Nat := 0x2012220C
/-- DBG_DBC_c1 (16). -/
def dbgDbcC1 : Nat := 0x20122210
/-- DBG_VAL_LO_c1 (16). -/
def dbgValLoC1 : Nat := 0x20122214
/-- DBG_VAL_HI_c1 (16). -/
def dbgValHiC1 : Nat := 0x20122218
/-- DBG_VMSK_LO_c1 (16). -/
def dbgVmskLoC1 : Nat := 0x2012221C
/-- DBG_VMSK_HI_c1 (16). -/
def dbgVmskHiC1 : Nat := 0x20122220

end Reg

/-- Register rows, part 0. -/
def regRows0 : List RegRow := [
  ⟨Reg.arrayLiveFields, 4, 1, 0x0, 0x0, 0x0, 0x0, .sup⟩,
  ⟨Reg.arrayDeadFields, 4, 1, 0x0, 0x0, 0x0, 0x0, .sup⟩,
  ⟨Reg.arrayEdge, 4, 1, 0xF, 0x0, 0x0, 0x0, .sup⟩,
  ⟨Reg.arrayScrub, 4, 1, 0xFFFF0001, 0x0, 0x0, 0x4000001, .sup⟩,
  ⟨Reg.arrayScrubPasses, 4, 1, 0x0, 0x0, 0xFFFFFFFF, 0x0, .sup⟩,
  ⟨Reg.arrayEccCorr, 4, 1, 0x0, 0x0, 0xFFFFFFFF, 0x0, .sup⟩,
  ⟨Reg.arrayEccStat, 4, 1, 0x0, 0x6000000, 0x0, 0x0, .sup⟩,
  ⟨Reg.arrayRepairStat, 4, 1, 0x0, 0x8, 0x0, 0x0, .sup⟩,
  ⟨Reg.arrayOvlRow, 4, 1, 0xF7FFFF, 0x0, 0x0, 0x0, .cmdSup⟩,
  ⟨Reg.arrayOvlCmd, 4, 1, 0x0, 0x0, 0x0, 0x0, .cmdSup⟩,
  ⟨Reg.sumpCtl, 4, 1, 0x3FD, 0x0, 0x0, 0x0, .sup⟩,
  ⟨Reg.sumpStat, 4, 1, 0x0, 0x3, 0x0, 0x0, .sup⟩,
  ⟨Reg.sumpNaccLo, 4, 1, 0x0, 0x0, 0x0, 0x0, .sup⟩,
  ⟨Reg.sumpNaccHi, 4, 1, 0x0, 0x0, 0x0, 0x0, .sup⟩,
  ⟨Reg.sumpUaccLo, 4, 1, 0x0, 0x0, 0x0, 0x0, .sup⟩,
  ⟨Reg.sumpUaccHi, 4, 1, 0x0, 0x0, 0x0, 0x0, .sup⟩,
  ⟨Reg.sumpLastLo, 4, 1, 0x0, 0x0, 0x0, 0x0, .sup⟩,
  ⟨Reg.sumpLastHi, 4, 1, 0x0, 0x0, 0x0, 0x0, .sup⟩,
  ⟨Reg.sumpTileor, 4, 32, 0x0, 0x0, 0x0, 0x0, .sup⟩,
  ⟨Reg.sumpTgmask, 4, 128, 0xFFFFFFFF, 0x0, 0x0, 0x0, .sup⟩,
  ⟨Reg.tileCtl, 16, 1024, 0x7, 0x0, 0x0, 0x0, .sup⟩,
  ⟨Reg.tileStat, 16, 1024, 0x0, 0x0, 0x0, 0x0, .sup⟩,
  ⟨Reg.tileEcc, 16, 1024, 0x0, 0x80000000, 0xFFFF, 0x0, .sup⟩,
  ⟨Reg.tileRepair, 16, 1024, 0x0, 0x0, 0x0, 0x0, .sup⟩,
  ⟨Reg.mseqCtl, 4, 1, 0x1, 0x0, 0x0, 0x0, .sup⟩,
  ⟨Reg.mseqStat, 4, 1, 0x0, 0x3FC000, 0x0, 0x0, .sup⟩,
  ⟨Reg.mseqCur, 4, 1, 0x0, 0x0, 0x0, 0x0, .sup⟩,
  ⟨Reg.mseqLoop, 4, 1, 0x0, 0x0, 0x0, 0x0, .sup⟩,
  ⟨Reg.mseqIstallLo, 4, 1, 0x0, 0x0, 0x0, 0x0, .sup⟩,
  ⟨Reg.mseqIstallHi, 4, 1, 0x0, 0x0, 0x0, 0x0, .sup⟩]

/-- Register rows, part 1. -/
def regRows1 : List RegRow := [
  ⟨Reg.mseqSstallLo, 4, 1, 0x0, 0x0, 0x0, 0x0, .sup⟩,
  ⟨Reg.mseqSstallHi, 4, 1, 0x0, 0x0, 0x0, 0x0, .sup⟩,
  ⟨Reg.mseqBubbleLo, 4, 1, 0x0, 0x0, 0x0, 0x0, .sup⟩,
  ⟨Reg.mseqBubbleHi, 4, 1, 0x0, 0x0, 0x0, 0x0, .sup⟩,
  ⟨Reg.mseqDispatch, 4, 1, 0x0, 0x0, 0xFFFFFFFF, 0x0, .sup⟩,
  ⟨Reg.mseqPreempt, 4, 1, 0x0, 0x0, 0xFFFFFFFF, 0x0, .sup⟩,
  ⟨Reg.mseqGuard, 4, 1, 0x0, 0x0, 0x0, 0x0, .sup⟩,
  ⟨Reg.mseqFatal, 4, 1, 0x0, 0x0, 0x0, 0x0, .sup⟩,
  ⟨Reg.mseqRtabLo, 8, 1024, 0xBFFFFFFF, 0x0, 0x0, 0x0, .table⟩,
  ⟨Reg.mseqRtabHi, 8, 1024, 0xFFFF, 0x0, 0x0, 0x0, .table⟩,
  ⟨Reg.tickCtl, 4, 1, 0xF, 0x0, 0x0, 0x0, .sup⟩,
  ⟨Reg.tickPeriod, 4, 1, 0x1FFFFFF, 0x0, 0x0, 0x1000, .sup⟩,
  ⟨Reg.tickFrameLen, 4, 1, 0x1FFFF, 0x0, 0x0, 0x1, .sup⟩,
  ⟨Reg.tickWarnLead, 4, 1, 0x1FFFFFF, 0x0, 0x0, 0x0, .sup⟩,
  ⟨Reg.tickOffset, 4, 1, 0x1FFFFFF, 0x0, 0x0, 0x0, .sup⟩,
  ⟨Reg.tickStat, 4, 1, 0x0, 0x3A0, 0x0, 0x0, .sup⟩,
  ⟨Reg.tickCountLo, 4, 1, 0x0, 0x0, 0x0, 0x0, .sup⟩,
  ⟨Reg.tickCountHi, 4, 1, 0x0, 0x0, 0x0, 0x0, .sup⟩,
  ⟨Reg.tickCurLo, 4, 1, 0x0, 0x0, 0x0, 0x0, .sup⟩,
  ⟨Reg.tickCurHi, 4, 1, 0x0, 0x0, 0x0, 0x0, .sup⟩,
  ⟨Reg.tickFrameLo, 4, 1, 0x0, 0x0, 0x0, 0x0, .sup⟩,
  ⟨Reg.tickFrameHi, 4, 1, 0x0, 0x0, 0x0, 0x0, .sup⟩,
  ⟨Reg.tickInframe, 4, 1, 0x0, 0x0, 0x0, 0x0, .sup⟩,
  ⟨Reg.tickPhase, 4, 1, 0x0, 0x0, 0x0, 0x0, .sup⟩,
  ⟨Reg.tickDcycLo, 4, 1, 0x0, 0x0, 0x0, 0x0, .sup⟩,
  ⟨Reg.tickDcycHi, 4, 1, 0x0, 0x0, 0x0, 0x0, .sup⟩,
  ⟨Reg.tickAcycLo, 4, 1, 0x0, 0x0, 0x0, 0x0, .sup⟩,
  ⟨Reg.tickAcycHi, 4, 1, 0x0, 0x0, 0x0, 0x0, .sup⟩,
  ⟨Reg.tickOverruns, 4, 1, 0x0, 0x0, 0xFFFFFFFF, 0x0, .sup⟩,
  ⟨Reg.tickSkips, 4, 1, 0x0, 0x0, 0xFFFFFFFF, 0x0, .sup⟩]

/-- Register rows, part 2. -/
def regRows2 : List RegRow := [
  ⟨Reg.tickLates, 4, 1, 0x0, 0x0, 0xFFFFFFFF, 0x0, .sup⟩,
  ⟨Reg.tickTend, 4, 1, 0x0, 0x0, 0x0, 0x0, .sup⟩,
  ⟨Reg.tickTendMax, 4, 1, 0x0, 0x0, 0x1FFFFFF, 0x0, .sup⟩,
  ⟨Reg.pumpCtl, 64, 16, 0x3, 0x0, 0x0, 0x0, .sup⟩,
  ⟨Reg.pumpRbase, 64, 16, 0xFFFFFFC0, 0x0, 0x0, 0x0, .sup⟩,
  ⟨Reg.pumpRsize, 64, 16, 0xF, 0x0, 0x0, 0x0, .sup⟩,
  ⟨Reg.pumpTail, 64, 16, 0xFFF, 0x0, 0x0, 0x0, .anyCore⟩,
  ⟨Reg.pumpHead, 64, 16, 0x0, 0x0, 0x0, 0x0, .anyCore⟩,
  ⟨Reg.pumpStat, 64, 16, 0x0, 0x1C000000, 0x0, 0x0, .anyCore⟩,
  ⟨Reg.pumpDone, 64, 16, 0x0, 0x0, 0xFFFFFFFF, 0x0, .anyCore⟩,
  ⟨Reg.pumpReady, 4, 1, 0x0, 0x0, 0x0, 0x0, .anyCore⟩,
  ⟨Reg.pumpIrq, 4, 1, 0x0, 0xFFFF, 0x0, 0x0, .anyCore⟩,
  ⟨Reg.cisternPortbOwnerLo, 4, 1, 0xFFFFFFFF, 0x0, 0x0, 0x0, .sup⟩,
  ⟨Reg.cisternPortbOwnerHi, 4, 1, 0xFFFFFFFF, 0x0, 0x0, 0x0, .sup⟩,
  ⟨Reg.cisternPortbEffLo, 4, 1, 0x0, 0x0, 0x0, 0x0, .anyCore⟩,
  ⟨Reg.cisternPortbEffHi, 4, 1, 0x0, 0x0, 0x0, 0x0, .anyCore⟩,
  ⟨Reg.cisternPwr, 4, 4, 0xFFFFFFFF, 0x0, 0x0, 0xAAAAAAAA, .sup⟩,
  ⟨Reg.cisternBusyLo, 4, 1, 0x0, 0x0, 0x0, 0x0, .anyCore⟩,
  ⟨Reg.cisternBusyHi, 4, 1, 0x0, 0x0, 0x0, 0x0, .anyCore⟩,
  ⟨Reg.cisternStat, 4, 1, 0x0, 0xC0C0, 0x0, 0x0, .anyCore⟩,
  ⟨Reg.cisternCorr, 4, 1, 0x0, 0x0, 0xFFFFFFFF, 0x0, .anyCore⟩,
  ⟨Reg.cisternSecCtl, 4, 1, 0x0, 0x0, 0x0, 0x0, .cmdSup⟩,
  ⟨Reg.cisternSecStat, 4, 1, 0x0, 0x79, 0x0, 0x0, .cmdSup⟩,
  ⟨Reg.cisternColl, 4, 64, 0x0, 0x10000, 0xFFFF, 0x0, .anyCore⟩,
  ⟨Reg.bulkCtl, 4, 1, 0xF, 0x0, 0x0, 0xC, .anyCore⟩,
  ⟨Reg.bulkStat, 4, 1, 0x0, 0x34, 0x0, 0x0, .anyCore⟩,
  ⟨Reg.bulkCorr, 4, 2, 0x0, 0x0, 0xFFFFFFFF, 0x0, .anyCore⟩,
  ⟨Reg.bulkUncLo, 4, 1, 0x0, 0x0, 0x0, 0x0, .anyCore⟩,
  ⟨Reg.bulkUncHi, 4, 1, 0x0, 0x0, 0x0, 0x0, .anyCore⟩,
  ⟨Reg.edgeStat, 4, 1, 0x0, 0x3F0000, 0x0, 0x0, .sup⟩]

/-- Register rows, part 3. -/
def regRows3 : List RegRow := [
  ⟨Reg.edgeCfgCmd, 4, 1, 0x0, 0x0, 0x0, 0x0, .cmdSup⟩,
  ⟨Reg.edgeCfgAddrLo, 4, 1, 0xFFFFFFFF, 0x0, 0x0, 0x0, .cmdSup⟩,
  ⟨Reg.edgeCfgAddrHi, 4, 1, 0xFFFFFFFF, 0x0, 0x0, 0x0, .cmdSup⟩,
  ⟨Reg.edgeCfgLen, 4, 1, 0x3FFF, 0x0, 0x0, 0x0, .cmdSup⟩,
  ⟨Reg.edgeCfgErr, 4, 1, 0x0, 0x0, 0x0, 0x0, .sup⟩,
  ⟨Reg.edgeImageIdLo, 4, 1, 0x0, 0x0, 0x0, 0x0, .sup⟩,
  ⟨Reg.edgeImageIdHi, 4, 1, 0x0, 0x0, 0x0, 0x0, .sup⟩,
  ⟨Reg.edgeGnet, 4, 1, 0xF, 0x0, 0x0, 0x0, .sup⟩,
  ⟨Reg.edgeSerCtl, 16, 5, 0xFFFFF7, 0x0, 0x0, 0x0, .sup⟩,
  ⟨Reg.edgeSerData, 16, 5, 0xFF, 0x0, 0x0, 0x0, .sup⟩,
  ⟨Reg.edgeSerStat, 16, 5, 0x0, 0x1800, 0x0, 0x0, .sup⟩,
  ⟨Reg.jesdCtl, 4, 1, 0x1FF, 0x0, 0x0, 0x0, .sup⟩,
  ⟨Reg.jesdRxcfg, 4, 4, 0x7FFFFF, 0x0, 0x0, 0x0, .sup⟩,
  ⟨Reg.jesdTxcfg, 4, 4, 0x7FFFFF, 0x0, 0x0, 0x0, .sup⟩,
  ⟨Reg.jesdRxRbd, 4, 4, 0xFFF, 0x0, 0x0, 0x0, .sup⟩,
  ⟨Reg.jesdSysrefDly, 4, 1, 0xFFF, 0x0, 0x0, 0x0, .sup⟩,
  ⟨Reg.jesdStat, 4, 1, 0x0, 0x30000, 0x0, 0x0, .sup⟩,
  ⟨Reg.jesdSrErr, 4, 1, 0x0, 0x10000, 0xFFFF, 0x0, .sup⟩,
  ⟨Reg.jesdTxLat, 4, 4, 0x0, 0x0, 0x0, 0x0, .sup⟩,
  ⟨Reg.jesdLaneErr, 4, 16, 0x0, 0x1000000, 0xFFFFFF, 0x0, .sup⟩,
  ⟨Reg.valveCtl, 4, 1, 0x0, 0x0, 0x0, 0x0, .winB⟩,
  ⟨Reg.valveStat, 4, 1, 0x0, 0x800, 0x0, 0x0, .supOrWinB⟩,
  ⟨Reg.valveShut, 4, 1, 0x1, 0x0, 0x0, 0x0, .supOrWinB⟩,
  ⟨Reg.valveSlot, 4, 1, 0x0, 0x0, 0x0, 0x0, .winB⟩,
  ⟨Reg.valveMag, 4, 128, 0x0, 0x0, 0x0, 0x0, .winB⟩,
  ⟨Reg.seqcoreStat, 4, 1, 0x0, 0x10, 0x0, 0x0, .seqSup⟩,
  ⟨Reg.cmdcoreStat, 4, 1, 0x0, 0x10, 0x0, 0x0, .cmdSup⟩,
  ⟨Reg.seqcoreIrqPend, 4, 1, 0x0, 0xFFFFFFFF, 0x0, 0x0, .seqSup⟩,
  ⟨Reg.cmdcoreIrqPend, 4, 1, 0x0, 0xFFFFFFFF, 0x0, 0x0, .cmdSup⟩,
  ⟨Reg.seqcoreIrqEn, 4, 1, 0xFFFFFFFF, 0x0, 0x0, 0x0, .seqSup⟩]

/-- Register rows, part 4. -/
def regRows4 : List RegRow := [
  ⟨Reg.cmdcoreIrqEn, 4, 1, 0xFFFFFFFF, 0x0, 0x0, 0x0, .cmdSup⟩,
  ⟨Reg.seqcoreIrqSet, 4, 1, 0x0, 0x0, 0x0, 0x0, .sup⟩,
  ⟨Reg.cmdcoreIrqSet, 4, 1, 0x0, 0x0, 0x0, 0x0, .sup⟩,
  ⟨Reg.seqcoreWdogCtl, 4, 1, 0x0, 0x0, 0x0, 0x0, .seqSup⟩,
  ⟨Reg.cmdcoreWdogCtl, 4, 1, 0x0, 0x0, 0x0, 0x0, .cmdSup⟩,
  ⟨Reg.seqcoreWdogPeriod, 4, 1, 0xFFFF, 0x0, 0x0, 0x3E8, .seqSup⟩,
  ⟨Reg.cmdcoreWdogPeriod, 4, 1, 0xFFFF, 0x0, 0x0, 0x3E8, .cmdSup⟩,
  ⟨Reg.seqcoreWdogKick, 4, 1, 0x0, 0x0, 0x0, 0x0, .seqSup⟩,
  ⟨Reg.cmdcoreWdogKick, 4, 1, 0x0, 0x0, 0x0, 0x0, .cmdSup⟩,
  ⟨Reg.seqcoreWdogLeft, 4, 1, 0x0, 0x0, 0x0, 0x0, .seqSup⟩,
  ⟨Reg.cmdcoreWdogLeft, 4, 1, 0x0, 0x0, 0x0, 0x0, .cmdSup⟩,
  ⟨Reg.seqcoreCycLo, 4, 1, 0x0, 0x0, 0x0, 0x0, .seqSup⟩,
  ⟨Reg.seqcoreCycHi, 4, 1, 0x0, 0x0, 0x0, 0x0, .seqSup⟩,
  ⟨Reg.cmdcoreCycLo, 4, 1, 0x0, 0x0, 0x0, 0x0, .cmdSup⟩,
  ⟨Reg.cmdcoreCycHi, 4, 1, 0x0, 0x0, 0x0, 0x0, .cmdSup⟩,
  ⟨Reg.seqcoreRetLo, 4, 1, 0x0, 0x0, 0x0, 0x0, .seqSup⟩,
  ⟨Reg.seqcoreRetHi, 4, 1, 0x0, 0x0, 0x0, 0x0, .seqSup⟩,
  ⟨Reg.cmdcoreRetLo, 4, 1, 0x0, 0x0, 0x0, 0x0, .cmdSup⟩,
  ⟨Reg.cmdcoreRetHi, 4, 1, 0x0, 0x0, 0x0, 0x0, .cmdSup⟩,
  ⟨Reg.seqcoreCorr, 4, 1, 0x0, 0x0, 0xFFFFFFFF, 0x0, .seqSup⟩,
  ⟨Reg.cmdcoreCorr, 4, 1, 0x0, 0x0, 0xFFFFFFFF, 0x0, .cmdSup⟩,
  ⟨Reg.seqcoreFatal, 4, 1, 0x0, 0x0, 0x0, 0x0, .seqSup⟩,
  ⟨Reg.cmdcoreFatal, 4, 1, 0x0, 0x0, 0x0, 0x0, .cmdSup⟩,
  ⟨Reg.seqcoreBootLo, 4, 1, 0xFFFFFFFF, 0x0, 0x0, 0x0, .cmdSup⟩,
  ⟨Reg.seqcoreBootHi, 4, 1, 0xFFFFFFFF, 0x0, 0x0, 0x0, .cmdSup⟩,
  ⟨Reg.seqcoreRel, 4, 1, 0x0, 0x0, 0x0, 0x0, .cmdSup⟩,
  ⟨Reg.ringStat, 4, 1, 0x0, 0x34, 0x0, 0x0, .sup⟩,
  ⟨Reg.ringEpoch, 4, 1, 0x0, 0x0, 0x0, 0x0, .cmdSup⟩,
  ⟨Reg.ringIso, 4, 1, 0x0, 0x0, 0x0, 0x0, .sup⟩,
  ⟨Reg.ringDrain, 4, 1, 0x0, 0x0, 0x0, 0x0, .sup⟩]

/-- Register rows, part 5. -/
def regRows5 : List RegRow := [
  ⟨Reg.ringDry, 4, 1, 0x0, 0x0, 0x0, 0x0, .sup⟩,
  ⟨Reg.ringErrlog, 4, 1, 0x0, 0x400000, 0x0, 0x0, .sup⟩,
  ⟨Reg.ringErraddrLo, 4, 1, 0x0, 0x0, 0x0, 0x0, .sup⟩,
  ⟨Reg.ringErraddrHi, 4, 1, 0x0, 0x0, 0x0, 0x0, .sup⟩,
  ⟨Reg.ringErrcnt, 4, 1, 0x0, 0x0, 0xFFFFFFFF, 0x0, .sup⟩,
  ⟨Reg.ringAged, 4, 1, 0x0, 0x0, 0xFFFFFFFF, 0x0, .sup⟩,
  ⟨Reg.ringInjUrg, 4, 32, 0x7, 0x0, 0x0, 0x0, .sup⟩,
  ⟨Reg.ringRtShadow, 4, 32, 0xF, 0x0, 0x0, 0x0, .cmdSup⟩,
  ⟨Reg.ringRtActive, 4, 32, 0x0, 0x0, 0x0, 0x0, .sup⟩,
  ⟨Reg.hostifStat, 4, 1, 0x0, 0x0, 0x0, 0x0, .supOrWinA⟩,
  ⟨Reg.hostifErrlog, 4, 1, 0x0, 0x1C0, 0x0, 0x0, .supOrWinA⟩,
  ⟨Reg.hostifErroff, 4, 1, 0x0, 0x0, 0x0, 0x0, .supOrWinA⟩,
  ⟨Reg.hostifErrcnt, 4, 1, 0x0, 0x0, 0xFFFFFFFF, 0x0, .supOrWinA⟩,
  ⟨Reg.hostifEvLost, 4, 1, 0x0, 0x0, 0xFFFFFFFF, 0x0, .supOrWinA⟩,
  ⟨Reg.hostifMsixSend, 4, 1, 0x0, 0x0, 0x0, 0x0, .sup⟩,
  ⟨Reg.hostifBReset, 4, 1, 0x0, 0x0, 0x0, 0x0, .winB⟩,
  ⟨Reg.hostifBLcReq, 4, 1, 0x0, 0x10, 0x0, 0x0, .winB⟩,
  ⟨Reg.twinCtl, 4, 1, 0x7, 0x0, 0x0, 0x2, .sup⟩,
  ⟨Reg.twinStat, 4, 1, 0x0, 0x1C00, 0x0, 0x0, .sup⟩,
  ⟨Reg.twinPeer, 4, 1, 0x0, 0x0, 0x0, 0x0, .sup⟩,
  ⟨Reg.twinLead, 4, 1, 0xFFFF, 0x0, 0x0, 0x804, .sup⟩,
  ⟨Reg.twinLoss, 4, 1, 0x0, 0x0, 0x0, 0x0, .sup⟩,
  ⟨Reg.powerFldReq, 4, 1, 0xFFFFFFFF, 0x0, 0x0, 0x0, .cmdSup⟩,
  ⟨Reg.powerFldStat, 4, 1, 0x0, 0x0, 0x0, 0x0, .cmdSup⟩,
  ⟨Reg.powerDom, 4, 1, 0x3, 0x0, 0x0, 0x0, .cmdSup⟩,
  ⟨Reg.powerStat, 4, 1, 0x0, 0x70000, 0x0, 0x0, .cmdSup⟩,
  ⟨Reg.clockStat, 4, 1, 0x0, 0x20, 0x0, 0x0, .sup⟩,
  ⟨Reg.clockDevclkKhz, 4, 1, 0x0, 0x0, 0x0, 0x0, .sup⟩,
  ⟨Reg.clockGclkMhz, 4, 4, 0x0, 0x0, 0x0, 0x0, .sup⟩,
  ⟨Reg.wellheadRstCause, 4, 1, 0x0, 0x0, 0x0, 0x0, .cmdSup⟩]

/-- Register rows, part 6. -/
def regRows6 : List RegRow := [
  ⟨Reg.wellheadLc, 4, 1, 0x0, 0x0, 0x0, 0x0, .cmdSup⟩,
  ⟨Reg.wellheadStat, 4, 1, 0x0, 0x3FF12, 0x0, 0x0, .cmdSup⟩,
  ⟨Reg.wellheadTemp, 4, 1, 0x0, 0x0, 0x0, 0x0, .cmdSup⟩,
  ⟨Reg.wellheadTsense, 4, 64, 0x0, 0x0, 0x0, 0x0, .cmdSup⟩,
  ⟨Reg.wellheadSecLo, 4, 1, 0x0, 0x0, 0x0, 0x0, .cmdSup⟩,
  ⟨Reg.wellheadSecHi, 4, 1, 0x0, 0x0, 0x0, 0x0, .cmdSup⟩,
  ⟨Reg.wellheadWdog, 4, 1, 0x3F00, 0x0, 0x0, 0x3C00, .cmdSup⟩,
  ⟨Reg.wellheadWdogKick, 4, 1, 0x0, 0x0, 0x0, 0x0, .cmdSup⟩,
  ⟨Reg.errorFatal, 4, 1, 0x0, 0x0, 0x0, 0x0, .sup⟩,
  ⟨Reg.errorFatalTickLo, 4, 1, 0x0, 0x0, 0x0, 0x0, .sup⟩,
  ⟨Reg.errorFatalTickHi, 4, 1, 0x0, 0x0, 0x0, 0x0, .sup⟩,
  ⟨Reg.errorPrevFatal, 4, 1, 0x0, 0x0, 0x0, 0x0, .sup⟩,
  ⟨Reg.errorContLog, 4, 1, 0x0, 0xC0, 0x0, 0x0, .sup⟩,
  ⟨Reg.errorContCnt, 4, 1, 0x0, 0x0, 0xFFFFFFFF, 0x0, .sup⟩,
  ⟨Reg.errorCorrSum, 4, 1, 0x0, 0x3F, 0x0, 0x0, .sup⟩,
  ⟨Reg.errorStStat, 4, 1, 0x0, 0x100, 0x0, 0x0, .sup⟩,
  ⟨Reg.errorStFail, 4, 1, 0x0, 0x4000000, 0x0, 0x0, .sup⟩,
  ⟨Reg.errorStPasses, 4, 1, 0x0, 0x0, 0xFFFFFFFF, 0x0, .sup⟩,
  ⟨Reg.valveBurstMax, 32, 4, 0x0, 0x0, 0x0, 0x0, .winB⟩,
  ⟨Reg.valveGapMin, 32, 4, 0x0, 0x0, 0x0, 0x0, .winB⟩,
  ⟨Reg.valveDuty, 32, 4, 0x0, 0x0, 0x0, 0x0, .winB⟩,
  ⟨Reg.valveEgCtl, 32, 4, 0x0, 0x0, 0x0, 0x0, .winB⟩,
  ⟨Reg.valveEgThrLo, 32, 4, 0x0, 0x0, 0x0, 0x0, .winB⟩,
  ⟨Reg.valveEgThrHi, 32, 4, 0x0, 0x0, 0x0, 0x0, .winB⟩,
  ⟨Reg.valveClips, 16, 4, 0x0, 0x0, 0xFFFFFFFF, 0x0, .supOrWinB⟩,
  ⟨Reg.valveSupp, 16, 4, 0x0, 0x0, 0xFFFFFFFF, 0x0, .supOrWinB⟩,
  ⟨Reg.valveTrunc, 16, 4, 0x0, 0x0, 0xFFFFFFFF, 0x0, .supOrWinB⟩,
  ⟨Reg.hostifCrBaseLo, 32, 4, 0xFFFFFFC0, 0x0, 0x0, 0x0, .supOrWinA⟩,
  ⟨Reg.hostifCrBaseHi, 32, 4, 0xFFFFFFFF, 0x0, 0x0, 0x0, .supOrWinA⟩,
  ⟨Reg.hostifCrSize, 32, 4, 0x1F, 0x0, 0x0, 0x0, .supOrWinA⟩]

/-- Register rows, part 7. -/
def regRows7 : List RegRow := [
  ⟨Reg.hostifCrTail, 32, 4, 0x1FFF, 0x0, 0x0, 0x0, .supOrWinA⟩,
  ⟨Reg.hostifCrHead, 32, 4, 0x0, 0x0, 0x0, 0x0, .supOrWinA⟩,
  ⟨Reg.hostifCrStat, 32, 4, 0x0, 0x0, 0x0, 0x0, .supOrWinA⟩,
  ⟨Reg.hostifRpBaseLo, 32, 1, 0xFFFFFFC0, 0x0, 0x0, 0x0, .supOrWinA⟩,
  ⟨Reg.hostifRpBaseHi, 32, 1, 0xFFFFFFFF, 0x0, 0x0, 0x0, .supOrWinA⟩,
  ⟨Reg.hostifRpSize, 32, 1, 0x1F, 0x0, 0x0, 0x0, .supOrWinA⟩,
  ⟨Reg.hostifRpTail, 32, 1, 0x0, 0x0, 0x0, 0x0, .supOrWinA⟩,
  ⟨Reg.hostifRpHead, 32, 1, 0x1FFF, 0x0, 0x0, 0x0, .supOrWinA⟩,
  ⟨Reg.hostifRpStat, 32, 1, 0x0, 0x0, 0x0, 0x0, .supOrWinA⟩,
  ⟨Reg.hostifEvBaseLo, 32, 1, 0xFFFFFFC0, 0x0, 0x0, 0x0, .supOrWinA⟩,
  ⟨Reg.hostifEvBaseHi, 32, 1, 0xFFFFFFFF, 0x0, 0x0, 0x0, .supOrWinA⟩,
  ⟨Reg.hostifEvSize, 32, 1, 0x1F, 0x0, 0x0, 0x0, .supOrWinA⟩,
  ⟨Reg.hostifEvTail, 32, 1, 0x0, 0x0, 0x0, 0x0, .supOrWinA⟩,
  ⟨Reg.hostifEvHead, 32, 1, 0x1FFF, 0x0, 0x0, 0x0, .supOrWinA⟩,
  ⟨Reg.hostifEvStat, 32, 1, 0x0, 0x0, 0x0, 0x0, .supOrWinA⟩,
  ⟨Reg.twinDigLo, 4, 1, 0x0, 0x0, 0x0, 0x0, .sup⟩,
  ⟨Reg.twinDigHi, 4, 1, 0x0, 0x0, 0x0, 0x0, .sup⟩,
  ⟨Reg.twinDigtickLo, 4, 1, 0x0, 0x0, 0x0, 0x0, .sup⟩,
  ⟨Reg.twinDigtickHi, 4, 1, 0x0, 0x0, 0x0, 0x0, .sup⟩,
  ⟨Reg.twinDivtickLo, 4, 1, 0x0, 0x0, 0x0, 0x0, .sup⟩,
  ⟨Reg.twinDivtickHi, 4, 1, 0x0, 0x0, 0x0, 0x0, .sup⟩,
  ⟨Reg.twinCkptBaseLo, 4, 1, 0xFFFFFFC0, 0x0, 0x0, 0x0, .sup⟩,
  ⟨Reg.twinCkptBaseHi, 4, 1, 0xFFFFFFFF, 0x0, 0x0, 0x0, .sup⟩,
  ⟨Reg.twinCkptN, 4, 1, 0x7F, 0x0, 0x0, 0x0, .sup⟩,
  ⟨Reg.twinCkptCtl, 4, 1, 0x0, 0x0, 0x0, 0x0, .sup⟩,
  ⟨Reg.twinCkptFrameLo, 4, 1, 0x0, 0x0, 0x0, 0x0, .sup⟩,
  ⟨Reg.twinCkptFrameHi, 4, 1, 0x0, 0x0, 0x0, 0x0, .sup⟩,
  ⟨Reg.twinCkptRxLo, 4, 1, 0xFFFFFFFF, 0x0, 0x0, 0x0, .sup⟩,
  ⟨Reg.twinCkptRxHi, 4, 1, 0xFFFFFFFF, 0x0, 0x0, 0x0, .sup⟩,
  ⟨Reg.twinDiverge, 4, 1, 0x0, 0x0, 0xFFFFFFFF, 0x0, .sup⟩]

/-- Register rows, part 8. -/
def regRows8 : List RegRow := [
  ⟨Reg.twinCkptLate, 4, 1, 0x0, 0x0, 0xFFFFFFFF, 0x0, .sup⟩,
  ⟨Reg.twinFailover, 4, 1, 0x0, 0x0, 0xFFFFFFFF, 0x0, .sup⟩,
  ⟨Reg.twinLinkErr, 4, 1, 0x0, 0x0, 0xFFFFFFFF, 0x0, .sup⟩,
  ⟨Reg.twinMirHold, 4, 1, 0x0, 0x0, 0xFFFFFFFF, 0x0, .sup⟩,
  ⟨Reg.dbgLock, 4, 1, 0x0, 0x0, 0x0, 0x0, .debug⟩,
  ⟨Reg.dbgGlb, 4, 1, 0x1, 0x0, 0x0, 0x0, .debug⟩,
  ⟨Reg.dbgMbrkRtn, 4, 2, 0x1FFF, 0x0, 0x0, 0x0, .debug⟩,
  ⟨Reg.dbgMbrkAddr, 4, 2, 0x7FFF, 0x0, 0x0, 0x0, .debug⟩,
  ⟨Reg.dbgMbrkSump, 4, 1, 0xF, 0x0, 0x0, 0x0, .debug⟩,
  ⟨Reg.dbgMstat, 4, 1, 0x0, 0x0, 0x0, 0x0, .debug⟩,
  ⟨Reg.dbgCtl, 4096, 2, 0x18, 0x0, 0x0, 0x0, .debug⟩,
  ⟨Reg.dbgStat, 4096, 2, 0x0, 0x40030, 0x0, 0x0, .debug⟩,
  ⟨Reg.dbgWpcLo, 4096, 2, 0x0, 0x0, 0x0, 0x0, .debug⟩,
  ⟨Reg.dbgWpcHi, 4096, 2, 0x0, 0x0, 0x0, 0x0, .debug⟩,
  ⟨Reg.dbgRegSel, 4096, 2, 0x3FF, 0x0, 0x0, 0x0, .debug⟩,
  ⟨Reg.dbgRegLo, 4096, 2, 0xFFFFFFFF, 0x0, 0x0, 0x0, .debug⟩,
  ⟨Reg.dbgRegHi, 4096, 2, 0xFFFFFFFF, 0x0, 0x0, 0x0, .debug⟩,
  ⟨Reg.dbgMaddrLo, 4096, 2, 0xFFFFFFFF, 0x0, 0x0, 0x0, .debug⟩,
  ⟨Reg.dbgMaddrHi, 4096, 2, 0xFFFF, 0x0, 0x0, 0x0, .debug⟩,
  ⟨Reg.dbgMctl, 4096, 2, 0xF, 0xC00, 0x0, 0x0, .debug⟩,
  ⟨Reg.dbgMdataLo, 4096, 2, 0xFFFFFFFF, 0x0, 0x0, 0x0, .debug⟩,
  ⟨Reg.dbgMdataHi, 4096, 2, 0xFFFFFFFF, 0x0, 0x0, 0x0, .debug⟩,
  ⟨Reg.dbgTxd, 4096, 2, 0x0, 0x0, 0x0, 0x0, .debug⟩,
  ⟨Reg.dbgRxd, 4096, 2, 0x0, 0x0, 0x0, 0x0, .debug⟩,
  ⟨Reg.dbgVtstat, 4096, 2, 0x0, 0x4000, 0x0, 0x0, .debug⟩,
  ⟨Reg.dbgIbsLoC0, 32, 8, 0xFFFFFFFC, 0x0, 0x0, 0x0, .debug⟩,
  ⟨Reg.dbgIbsHiC0, 32, 8, 0xFFFF, 0x0, 0x0, 0x0, .debug⟩,
  ⟨Reg.dbgIbeLoC0, 32, 8, 0xFFFFFFFC, 0x0, 0x0, 0x0, .debug⟩,
  ⟨Reg.dbgIbeHiC0, 32, 8, 0xFFFF, 0x0, 0x0, 0x0, .debug⟩,
  ⟨Reg.dbgIbcC0, 32, 8, 0x1FFF, 0x0, 0x0, 0x0, .debug⟩]

/-- Register rows, part 9. -/
def regRows9 : List RegRow := [
  ⟨Reg.dbgDbsLoC0, 64, 4, 0xFFFFFFFF, 0x0, 0x0, 0x0, .debug⟩,
  ⟨Reg.dbgDbsHiC0, 64, 4, 0xFFFF, 0x0, 0x0, 0x0, .debug⟩,
  ⟨Reg.dbgDbeLoC0, 64, 4, 0xFFFFFFFF, 0x0, 0x0, 0x0, .debug⟩,
  ⟨Reg.dbgDbeHiC0, 64, 4, 0xFFFF, 0x0, 0x0, 0x0, .debug⟩,
  ⟨Reg.dbgDbcC0, 64, 4, 0x1FFFFF, 0x0, 0x0, 0x0, .debug⟩,
  ⟨Reg.dbgValLoC0, 64, 4, 0xFFFFFFFF, 0x0, 0x0, 0x0, .debug⟩,
  ⟨Reg.dbgValHiC0, 64, 4, 0xFFFFFFFF, 0x0, 0x0, 0x0, .debug⟩,
  ⟨Reg.dbgVmskLoC0, 64, 4, 0xFFFFFFFF, 0x0, 0x0, 0x0, .debug⟩,
  ⟨Reg.dbgVmskHiC0, 64, 4, 0xFFFFFFFF, 0x0, 0x0, 0x0, .debug⟩,
  ⟨Reg.dbgIbsLoC1, 32, 8, 0xFFFFFFFC, 0x0, 0x0, 0x0, .debug⟩,
  ⟨Reg.dbgIbsHiC1, 32, 8, 0xFFFF, 0x0, 0x0, 0x0, .debug⟩,
  ⟨Reg.dbgIbeLoC1, 32, 8, 0xFFFFFFFC, 0x0, 0x0, 0x0, .debug⟩,
  ⟨Reg.dbgIbeHiC1, 32, 8, 0xFFFF, 0x0, 0x0, 0x0, .debug⟩,
  ⟨Reg.dbgIbcC1, 32, 8, 0x1FFF, 0x0, 0x0, 0x0, .debug⟩,
  ⟨Reg.dbgDbsLoC1, 64, 4, 0xFFFFFFFF, 0x0, 0x0, 0x0, .debug⟩,
  ⟨Reg.dbgDbsHiC1, 64, 4, 0xFFFF, 0x0, 0x0, 0x0, .debug⟩,
  ⟨Reg.dbgDbeLoC1, 64, 4, 0xFFFFFFFF, 0x0, 0x0, 0x0, .debug⟩,
  ⟨Reg.dbgDbeHiC1, 64, 4, 0xFFFF, 0x0, 0x0, 0x0, .debug⟩,
  ⟨Reg.dbgDbcC1, 64, 4, 0x1FFFFF, 0x0, 0x0, 0x0, .debug⟩,
  ⟨Reg.dbgValLoC1, 64, 4, 0xFFFFFFFF, 0x0, 0x0, 0x0, .debug⟩,
  ⟨Reg.dbgValHiC1, 64, 4, 0xFFFFFFFF, 0x0, 0x0, 0x0, .debug⟩,
  ⟨Reg.dbgVmskLoC1, 64, 4, 0xFFFFFFFF, 0x0, 0x0, 0x0, .debug⟩,
  ⟨Reg.dbgVmskHiC1, 64, 4, 0xFFFFFFFF, 0x0, 0x0, 0x0, .debug⟩]

/-- Every register row of the chapters. -/
def regRows : List RegRow :=
  regRows0 ++ regRows1 ++ regRows2 ++ regRows3 ++ regRows4 ++ regRows5 ++ regRows6 ++ regRows7 ++ regRows8 ++ regRows9

/-- Does the row hold a register at this address? -/
def RegRow.has (r : RegRow) (a : Nat) : Bool :=
  r.base ≤ a && a < r.base + r.stride * r.count && (a - r.base) % r.stride == 0

/-- The row of an address, if it names a register (01 R33). -/
def regRow (a : Nat) : Option RegRow := regRows.find? (·.has a)

/-- The index of a register inside its row. -/
def RegRow.index (r : RegRow) (a : Nat) : Nat := (a - r.base) / r.stride

/-- The stored word after reset (11 R314 gives RING_INJ_URG by station). -/
def regDefault (a : Nat) : Word :=
  if Reg.ringInjUrg ≤ a ∧ a < Reg.ringInjUrg + 128 then
    (if [0, 5, 6, 16, 21, 22].contains ((a - Reg.ringInjUrg) / 4) then 4 else 0)
  else match regRow a with
    | some r => BitVec.ofNat 32 r.reset
    | none => 0

end Sys2Proof.Machine
end

