-- ==== Sys2Proof/Machine/Crypto.lean ====
section
/-! DEFINITION. SHA-384 and the verification of ECDSA signatures over P-384, which the specification names without
defining them (12 R338, R340; 16 R421): as FIPS 180-4 and FIPS 186-5 define them (PRESUMED, log 95). -/
namespace Sys2Proof.Machine

/-! ### SHA-384 (FIPS 180-4) -/

/-- The constants of the 80 rounds. -/
def shaK : List Nat :=
  [0x428A2F98D728AE22, 0x7137449123EF65CD, 0xB5C0FBCFEC4D3B2F, 0xE9B5DBA58189DBBC, 0x3956C25BF348B538,
   0x59F111F1B605D019, 0x923F82A4AF194F9B, 0xAB1C5ED5DA6D8118, 0xD807AA98A3030242, 0x12835B0145706FBE,
   0x243185BE4EE4B28C, 0x550C7DC3D5FFB4E2, 0x72BE5D74F27B896F, 0x80DEB1FE3B1696B1, 0x9BDC06A725C71235,
   0xC19BF174CF692694, 0xE49B69C19EF14AD2, 0xEFBE4786384F25E3, 0x0FC19DC68B8CD5B5, 0x240CA1CC77AC9C65] ++
  [0x2DE92C6F592B0275, 0x4A7484AA6EA6E483, 0x5CB0A9DCBD41FBD4, 0x76F988DA831153B5, 0x983E5152EE66DFAB,
   0xA831C66D2DB43210, 0xB00327C898FB213F, 0xBF597FC7BEEF0EE4, 0xC6E00BF33DA88FC2, 0xD5A79147930AA725,
   0x06CA6351E003826F, 0x142929670A0E6E70, 0x27B70A8546D22FFC, 0x2E1B21385C26C926, 0x4D2C6DFC5AC42AED,
   0x53380D139D95B3DF, 0x650A73548BAF63DE, 0x766A0ABB3C77B2A8, 0x81C2C92E47EDAEE6, 0x92722C851482353B] ++
  [0xA2BFE8A14CF10364, 0xA81A664BBC423001, 0xC24B8B70D0F89791, 0xC76C51A30654BE30, 0xD192E819D6EF5218,
   0xD69906245565A910, 0xF40E35855771202A, 0x106AA07032BBD1B8, 0x19A4C116B8D2D0C8, 0x1E376C085141AB53,
   0x2748774CDF8EEB99, 0x34B0BCB5E19B48A8, 0x391C0CB3C5C95A63, 0x4ED8AA4AE3418ACB, 0x5B9CCA4F7763E373,
   0x682E6FF3D6B2B8A3, 0x748F82EE5DEFB2FC, 0x78A5636F43172F60, 0x84C87814A1F0AB72, 0x8CC702081A6439EC] ++
  [0x90BEFFFA23631E28, 0xA4506CEBDE82BDE9, 0xBEF9A3F7B2C67915, 0xC67178F2E372532B, 0xCA273ECEEA26619C,
   0xD186B8C721C0C207, 0xEADA7DD6CDE0EB1E, 0xF57D4F7FEE6ED178, 0x06F067AA72176FBA, 0x0A637DC5A2C898A6,
   0x113F9804BEF90DAE, 0x1B710B35131C471B, 0x28DB77F523047D84, 0x32CAAB7B40C72493, 0x3C9EBE0A15C9BEBC,
   0x431D67C49C100D4C, 0x4CC5D4BECB3E42B6, 0x597F299CFC657E2A, 0x5FCB6FAB3AD6FAEC, 0x6C44198C4A475817]

/-- The initial hash value of SHA-384. -/
def shaInit : List Nat :=
  [0xCBBB9D5DC1059ED8, 0x629A292A367CD507, 0x9159015A3070DD17, 0x152FECD8F70E5939,
   0x67332667FFC00B31, 0x8EB44A8768581511, 0xDB0C2E0D64F98FA7, 0x47B5481DBEFA4FA4]

/-- A sum modulo 2^64. -/
def shaSum (l : List Nat) : Nat := l.foldl (fun x y => (x + y) % 2 ^ 64) 0

/-- Rotate a 64-bit word right. -/
def rotr (n x : Nat) : Nat := (x >>> n ||| x <<< (64 - n)) % 2 ^ 64

/-- The exclusive or of two rotations and of a third value. -/
def shaMix (a b : Nat) (c x : Nat) : Nat := rotr a x ^^^ rotr b x ^^^ c

/-- The message schedule, newest word first, n words longer. -/
def shaSchedule : Nat → List Nat → List Nat
  | 0, l => l
  | n + 1, l =>
    let w (i : Nat) : Nat := l.getD i 0
    let s0 := shaMix 1 8 (w 14 >>> 7) (w 14)
    let s1 := shaMix 19 61 (w 1 >>> 6) (w 1)
    shaSchedule n (shaSum [s1, w 6, s0, w 15] :: l)

/-- One round on the eight working variables, with the round's constant and schedule word. -/
def shaRound (v : List Nat) (kw : Nat × Nat) : List Nat :=
  match v with
  | [a, b, c, d, e, f, g, h] =>
    let ch := (e &&& f) ^^^ ((2 ^ 64 - 1 - e) &&& g)
    let maj := (a &&& b) ^^^ (a &&& c) ^^^ (b &&& c)
    let t1 := shaSum [h, shaMix 14 18 (rotr 41 e) e, ch, kw.1, kw.2]
    let t2 := shaSum [shaMix 28 34 (rotr 39 a) a, maj]
    [shaSum [t1, t2], a, b, c, shaSum [d, t1], e, f, g]
  | v => v

/-- One block of 16 words, newest first, into the hash value. -/
def shaBlock (hash block : List Nat) : List Nat :=
  let v := (shaK.zip (shaSchedule 64 block).reverse).foldl shaRound hash
  (hash.zip v).map (fun p => shaSum [p.1, p.2])

/-- The big-endian number of some bytes. -/
def beNat (l : List Byte) : Nat := l.foldl (fun v b => 256 * v + b.toNat) 0

/-- A message with its padding: 1, zeros, the length in bits, in whole blocks of 128 bytes. -/
def shaPad (msg : List Byte) : List Byte :=
  let n := msg.length
  msg ++ (0x80#8 :: List.replicate (127 - (n + 16) % 128) 0) ++
    (List.range 16).map (fun i => BitVec.ofNat 8 (8 * n / 2 ^ (8 * (15 - i))))

/-- The first n blocks of a padded message, into the hash value. -/
def shaBlocks : Nat → List Nat → List Byte → List Nat
  | 0, hash, _ => hash
  | n + 1, hash, l =>
    let ws := (List.range 16).map (fun i => beNat ((l.drop (8 * i)).take 8))
    shaBlocks n (shaBlock hash ws.reverse) (l.drop 128)

/-- The SHA-384 digest of a message, first byte highest. -/
def sha384 (msg : List Byte) : BitVec 384 :=
  let l := shaPad msg
  BitVec.ofNat 384 (((shaBlocks (l.length / 128) shaInit l).take 6).foldl (fun v w => 2 ^ 64 * v + w) 0)

/-! ### ECDSA over P-384 (FIPS 186-5, SP 800-186) -/

/-- The field's prime. -/
def p384 : Nat := 2 ^ 384 - 2 ^ 128 - 2 ^ 96 + 2 ^ 32 - 1

/-- The curve's coefficient b; a is −3. -/
def p384b : Nat := 0xB3312FA7E23EE7E4988E056BE3F82D19181D9C6EFE8141120314088F5013875AC656398D8A2ED19D2A85C8EDD3EC2AEF

/-- The order of the base point. -/
def p384n : Nat := 0xFFFFFFFFFFFFFFFFFFFFFFFFFFFFFFFFFFFFFFFFFFFFFFFFC7634D81F4372DDF581A0DB248B0A77AECEC196ACCC52973

/-- A public key: the coordinates of a point. -/
abbrev PubKey := BitVec 384 × BitVec 384

/-- The base point. -/
def p384g : PubKey :=
  (0xAA87CA22BE8B05378EB1C71EF320AD746E1D3B628BA79B9859F741E082542A385502F25DBF55296C3A545E3872760AB7#384,
   0x3617DE4A96262C6F5D9E98BF9292DC29F8F41DBD289A147CE9DA3113B5F0B8C00A60B1CE1D7E819D7A431D7C90EA0E5F#384)

/-- A point in Jacobian coordinates: (X, Y, Z) is (X / Z², Y / Z³), and the point at infinity where Z is 0. -/
structure Jac where
  x : Nat
  y : Nat
  z : Nat
  deriving DecidableEq, Repr

/-- x − y modulo the prime. -/
def fSub (x y : Nat) : Nat := (x + p384 - y % p384) % p384

/-- Twice a point. -/
def Jac.dbl (a : Jac) : Jac :=
  let d := a.z * a.z % p384
  let g := a.y * a.y % p384
  let b := a.x * g % p384
  let al := 3 * fSub a.x d * ((a.x + d) % p384) % p384
  let x := fSub (al * al) (8 * b)
  ⟨x, fSub (al * fSub (4 * b) x) (8 * g * g), 2 * a.y * a.z % p384⟩

/-- The sum of two points. -/
def Jac.add (a b : Jac) : Jac :=
  if a.z = 0 then b
  else if b.z = 0 then a
  else
    let za := a.z * a.z % p384
    let zb := b.z * b.z % p384
    let u := a.x * zb % p384
    let h := fSub (b.x * za) u
    let s := a.y * b.z * zb % p384
    let r := fSub (b.y * a.z * za) s
    if h = 0 then (if r = 0 then a.dbl else ⟨1, 1, 0⟩)
    else
      let hh := h * h % p384
      let hhh := h * hh % p384
      let v := u * hh % p384
      let x := fSub (fSub (r * r) hhh) (2 * v)
      ⟨x, fSub (r * fSub v x) (s * hhh), a.z * b.z * h % p384⟩

/-- The lowest n bits of m and k, from the top: m·g + k·q added to a. -/
def jacMul (g q gq : Jac) (m k : Nat) : Nat → Jac → Jac
  | 0, a => a
  | n + 1, a =>
    let a := a.dbl
    jacMul g q gq m k n (match m.testBit n, k.testBit n with
      | false, false => a
      | true, false => a.add g
      | false, true => a.add q
      | true, true => a.add gq)

/-- The lowest n bits of e, from the top: b to that power, after a, modulo m. -/
def powMod (b e m : Nat) : Nat → Nat → Nat
  | 0, a => a
  | n + 1, a => powMod b e m n (if e.testBit n then a * a % m * b % m else a * a % m)

/-- The inverse modulo a prime of at most 384 bits. -/
def invMod (b m : Nat) : Nat := powMod b (m - 2) m 384 1

/-- Is the public key a point of the curve? -/
def onCurve (q : PubKey) : Bool :=
  let x := q.1.toNat
  let y := q.2.toNat
  decide (x < p384) && decide (y < p384) && y * y % p384 == fSub (x * x * x + p384b) (3 * x)

/-- Is (r, s) a signature of this digest by the holder of this public key? -/
def ecdsaOk (q : PubKey) (digest r s : BitVec 384) : Bool :=
  let r := r.toNat
  let s := s.toNat
  decide (1 ≤ r) && decide (r < p384n) && decide (1 ≤ s) && decide (s < p384n) && onCurve q &&
    (let w := invMod s p384n
     let g : Jac := ⟨p384g.1.toNat, p384g.2.toNat, 1⟩
     let k : Jac := ⟨q.1.toNat, q.2.toNat, 1⟩
     let a := jacMul g k (g.add k) (digest.toNat * w % p384n) (r * w % p384n) 384 ⟨1, 1, 0⟩
     let zi := invMod a.z p384
     a.z != 0 && a.x * zi % p384 * zi % p384 % p384n == r)

end Sys2Proof.Machine
end

