-- ==== Sys2Proof/Machine/State.lean ====
section
/-! DEFINITION. The machine's state as plain data, its stop reasons and the state after reset (INVENTORY.md, State).
Register words whose bits are plain storage live in State.regs, keyed by address, at their reset value when unlisted. -/
namespace Sys2Proof.Machine

/-- Why the block could stop. No command of the specification stops it: every meaning answers a next state, so no
constructor is raised by a meaning. Safe. -/
inductive Fault where
  /-- Raised by nobody. Safe: a model that never faults proves nothing false from a fault. -/
  | none
  deriving DecidableEq, Repr

/-- Why a command is refused. -/
inductive Refusal where
  /-- Raised by a Dispatch arm that has no meaning yet. Safe: the run stops there. -/
  | notModelled (mnemonic : String)
  deriving DecidableEq, Repr

/-- The modes of 14 R378. -/
inductive Mode where
  | off | reset | bare | priming | ready | solo | active | shadow | selfTest | quiescent | halted | faultHold
  deriving DecidableEq, Repr

/-! ### The array (02) -/

/-- A write on its way to the wells: commits at the end of cycle due (02 R40, R52). scrub: the words a scrubber
commit rewrites; a microword write carries its merged value and the lanes it covers. -/
structure WellWrite where
  due   : Nat
  plane : Nat
  val   : Plane
  mask  : Plane
  urgent : Bool
  isSwap : Bool
  scrub : Option (List (Nat × Nat))
  deriving DecidableEq, Repr

/-- A segment-plane word whose stored bits are not what was written: plane, tile, segment in the tile, and the positions
of the wrong bits, 0 to 71 data bit 9·j + c of row j and physical column c, 72 to 79 check bits (02 R49 to R51). -/
structure StoredErr where
  plane : Nat
  tile  : Nat
  seg   : Nat
  bits  : List Nat
  deriving DecidableEq, Repr

/-- The array die: wells, lane latches, field status, scrubber, repair (02). map: the effective map as the last map load
built it, mapLog the rows it took from the flash log; force: the values in force in powered fields. slackP: the last cycle a slack self-test
routine occupied, slackGaps: those of its cycles in which it executed nothing and the scrubber may still work;
slackRep: the repetitions of a failing routine still due; slackDone: the routines of the present slack pass that are done (15
R412, R414); pathBad: the fields whose pump or status path has
failed (01 R18). -/
structure Arr where
  wells : List (Nat × Plane)
  cy : Plane
  tg : Plane
  lk : Plane
  an : Plane
  au : Plane
  io : Plane
  live : BitVec 16
  dead : BitVec 16
  flight : List WellWrite
  errs : List StoredErr
  excl : BitVec 1024
  inj : List (Nat × Nat)
  scrubPlane : Nat
  scrubNext : Nat
  mapOk : Bool
  mapCopy : Bool
  map : List (Nat × BitVec 4)
  overlay : List (Nat × BitVec 4)
  logging : Option (Nat × BitVec 4)
  force : List (Nat × BitVec 4)
  mapLog : List Nat
  changed : List Nat
  clearing : BitVec 16
  cleared : BitVec 16
  slackP : Nat
  slackGaps : List Nat
  slackRep : Nat
  slackDone : Nat
  pathBad : BitVec 16
  deriving DecidableEq, Repr

/-! ### The microsequencer (03) -/

/-- A copied plane pointer: BASE, WIDTH, FMT (05 R143). -/
structure Ptr where
  base : Nat
  width : Nat
  fmt : Nat
  deriving DecidableEq, Repr

/-- A queue entry (05 R145, R148): routine, operands, s register, owner number, acceptance cycle. -/
structure Entry where
  rtn : Nat
  d : Ptr
  s1 : Ptr
  s2 : Ptr
  sreg : Option (Fin 8)
  issue : Nat
  acc : Nat
  urgent : Bool
  deriving DecidableEq, Repr

/-- A contribution made by the running routine, as far as the routine still needs it (03 R97, 02 R79). -/
structure LastContrib where
  exec : Nat
  or : Bool
  isOr : Bool
  result : Dbl
  id : Nat
  deriving DecidableEq, Repr

/-- The routine running (03 R93, R106; 02 R64). For a routine of the released library, phase: the microwords it has
executed; todo: the plane writes its commit phase has still to make, as plane, write condition and value (log 14). -/
structure Running where
  entry : Entry
  next : Nat
  commitAt : Option Nat
  last : Option LastContrib
  edge : Word
  phase : Nat
  todo : List (Nat × Nat × Plane)
  deriving DecidableEq, Repr

/-- Loop and call state of one stream (03 R93). -/
structure LoopSt where
  lcnt : Nat
  lidx : Nat
  stack : List (Nat × Nat)
  calls : List Nat
  deriving DecidableEq, Repr

/-- A preparation in progress (03 R105): the restart slot or a queue head. -/
inductive Prep where
  | restart
  | head (urgent : Bool)
  deriving DecidableEq, Repr

/-- The microsequencer (03). fatalCyc, contCyc: the array cycle of the recorded fatal and of the logged contained error, where it
is one of the array or the microsequencer (15 R405). -/
structure Mseq where
  cs : List (Nat × Micro)
  vendorLib : Bool
  stageAddr : Option Nat
  stage : List (Nat × Word)
  dispEn : Bool
  nq : List Entry
  uq : List Entry
  accept : List Entry
  run : Option Running
  restart : Option Entry
  prep : Option Prep
  lastP : Option (Nat × Bool)
  relH : Nat
  loopN : LoopSt
  loopU : LoopSt
  held : Bool
  brk : Option (Nat × Nat)
  istall : Nat
  sstall : Nat
  bubble : Nat
  curRtn : Nat
  curAddr : Nat
  fatalCyc : Option Nat
  contCyc : Option Nat
  deriving DecidableEq, Repr

/-! ### The sump (02) -/

/-- A contribution in flight from its execute cycle (02 R40, R76). stage 0: nothing delivered yet; 1: OR and tile OR
delivered. -/
structure Contrib where
  exec : Nat
  id : Nat
  urgent : Bool
  op : Nat
  or : Bool
  tiles : BitVec 1024
  count : Nat
  first : Nat
  acc : Dbl
  ovf : Bool
  stage : Nat
  rtn : Nat
  deriving DecidableEq, Repr

/-- A result on its way to the tap, or collected there (02 R82). age: tap edges seen since collection. -/
structure TapItem where
  exec : Nat
  urgent : Bool
  or : Bool
  tiles : BitVec 1024
  age : Nat
  deriving DecidableEq, Repr

/-- A result on its way to an s register (05 R151). needs: the contribution whose result it carries. -/
structure Delivery where
  due : Nat
  sreg : Fin 8
  issue : Nat
  value : Dbl
  urgent : Bool
  needs : Option Nat
  deriving DecidableEq, Repr

/-- The six tap outputs (02 R82). -/
structure Tap where
  nv : Bool
  nor : Bool
  uv : Bool
  uor : Bool
  gv : Bool
  g : BitVec 4
  deriving DecidableEq, Repr

/-- The outputs of a disabled tap (02 R82). -/
def Tap.off : Tap := ⟨false, false, false, false, false, 0⟩

/-- The sump (02). doneN, doneU: the cycle of the last delivery of each stream (05 R154). -/
structure Sump where
  nacc : Dbl
  uacc : Dbl
  naccShown : Dbl
  uaccShown : Dbl
  nextId : Nat
  flight : List Contrib
  tapFlight : List TapItem
  collected : List TapItem
  tap : Tap
  last : Dbl
  tiles : BitVec 1024
  snap : BitVec 1024
  dbgSnap : BitVec 1024
  deliver : List Delivery
  doneN : Nat
  doneU : Nat
  deriving DecidableEq, Repr

/-! ### Issue side of the sequencer core (05) -/

/-- A sump result register: value, valid bit, owner (issue number), named since reset (05 R151, R155). -/
structure SReg where
  val : Dbl
  valid : Bool
  owner : Nat
  named : Bool
  deriving DecidableEq, Repr

/-- Plane pointers and s registers (05 R143, R151). -/
structure Iss where
  ptr : Vector Ptr 16
  sreg : Vector SReg 8
  issueNo : Nat
  deriving DecidableEq, Repr

/-! ### The cores (09, 10) -/

/-- An array-group instruction that waits at the head of the reorder buffer (05 R149, R154 to R156). -/
inductive Wait where
  | issue (e : Entry)
  | await (u : Bool)
  | sread (gd : Fin 32) (s : Fin 8)
  | tend
  deriving DecidableEq, Repr

/-- A core (09 R246, 10 R277) with its run control (16). dvQ, dvR, dvSt: the divider state (09 R257), whose layout between
the steps the specification does not give (log 36). ibSkip: the address of an instruction that caused an instruction-range
halt and has not executed since (16 R427). pstatPend: what the debugger wrote to PSTAT, in force from the resume
(16 R428). -/
structure Core where
  g : Vector Dbl 32
  ssp : Dbl
  v : Vector VReg 32
  k : Vector Dbl 8
  vl : Nat
  fsr : BitVec 16
  lc : Dbl
  pstat : BitVec 16
  pstatPend : Option (BitVec 16)
  pc : BitVec 48
  vbase : Dbl
  ctxid : Byte
  synd : Dbl
  dvQ : Dbl
  dvR : Dbl
  dvSt : Dbl
  scr0 : Dbl
  scr1 : Dbl
  twb : Vector Dbl 8
  twl : Vector Dbl 8
  rsv : Option Nat
  rpt : Bool
  run : Bool
  halted : Bool
  wfi : Bool
  wait : Option Wait
  haltReq : Nat
  stepping : Bool
  ibSkip : Option Nat
  hit : BitVec 12
  irqPend : Word
  wdFired : Bool
  wdLeft : Nat
  nmi16 : Bool
  nmi17 : Option (BitVec 48 × BitVec 4)
  ret : Nat
  txd : List Byte
  rxd : List Byte
  deriving DecidableEq, Repr

/-! ### The tick generator (05) -/

/-- The tick generator (05 R157 to R165). first: captured, the next boundary begins tick 0; join: the numbers that
boundary takes in join mode (tick, frame, tick in frame); judged: the program in progress is judged no more; pulse,
framePulse, pulseLen: the first cycle of the last TICK_P and FRAME_P and their length; divAt: the capture that reset the
DEVCLK dividers (07 R199, R221). -/
structure Tick where
  en : Bool
  policy : BitVec 2
  warnEn : Bool
  period : Nat
  frameLen : Nat
  pendPeriod : Option Nat
  pendFrame : Option Nat
  run : Bool
  armed : Bool
  inTick : Bool
  isOver : Bool
  count : Dbl
  cur : Dbl
  frame : Dbl
  inframe : Nat
  nextB : Nat
  lastB : Nat
  heldPhase : Nat
  first : Bool
  join : Option (Nat × Nat × Nat)
  held : Option Dbl
  startAt : Nat
  judged : Bool
  lateDone : Bool
  pulse : Nat
  framePulse : Nat
  pulseLen : Nat
  divAt : Nat
  deriving DecidableEq, Repr

/-! ### Pumps, cisterns (06) -/

/-- PUMP_STAT.STATE (06). -/
inductive PumpSt where
  | idle | fetch | shift | wait | error
  deriving DecidableEq, Repr

/-- A descriptor (06 R190). -/
structure Desc where
  op : Nat
  esz : Nat
  npl : Nat
  sext : Bool
  irq : Bool
  noWait : Bool
  stride : Nat
  addr : Nat
  tmask : Dbl
  pstride : Nat
  pbase : Nat
  resvd : Bool
  deriving DecidableEq, Repr

/-- One pump (06 R185 to R194). rows: shift cycles of the plane in progress already done; emit: the rows of an OUT plane
already shifted out, at their own rows of the field; result: the status its descriptor will be completed with; turn: the
half of the turn buffer with the planes of the group of eight in progress, read for IN or not yet written for OUT, judged:
the errors of an IN group's reads have been presented; ahead: the
other half, the next group as an IN transfer has read it, aheadEnd: the status that ends the descriptor when that group is
due; next: the entry fetched while this one shifts, none inside where that fetch failed (06 R189, R194). -/
structure Pump where
  st : PumpSt
  desc : Option Desc
  j : Nat
  head : Nat
  last : Nat
  rows : Nat
  emit : Plane
  result : Option Nat
  turn : List Plane
  judged : Bool
  ahead : List Plane
  aheadEnd : Option Nat
  next : Option (Option Desc)
  deriving DecidableEq, Repr

/-- State of a cistern bank (06 R174). -/
inductive BankSt where
  | on | retention | off
  deriving DecidableEq, Repr

/-- An accepted write at a cistern write port: word index, data, byte enables, whether the bank takes it, whether its
completion is discarded (07 R214, R216, R220). -/
structure CwEntry where
  a : Nat
  v : BitVec 256
  be : BitVec 32
  ok : Bool
  lost : Bool
  deriving DecidableEq, Repr

/-- An accepted read at a cistern read port (07 R214, R216, R220). -/
structure CrEntry where
  a : Nat
  ok : Bool
  lost : Bool
  deriving DecidableEq, Repr

/-- Cisterns, secure cistern, bulk readiness (06). chg: a change in progress; req: a request waiting. -/
structure Cist where
  st : Vector BankSt 64
  chg : List (Nat × BankSt)
  req : List (Nat × BankSt)
  owner : Dbl
  eff : Dbl
  cw : Vector (List CwEntry) 8
  cwRsp : Vector (Nat × Bool) 8
  cr : Vector (List CrEntry) 8
  crRsp : Vector (BitVec 256 × Bool) 8
  wiping : Bool
  verifyFail : Bool
  rdy : BitVec 2
  selfRefresh : Bool
  deriving DecidableEq, Repr

/-! ### Edge fabric (07) -/

/-- EDGE_STAT.STATE (07 R211). -/
inductive EdgeSt where
  | unloaded | loading | loaded | running
  deriving DecidableEq, Repr

/-- A configuration load or reload in progress (07 R208, R212, R215). phase: 0 before isolation, 1 isolation due,
2 writing, 3 release due; crc: the running image CRC; ready: the first edge at which a release may fall; met: the tick
boundary it has met. -/
structure EdgeLoad where
  reload : Bool
  bay : Fin 8
  src : Nat
  seq : Nat
  atTick : Bool
  phase : Nat
  crc : Word
  imageId : Dbl
  ready : Nat
  met : Option Nat
  deriving DecidableEq, Repr

/-- A byte as it went over a serial controller's lines: sent or received, the byte, START and STOP conditions, NACK, the
CS_N lines held low, CPOL and CPHA (07 R222). -/
structure SerFrame where
  sent : Bool
  byte : Byte
  start : Bool
  stop : Bool
  nack : Bool
  cs : BitVec 4
  mode : BitVec 2
  deriving DecidableEq, Repr

/-- One of the five serial controllers (07 R222). wire: the last byte that went over its lines. -/
structure Serial where
  tx : List (Byte × BitVec 4)
  rx : List Byte
  wire : Option SerFrame
  deriving DecidableEq, Repr

/-- The edge fabric's configuration engine, cells and hard blocks (07). startPend: an accepted START (at a tick boundary?,
the first edge it may take, the boundary it has met); frames: configuration memory by position in the full image; quiet:
declared pin states; ff: the 32,768 flip-flops; pinIn: the levels of the user pins at the last edge of a clock tree. -/
structure Edge where
  st : EdgeSt
  startPend : Option (Bool × Nat × Option Nat)
  load : Option EdgeLoad
  bayDead : BitVec 8
  isolated : BitVec 8
  frames : List (Nat × BitVec 2048)
  quiet : Vector (BitVec 12) 8
  imageId : Dbl
  ff : BitVec 32768
  pinIn : BitVec 48
  ser : Vector Serial 5
  deriving DecidableEq, Repr

/-! ### Medium links and valve (08) -/

/-- A word of a lane interface: two 64-bit blocks, the earlier in [63:0], whether it begins a multiblock, RX_ERR
(07 R218). -/
structure LaneWord where
  data : BitVec 128
  mbstart : Bool
  err : Bool
  deriving DecidableEq, Repr

/-- The JESD link layers (08 R226 to R232). Receive states: 0 off, 1 search, 2 align, 3 data;
transmit states: 0 off, 1 waiting, 2 data. rxOut: the samples by cycle, rxWord: the words by lane of the last
release. -/
structure Jesd where
  rxEn : BitVec 4
  txEn : BitVec 4
  srTrack : Bool
  rxSt : Vector Nat 4
  txSt : Vector Nat 4
  lock : BitVec 16
  marker : BitVec 16
  srSeen : Bool
  lemc0 : Nat
  rxOut : Vector (List (List (BitVec 16))) 4
  rxWord : Vector (List LaneWord) 16
  deriving DecidableEq, Repr

/-- The limits of one transmit link (08 R237 to R240). -/
structure LinkLim where
  burstMax : BitVec 24
  gapMin : BitVec 24
  duty : BitVec 20
  egCtl : Word
  egThr : Dbl
  deriving DecidableEq, Repr

/-- Every limit register (08 R242). mag: VALVE_MAG words that are not 0. -/
structure Limits where
  set : Bool
  slot : BitVec 10
  link : Vector LinkLim 4
  mag : List (Nat × BitVec 16)
  deriving DecidableEq, Repr

/-- One transmit link at the valve (08 R238, R239): the request, its first cycle and the cycles presented so far, the
burst's granted cycles, the last granted cycle, the duty slots (newest first), the samples passed to the link in the
request's cycles, the cycles of the last VT_SUPP and VT_CLIP pulses. -/
structure VLink where
  req : Bool
  start : Nat
  seen : Nat
  granting : Bool
  burst : Nat
  lastGrant : Option Nat
  slotNow : Nat
  slots : List Nat
  out : List (List (BitVec 16))
  suppAt : Option Nat
  clipAt : Option Nat
  deriving DecidableEq, Repr

/-- The energy gate's record of one receive link: cycle and e(u) of the cycles in data, and the cycle from which it
has been in data without a gap (08 R240). -/
structure EgHist where
  e : List (Nat × Nat)
  since : Option Nat
  deriving DecidableEq, Repr

/-- The valve (08 R233 to R243). openAt, closedAt: the cycles of the last opening and closing; closeBy: the cycle by which
a closing condition that has arisen closes it (R235); slotNext: the next boundary of the slot grid (R239); permitPin: the
level at TX_PERMIT; permits: the last changes of its synchronised value, newest first; permitOld: the value before them
(R241). -/
structure Valve where
  open_ : Bool
  openAt : Nat
  closedAt : Nat
  lim : Limits
  pend : Option Limits
  lock : Bool
  closeBy : Option Nat
  block : Nat
  slotNext : Nat
  permitPin : Bool
  permits : List (Nat × Bool)
  permitOld : Bool
  shut : Bool
  link : Vector VLink 4
  eg : Vector EgHist 4
  deriving DecidableEq, Repr

/-! ### Ring fabric (11) -/

/-- A packet's way on one ring: the positions where it enters and leaves it, its direction (anticlockwise?), the virtual
channel it leaves on (11 R309, R310). -/
structure Leg where
  enter : Nat
  leave : Nat
  anti : Bool
  vc : Nat
  deriving DecidableEq, Repr

/-- A packet's way through the rings: its legs, the bridge it crosses, the ring cycles of an unblocked flit
(11 R309 to R312); no leg: answered without entering a ring. -/
structure Route where
  legs : List Leg
  bridge : Option Nat
  cycles : Nat
  deriving DecidableEq, Repr

/-- A response on its way (11 R307); durg: the urgency of the data flit that follows a read's (11 R313, R314). -/
structure Resp where
  src : Nat
  dst : Nat
  tag : BitVec 8
  code : BitVec 4
  data : BitVec 512
  isRead : Bool
  posted : Bool
  addr : BitVec 48
  urg : Nat
  durg : Nat
  epoch : Bool
  route : Route
  deriving DecidableEq, Repr

/-- A snoop that its core has not answered yet (11 R308): SRC, DST, granule, TYPE, TAG, urgency, epoch, way. -/
structure Snoop where
  src : Nat
  dst : Nat
  granule : Nat
  ty : Nat
  tag : Nat
  urg : Nat
  epoch : Bool
  route : Route
  deriving DecidableEq, Repr

/-- The ring fabric (11). way: that of the last request; latches: high halves held for a station (15 R408); readVal: the
value that the last register read made as a command of its own returned. -/
structure Ring where
  epoch : Bool
  rt0 : Vector (BitVec 4) 32
  rt1 : Vector (BitVec 4) 32
  iso : Word
  drain : Word
  dry : Word
  resp : List Resp
  snoops : List Snoop
  way : Route
  got : Option Resp
  readVal : Option Word
  latches : List ((Nat × Nat) × Word)
  dbgLatches : List (Nat × Word)
  deriving DecidableEq, Repr

/-! ### Host interface (12) -/

/-- A ring in host memory (12 R331). phase: wraps of the producer. -/
structure HRing where
  base : Dbl
  size : BitVec 4
  en : Bool
  tail : Nat
  head : Nat
  seq : Word
  stopped : Bool
  why : BitVec 2
  deriving DecidableEq, Repr

/-- A reply written to the reply ring (12 R333). -/
structure Reply where
  tag : BitVec 16
  opcode : BitVec 16
  status : BitVec 16
  seq : Word
  res0 : Dbl
  res1 : Dbl
  ring : Nat
  irq : Bool
  phase : Bool
  deriving DecidableEq, Repr

/-- An event written to the event ring (12 R334). -/
structure Evt where
  code : BitVec 16
  tick : Dbl
  data : Dbl
  phase : Bool
  deriving DecidableEq, Repr

/-- The command in execution (12 R333). -/
structure CurCmd where
  ring : Nat
  slot : Slot
  deriving DecidableEq, Repr

/-- What the host interface reports to AER: a Completer Abort (12 R329), a ring entry that could not be written, by ring
(0 reply, 1 event; 12 R334). -/
inductive AerErr where
  | completerAbort | entryWrite (ring : Nat)
  deriving DecidableEq, Repr

/-- The host interface and the command firmware's bookkeeping (12). evQ: the events that arose and are not written yet, with
TICK_CUR at the event. out: the bytes last written to host memory for
IDENTIFY or DATA_READ; outAt: the buffer IDENTIFY named. msix: the vectors sent; msixTab, pba: the MSI-X table's words and
the pending bit array; cpl: the last host read's completion (Completer Abort?, its data); aer: the errors reported to AER;
bar: the bases of BAR0 and BAR2 (R326). -/
structure HostIf where
  cr : Vector HRing 4
  rp : HRing
  ev : HRing
  replies : List Reply
  events : List Evt
  evQ : List (BitVec 16 × Dbl × Dbl)
  held : Option Reply
  lost : Bool
  cur : Option CurCmd
  lastRing : Nat
  msix : List Nat
  msixTab : List (Nat × Word)
  pba : Dbl
  cpl : Option (Bool × List Byte)
  aer : List AerErr
  bar : Vector Dbl 2
  lgen : BitVec 3
  lwidth : BitVec 5
  rom : Bool
  fw : Bool
  fwVer : Word
  fwLevel : BitVec 16
  fwSec : BitVec 16
  wl : Option (BitVec 384)
  wlJesd : Option JesdSet
  linkUp : Option Nat
  runReq : Option Nat
  stopReq : Bool
  dispWas : Bool
  lcPend : Option (BitVec 2)
  primeTimer : Bool
  stOpts : Option (Bool × Bool)
  seedVal : BitVec 256
  out : List Byte
  outAt : Dbl
  user : List (BitVec 16 × List Byte)
  deriving DecidableEq, Repr

/-! ### Paired operation (13) -/

/-- A message sent on the twin link, with what it carries (13 R353; CKPT: 13 R371). -/
inductive Sent where
  | hello (h : Hello)
  | arm
  | join (n phase frame inframe : Nat)
  | ckpt (f : Nat) (regions : List (List Byte)) (crcs : List Dbl)
  | fault
  | stepdown (f : Option Nat)
  | fwd (t : Nat) (x : Mirrored)
  | ack (t : Nat)
  | digest (tick : Nat) (v : Dbl)
  deriving DecidableEq, Repr

/-- A mirrored input that waits for its tick (13 R358, R359). acked: its receipt has been acknowledged; own: it is that of
the command in execution, which is replied to when it has been applied, with the RESULT0 the workload gives, if any
(12 R335). -/
structure MirIn where
  t : Nat
  x : Mirrored
  acked : Bool
  own : Option (Option Dbl)
  deriving DecidableEq, Repr

/-- A tick whose digest is being formed (13 R361): its boundaries, whether its TEND has retired, its results (urgent,
issue number, register, value). -/
structure DigTick where
  n : Nat
  b0 : Nat
  b1 : Option Nat
  ended : Bool
  res : List (Bool × Nat × Nat × Dbl)
  deriving DecidableEq, Repr

/-- The twin block and the firmware's pair state (13). role: 0 none, 1 active, 2 shadow (13 R350). hb: the peer's
heartbeat; ownForce: a shadow drives TX_OWN while taking over; ownDrop: a member that hands over has dropped it;
armStep: 0 none, 1 ARM to be sent or awaited, 2 EN is set at the next capture, 3 armed; join: the forming pair is a join;
ckptSend: a transfer in progress and whether it has ended; ckptRx: a received checkpoint being copied; ckptDone, copyAt:
the frame of the last one copied and the DEVCLK cycle then. -/
structure Twin where
  state : BitVec 3
  role : BitVec 2
  link : Bool
  hb : Bool
  ownForce : Bool
  ownDrop : Bool
  peerOwn : Bool
  sel : Bool
  handF : Option Nat
  lossAt : Option Nat
  peer : Option Hello
  join : Bool
  joinCap : Option Nat
  armStep : Nat
  inputs : List MirIn
  digTicks : List DigTick
  vt : List (Nat × Nat × List (BitVec 16))
  ownDig : List (Nat × Dbl)
  peerDig : List (Nat × Dbl)
  ckptSend : Option (Nat × Bool)
  ckptRx : Option (Nat × List (List Byte))
  ckptBuf : Bool
  ckptDone : Option Nat
  copyAt : Nat
  sent : List Sent
  deriving DecidableEq, Repr

/-! ### Power and wellhead (14) -/

/-- State of a field's domain (14 R383, R385). -/
inductive FldSt where
  | off | on | retain
  deriving DecidableEq, Repr

/-- The power controller (14 R383 to R386). chg: a change in progress. -/
structure Pwr where
  fld : Vector FldSt 16
  chg : List (Nat × FldSt)
  req : Word
  bcast : Bool
  edgeOn : Bool
  bcastReq : Bool
  edgeReq : Bool
  deriving DecidableEq, Repr

/-- What the wellhead's flash holds (02 R67, 12 R336, R344). copy0, copy1: the two map copies with a good CRC, 256 KiB each,
as the bytes that differ from 0x88 (02 R65); keys: the key slots present, pub: their public keys. lc: 0 Manufacture, 1 Deployed, 2 Returned, 3 Scrapped. -/
structure Flash where
  copy0 : Option (List (Nat × Byte))
  copy1 : Option (List (Nat × Byte))
  log : List (Nat × BitVec 4)
  lc : BitVec 2
  lcLog : BitVec 2
  keys : BitVec 4
  pub : Vector PubKey 4
  secFloor : BitVec 16
  serial : Dbl
  stepping : BitVec 8
  deriving DecidableEq, Repr

/-- The wellhead (14 R387 to R402). -/
structure Wh where
  cause : Nat
  left : Nat
  seqRun : Bool
  perstLow : Bool
  temps : List Byte
  hot : Nat
  trip : Bool
  alert : Bool
  tamper : Bool
  secs : Nat
  wdEn : Bool
  wdPeriod : Nat
  wdLeft : Nat
  frozen : Bool
  flash : Flash
  pllLock : Bool
  devOk : Bool
  devLost : Bool
  khz : Nat
  conv : Bool
  deriving DecidableEq, Repr

/-! ### Debug (16) -/

/-- The debug unit (16). respHeld: the response under verification: slot, r, s, and the nonce it answers. -/
structure Dbg where
  unlocked : BitVec 2
  fails : Nat
  slot : BitVec 2
  nonce : Option (BitVec 256)
  respHeld : Option (Byte × BitVec 384 × BitVec 384 × BitVec 256)
  tapData : BitVec 2048
  tapIr : Nat
  tapStatus : BitVec 4
  drive : Option PinPic
  mstep : Bool
  deriving DecidableEq, Repr

/-! ### The whole block -/

/-- The state. pending is the queue of waiting commands (log 1); free counts the free values used (log 2); cyc: the core
cycle read last, of the one count that both cores' cycle counters show (01 R25; log 13). -/
structure State where
  pending : List Instr
  free : Nat
  mode : Mode
  leftMode : Mode
  acyc : Nat
  cyc : Nat
  dcyc : Nat
  regs : List (Nat × Word)
  mem : List Host.Cell
  arr : Arr
  mseq : Mseq
  sump : Sump
  iss : Iss
  seq : Core
  cmd : Core
  tick : Tick
  pump : Vector Pump 16
  cist : Cist
  edge : Edge
  jesd : Jesd
  valve : Valve
  ring : Ring
  host : HostIf
  twin : Twin
  pwr : Pwr
  wh : Wh
  dbg : Dbg
  deriving DecidableEq, Repr

/-! ### Reset values -/

/-- The lane latches and fields after reset: nothing live, wells unlisted (02 R37, R71). -/
def Arr.reset : Arr where
  wells := []
  cy := 0
  tg := 0
  lk := 0
  an := 0
  au := 0
  io := 0
  live := 0
  dead := 0
  flight := []
  errs := []
  excl := 0
  inj := []
  scrubPlane := 0
  scrubNext := 0
  mapOk := false
  mapCopy := false
  map := []
  overlay := []
  logging := none
  force := []
  mapLog := []
  changed := []
  clearing := 0
  cleared := 0
  slackP := 0
  slackGaps := []
  slackRep := 0
  slackDone := 0
  pathBad := 0

/-- A pointer's value after reset (05 R143). -/
def Ptr.reset : Ptr := ⟨0, 1, 0⟩

/-- Loop state at dispatch and reset (03 R93). -/
def LoopSt.reset : LoopSt := ⟨0, 0, [], []⟩

/-- The microsequencer after reset (03 R101: the control store holds zeros). -/
def Mseq.reset : Mseq where
  cs := []
  vendorLib := false
  stageAddr := none
  stage := []
  dispEn := false
  nq := []
  uq := []
  accept := []
  run := none
  restart := none
  prep := none
  lastP := none
  relH := 0
  loopN := LoopSt.reset
  loopU := LoopSt.reset
  held := false
  brk := none
  istall := 0
  sstall := 0
  bubble := 0
  curRtn := 0
  curAddr := 0
  fatalCyc := none
  contCyc := none

/-- The sump after reset. -/
def Sump.reset : Sump where
  nacc := 0
  uacc := 0
  naccShown := 0
  uaccShown := 0
  nextId := 0
  flight := []
  tapFlight := []
  collected := []
  tap := Tap.off
  last := 0
  tiles := 0
  snap := 0
  dbgSnap := 0
  deliver := []
  doneN := 0
  doneU := 0

/-- A core after reset (09 R246). -/
def Core.reset : Core where
  g := Vector.replicate 32 0
  ssp := 0
  v := Vector.replicate 32 0
  k := Vector.replicate 8 0
  vl := 0
  fsr := 0
  lc := 0
  pstat := 0x10#16
  pstatPend := none
  pc := 0
  vbase := 0
  ctxid := 0
  synd := 0
  dvQ := 0
  dvR := 0
  dvSt := 0
  scr0 := 0
  scr1 := 0
  twb := Vector.replicate 8 0
  twl := Vector.replicate 8 0
  rsv := none
  rpt := false
  run := false
  halted := false
  wfi := false
  wait := none
  haltReq := 0
  stepping := false
  ibSkip := none
  hit := 0
  irqPend := 0
  wdFired := false
  wdLeft := 0
  nmi16 := false
  nmi17 := none
  ret := 0
  txd := []
  rxd := []

/-- The tick generator after reset (05 R170). -/
def Tick.reset : Tick where
  en := false
  policy := 0
  warnEn := false
  period := 0x1000
  frameLen := 1
  pendPeriod := none
  pendFrame := none
  run := false
  armed := false
  inTick := false
  isOver := false
  count := 0
  cur := 0
  frame := 0
  inframe := 0
  nextB := 0
  lastB := 0
  heldPhase := 0
  first := false
  join := none
  held := none
  startAt := 0
  judged := false
  lateDone := false
  pulse := 0
  framePulse := 0
  pulseLen := 1
  divAt := 0

/-- Cisterns after reset: every bank on once its clear ends (06 R175; CISTERN_BUSY all ones). -/
def Cist.reset : Cist where
  st := Vector.replicate 64 .off
  chg := (List.range 64).map (fun n => (n, BankSt.on))
  req := []
  owner := 0
  eff := 0
  cw := Vector.replicate 8 []
  cwRsp := Vector.replicate 8 (0, false)
  cr := Vector.replicate 8 []
  crRsp := Vector.replicate 8 (0, false)
  wiping := false
  verifyFail := false
  rdy := 0
  selfRefresh := false

/-- The edge fabric after reset (07 R211: UNLOADED, pins quiet). -/
def Edge.reset : Edge where
  st := .unloaded
  startPend := none
  load := none
  bayDead := 0
  isolated := 0
  frames := []
  quiet := Vector.replicate 8 0
  imageId := 0
  ff := 0
  pinIn := 0
  ser := Vector.replicate 5 ⟨[], [], none⟩

/-- The JESD links after reset (08 R245). -/
def Jesd.reset : Jesd where
  rxEn := 0
  txEn := 0
  srTrack := false
  rxSt := Vector.replicate 4 0
  txSt := Vector.replicate 4 0
  lock := 0
  marker := 0
  srSeen := false
  lemc0 := 0
  rxOut := Vector.replicate 4 []
  rxWord := Vector.replicate 16 []

/-- Limits that grant nothing (08 R242). -/
def Limits.reset : Limits := ⟨false, 0, Vector.replicate 4 ⟨0, 0, 0, 0, 0⟩, []⟩

/-- The valve after reset (08 R242). -/
def Valve.reset : Valve where
  open_ := false
  openAt := 0
  closedAt := 0
  lim := Limits.reset
  pend := none
  lock := false
  closeBy := none
  block := 0
  slotNext := 0
  permitPin := false
  permits := []
  permitOld := false
  shut := false
  link := Vector.replicate 4 ⟨false, 0, 0, false, 0, none, 0, [], [], none, none⟩
  eg := Vector.replicate 4 ⟨[], none⟩

/-- The ring fabric after reset (11 R324). -/
def Ring.reset : Ring where
  epoch := false
  rt0 := Vector.replicate 32 0
  rt1 := Vector.replicate 32 0
  iso := 0
  drain := 0
  dry := 0
  resp := []
  snoops := []
  way := ⟨[], none, 0⟩
  got := none
  readVal := none
  latches := []
  dbgLatches := []

/-- A host ring after reset (12 R331). -/
def HRing.reset : HRing := ⟨0, 0, false, 0, 0, 0, false, 0⟩

/-- The host interface after reset (12 R347). -/
def HostIf.reset : HostIf where
  cr := Vector.replicate 4 HRing.reset
  rp := HRing.reset
  ev := HRing.reset
  replies := []
  events := []
  evQ := []
  held := none
  lost := false
  cur := none
  lastRing := 3
  msix := []
  msixTab := []
  pba := 0
  cpl := none
  aer := []
  bar := Vector.replicate 2 0
  lgen := 0
  lwidth := 0
  rom := false
  fw := false
  fwVer := 0
  fwLevel := 0
  fwSec := 0
  wl := none
  wlJesd := none
  stOpts := none
  linkUp := none
  runReq := none
  stopReq := false
  dispWas := false
  lcPend := none
  primeTimer := false
  seedVal := 0
  out := []
  outAt := 0
  user := []

/-- The twin block after reset (13 R377). -/
def Twin.reset : Twin where
  state := 0
  role := 0
  link := false
  hb := false
  ownForce := false
  ownDrop := false
  peerOwn := false
  sel := false
  handF := none
  lossAt := none
  peer := none
  join := false
  joinCap := none
  armStep := 0
  inputs := []
  digTicks := []
  vt := []
  ownDig := []
  peerDig := []
  ckptSend := none
  ckptRx := none
  ckptBuf := false
  ckptDone := none
  copyAt := 0
  sent := []

/-- The power controller after reset: everything off (14 R384). -/
def Pwr.reset : Pwr := ⟨Vector.replicate 16 .off, [], 0, false, false, false, false⟩

/-- The flash as shipped, in the life-cycle state Manufacture; the public keys are a DESIGN CHOICE (15 R416, 12 R344; log 4). -/
def Flash.shipped : Flash :=
  ⟨some [], some [], [], 0, 0, 0xF, Vector.replicate 4 p384g, 0, 0, 0⟩

/-- The wellhead after a reset of cause 0 (14 R391, R400). -/
def Wh.reset : Wh where
  cause := 0
  left := 0
  seqRun := true
  perstLow := false
  temps := List.replicate 64 0
  hot := 0
  trip := false
  alert := false
  tamper := false
  secs := 0
  wdEn := false
  wdPeriod := 60
  wdLeft := 0
  frozen := false
  flash := Flash.shipped
  pllLock := false
  devOk := false
  devLost := false
  khz := 0
  conv := false

/-- The debug unit after reset (16 R436). -/
def Dbg.reset : Dbg where
  unlocked := 0
  fails := 0
  slot := 0
  nonce := none
  respHeld := none
  tapData := 0
  tapIr := 0x01
  tapStatus := 0
  drive := none
  mstep := false

/-- The block right after reset of cause 0: mode Reset, the start-up sequence running (14 R391, R392). -/
def State.reset : State where
  pending := []
  free := 0
  mode := .reset
  leftMode := .ready
  acyc := 0
  cyc := 0
  dcyc := 0
  regs := []
  mem := []
  arr := Arr.reset
  mseq := Mseq.reset
  sump := Sump.reset
  iss := ⟨Vector.replicate 16 Ptr.reset, Vector.replicate 8 ⟨0, false, 0, false⟩, 0⟩
  seq := Core.reset
  cmd := { Core.reset with run := true }
  tick := Tick.reset
  pump := Vector.replicate 16 ⟨.idle, none, 0, 0, 0, 0, 0, none, [], false, [], none, none⟩
  cist := Cist.reset
  edge := Edge.reset
  jesd := Jesd.reset
  valve := Valve.reset
  ring := Ring.reset
  host := HostIf.reset
  twin := Twin.reset
  pwr := Pwr.reset
  wh := Wh.reset
  dbg := Dbg.reset

end Sys2Proof.Machine
end

