-- ==== Sys2Proof/Machine/Ops.lean ====
section
/-! DEFINITION. The named operations over registers, memory, time, interrupts, errors and modes that every meaning
shares. -/
namespace Sys2Proof.Machine

/-! ### Sparse maps in canonical form: keys strictly rising, no entry equal to its default -/

/-- What key k holds. -/
def sget {α : Type} (d : Nat → α) : List (Nat × α) → Nat → α
  | [], k => d k
  | (j, v) :: m, k => if j = k then v else sget d m k

/-- Insert an entry before the first greater key. -/
def sput {α : Type} (k : Nat) (v : α) : List (Nat × α) → List (Nat × α)
  | [] => [(k, v)]
  | (j, w) :: m => if k < j then (k, v) :: (j, w) :: m else (j, w) :: sput k v m

/-- Write key k; a default value leaves no entry. -/
def sset {α : Type} [DecidableEq α] (d : Nat → α) (m : List (Nat × α)) (k : Nat) (v : α) : List (Nat × α) :=
  let m := m.filter (fun e => e.1 != k)
  if v = d k then m else sput k v m

/-- Every key is at least lo, keys rise strictly, no entry holds its default. -/
def swfFrom {α : Type} [DecidableEq α] (d : Nat → α) : Nat → List (Nat × α) → Bool
  | _, [] => true
  | lo, (j, v) :: m => decide (lo ≤ j) && decide (v ≠ d j) && swfFrom d (j + 1) m

/-- The canonical form. -/
def swf {α : Type} [DecidableEq α] (d : Nat → α) (m : List (Nat × α)) : Bool := swfFrom d 0 m

/-! ### Bit fields -/

/-- x with bits [hi:lo] replaced by v. -/
def setBits (x : Word) (hi lo v : Nat) : Word :=
  let m : Nat := 2 ^ (hi + 1) - 2 ^ lo
  (x &&& ~~~(BitVec.ofNat 32 m)) ||| (BitVec.ofNat 32 ((v <<< lo) % 2 ^ (hi + 1)) &&& BitVec.ofNat 32 m)

/-- Bit i of a word. -/
def bit (x : Word) (i : Nat) : Bool := x.getLsbD i

/-- A Bool as a number. -/
def b2n (b : Bool) : Nat := if b then 1 else 0

/-- The low and the high half of a 64-bit value. -/
def loHalf (x : Dbl) : Word := x.setWidth 32
/-- The high half of a 64-bit value. -/
def hiHalf (x : Dbl) : Word := (x >>> 32).setWidth 32
/-- A doubleword from two halves. -/
def ofHalves (hi lo : Word) : Dbl := (hi.setWidth 64 <<< 32) ||| lo.setWidth 64

/-! ### Stored registers (00 R8, R9; 15 R407) -/

/-- The stored word at address a. -/
def State.reg (s : State) (a : Nat) : Word := sget regDefault s.regs a

/-- Store a word at address a. -/
def State.setReg (s : State) (a : Nat) (v : Word) : State :=
  { s with regs := sset regDefault s.regs a v }

/-- Field [hi:lo] of the stored word at a. -/
def State.fld (s : State) (a hi lo : Nat) : Nat := bits (s.reg a).toNat hi lo

/-- Store v in field [hi:lo] at a. -/
def State.setFld (s : State) (a hi lo v : Nat) : State := s.setReg a (setBits (s.reg a) hi lo v)

/-- Set bit i of the stored word at a. -/
def State.setBit (s : State) (a i : Nat) : State := s.setFld a i i 1

/-- n events of an event counter in field [hi:lo] at a: it saturates at all ones and sets bit ob of oa (15 R407). -/
def State.countEv (s : State) (a hi lo oa ob n : Nat) : State :=
  if n = 0 then s else
    let top := 2 ^ (hi + 1 - lo) - 1
    let c := min (s.fld a hi lo + n) top
    let s := s.setFld a hi lo c
    if c = top then s.setBit oa ob else s

/-- n events of a 64-bit event counter: the new count and whether it reached all ones (15 R407). -/
def sat64 (c n : Nat) : Nat × Bool :=
  let c' := min (c + n) (2 ^ 64 - 1)
  (c', n ≠ 0 && c' == 2 ^ 64 - 1)

/-- n events of a whole-word counter. -/
def State.countWord (s : State) (a oa ob n : Nat) : State := s.countEv a 31 0 oa ob n

/-! ### Memory (01 R29) -/

/-- What a byte that nothing has written reads as: 0 (06 R175 clears the cisterns; log 3 for the rest). -/
def memDefault (_ : Nat) : Byte := 0

/-- The byte at an address. -/
def State.byte (s : State) (a : Nat) : Byte := sget memDefault s.mem a

/-- Store one byte. -/
def State.setByte (s : State) (a : Nat) (v : Byte) : State :=
  { s with mem := sset memDefault s.mem a v }

/-- The little-endian value of n bytes at a. -/
def State.memNat (s : State) (a : Nat) : Nat → Nat
  | 0 => 0
  | n + 1 => (s.byte a).toNat + 256 * State.memNat s (a + 1) n

/-- Store n bytes of v, little-endian, at a. -/
def State.setMemNat (s : State) (a : Nat) : Nat → Nat → State
  | 0, _ => s
  | n + 1, v => (s.setByte a (BitVec.ofNat 8 v)).setMemNat (a + 1) n (v / 256)

/-- Store a list of bytes from a upwards. -/
def State.setBytes (s : State) (a : Nat) : List Byte → State
  | [] => s
  | b :: l => (s.setByte a b).setBytes (a + 1) l

/-- n bytes from a upwards. -/
def State.bytes (s : State) (a n : Nat) : List Byte := (List.range n).map (fun i => s.byte (a + i))

/-- Drop every listed byte of [lo, hi): the range reads 0 again. -/
def State.clearMem (s : State) (lo hi : Nat) : State :=
  { s with mem := s.mem.filter (fun c => decide (c.1 < lo ∨ hi ≤ c.1)) }

/-- Free values: n further ones used (log 2). -/
def State.useFree (s : State) (n : Nat) : State := { s with free := s.free + n }

/-! ### Cores, interrupts -/

/-- One of the two cores. -/
def State.core (s : State) : CoreId → Core
  | .seq => s.seq
  | .cmd => s.cmd

/-- Replace one of the two cores. -/
def State.setCore (s : State) : CoreId → Core → State
  | .seq, k => { s with seq := k }
  | .cmd, k => { s with cmd := k }

/-- Set interrupt line n of a core (09 R276). -/
def State.irq (s : State) (c : CoreId) (n : Nat) : State :=
  s.setCore c { s.core c with irqPend := (s.core c).irqPend ||| BitVec.ofNat 32 (2 ^ n) }

/-! ### Errors (15) -/

/-- A closing condition of the valve has arisen: while it is open it closes at most 3 DEVCLK cycles and 8 ns later (08
R235). The present DEVCLK cycle is the last one named (log 13). -/
def State.closing (s : State) : State :=
  if s.valve.open_ && s.valve.closeBy.isNone then
    { s with valve := { s.valve with closeBy := some (s.dcyc + 4 + 8 * s.wh.khz / 1000000) } }
  else s

/-- Has a fatal error been recorded since reset? -/
def State.fatalSeen (s : State) : Bool := s.fld Reg.errorFatal 5 0 != 0

/-- Raise a fatal error: the first is recorded with TICK_COUNT, a later one sets MORE (15 R403 to R405); FAULT is sent
where the twin link is up, and TX_OWN and the heartbeat, which follow fatalSeen, drop (13 R351). -/
def State.fatal (s : State) (code : Nat) (core : Bool := false) : State :=
  if s.fatalSeen then s.setBit Reg.errorFatal 7
  else
    let s := (s.setFld Reg.errorFatal 6 0 (code + 64 * b2n core)).closing
    let s := if s.twin.link then { s with twin := { s.twin with sent := s.twin.sent ++ [.fault] } } else s
    (s.setReg Reg.errorFatalTickLo (loHalf s.tick.count)).setReg Reg.errorFatalTickHi (hiHalf s.tick.count)

/-- Raise a contained error: counted, logged when the log is free, lines raised (15 R403, R405). -/
def State.contained (s : State) (code : Nat) : State :=
  let s := s.countWord Reg.errorContCnt Reg.errorContLog 7 1
  let s := if bit (s.reg Reg.errorContLog) 6 then s
    else (s.setFld Reg.errorContLog 6 0 (code + 64)).setFld Reg.errorContLog 31 8 (s.tick.count.toNat % 2 ^ 24)
  (s.irq .cmd 1).irq .seq 4

/-- A fatal error of the array or the microsequencer in array cycle cyc: of several in one array cycle the lowest code is
recorded, and MORE is set (15 R405). -/
def State.fatalIn (s : State) (code cyc : Nat) : State :=
  if !s.fatalSeen then { s.fatal code with mseq := { s.mseq with fatalCyc := some cyc } }
  else if s.mseq.fatalCyc = some cyc ∧ code < s.fld Reg.errorFatal 5 0 then (s.fatal code).setFld Reg.errorFatal 5 0 code
  else s.fatal code

/-- A contained error of the microsequencer in array cycle cyc: of several in one cycle the lowest code is logged
(15 R405). -/
def State.containedIn (s : State) (code cyc : Nat) : State :=
  if !bit (s.reg Reg.errorContLog) 6 then { s.contained code with mseq := { s.mseq with contCyc := some cyc } }
  else if s.mseq.contCyc = some cyc ∧ code < s.fld Reg.errorContLog 5 0 then (s.contained code).setFld Reg.errorContLog 5 0 code
  else s.contained code

/-- A corrected error: its source's bit of ERROR_CORR_SUM (15 R403). -/
def State.corrected (s : State) (source : Nat) : State := s.setBit Reg.errorCorrSum source

/-! ### Modes (14 R379) -/

/-- The transitions of 14 R379; no other exists. A halted device goes back to Ready, or to Solo. -/
def legalMode : Mode → Mode → Bool
  | _, .off => true
  | .off, .reset => true
  | .off, _ => false
  | _, .reset => true
  | .reset, .bare => true
  | .reset, _ => false
  | _, .faultHold => true
  | .bare, .priming => true
  | .priming, .ready => true
  | .priming, .bare => true
  | .ready, .solo => true
  | .ready, .active => true
  | .ready, .shadow => true
  | .ready, .selfTest => true
  | .selfTest, .ready => true
  | .ready, .quiescent => true
  | .quiescent, .ready => true
  | .solo, .ready => true
  | .shadow, .ready => true
  | .active, .ready => true
  | .shadow, .active => true
  | .ready, .halted => true
  | .solo, .halted => true
  | .active, .halted => true
  | .shadow, .halted => true
  | .halted, .ready => true
  | .halted, .solo => true
  | _, _ => false

/-- Enter mode m where 14 R379 has the transition; otherwise the mode stays. Leaving Ready or Self-test cancels the
pending injections (02 R86), and in a mode other than Solo and Active the valve closes (08 R234). -/
def State.goMode (s : State) (m : Mode) : State :=
  if legalMode s.mode m then
    { (if m = .solo ∨ m = .active then s else s.closing) with
      mode := m
      arr := if s.mode = .ready ∨ s.mode = .selfTest then { s.arr with inj := [] } else s.arr }
  else s

/-- Modes in which a workload runs (14 R378). -/
def State.running (s : State) : Bool := s.mode == .solo || s.mode == .active || s.mode == .shadow

/-- Has the device left Off and Reset? -/
def State.alive (s : State) : Bool := s.mode != .off && s.mode != .reset

/-- The mode code of HOSTIF_STAT.MODE (14 R378); Off reports nothing and is coded 0. -/
def Mode.code : Mode → Nat
  | .off => 0 | .reset => 0 | .bare => 1 | .priming => 2 | .ready => 3 | .solo => 4 | .active => 5
  | .shadow => 6 | .selfTest => 7 | .quiescent => 8 | .halted => 9 | .faultHold => 10

/-! ### Time (log 13) -/

/-- An array-side event has happened by cycle c: an idle array's clock moves there; while a routine runs, its
microwords move the clock. -/
def State.reach (s : State) (c : Nat) : State :=
  if s.mseq.run.isSome then s else { s with acyc := max s.acyc c }

/-- A DEVCLK edge numbered d has come. -/
def State.atD (s : State) (d : Nat) : State := { s with dcyc := max s.dcyc d }

/-! ### Outcomes -/

/-- The common answer of a meaning: the next state (log 5: an inapplicable command changes nothing). -/
abbrev Out := Host.Outcome State Fault Refusal

/-- Answer t, where t follows s: the mode changes only as 14 R379 allows, whatever the effect did, and the queue of
waiting commands is not the effect's (log 1). -/
def done (s t : State) : Out :=
  .next { t with
    pending := s.pending
    mode := if legalMode s.mode t.mode then t.mode else s.mode }

/-- Answer f s where p holds; otherwise the command's trigger is absent and nothing changes (log 5). -/
def when (p : Bool) (s : State) (f : State → State) : Out := done s (if p then f s else s)

/-- Replace entry i of a vector. -/
def vset {α : Type} {n : Nat} (v : Vector α n) (i : Fin n) (x : α) : Vector α n := v.set i.val x i.isLt

/-- Remove the first element that satisfies p. -/
def removeFirst {α : Type} (p : α → Bool) : List α → List α
  | [] => []
  | x :: l => if p x then l else x :: removeFirst p l

/-- The element with the smallest key among those of a list (the first on a tie). -/
def argMin {α : Type} (key : α → Nat) : List α → Option α
  | [] => none
  | x :: l => match argMin key l with
    | none => some x
    | some y => if key y < key x then some y else some x

end Sys2Proof.Machine
end

