-- ==== Sys2Proof/Machine/Access.lean ====
section
/-! DEFINITION. The address map and the judgement of a request before it reaches its station: unmapped, size, access
filter, isolation, dryness, bank state (01 R29 to R34; 11 R304, R315 to R320). -/
namespace Sys2Proof.Machine

/-- The regions of the address map (01 R29). -/
inductive Region where
  | rom | cistern (bank : Nat) | secure | block (n : Nat) | tile (t : Nat) | store | bulk (stack : Nat)
  deriving DecidableEq, Repr

/-- The region that holds an address (01 R29). -/
def regionOf (a : Nat) : Option Region :=
  if a < 0x20000 then some .rom
  else if 0x10000000 ≤ a ∧ a < 0x12000000 then some (.cistern ((a - 0x10000000) / 0x80000))
  else if 0x1F000000 ≤ a ∧ a < 0x1F020000 then some .secure
  else if 0x20000000 ≤ a ∧ a < 0x20140000 then some (.block ((a - 0x20000000) / 0x10000))
  else if 0x21000000 ≤ a ∧ a < 0x21004000 then some (.tile ((a - 0x21000000) / 16))
  else if 0x30000000 ≤ a ∧ a < 0x30040000 then some .store
  else if 0x1000000000 ≤ a ∧ a < 0x1400000000 then some (.bulk 0)
  else if 0x1400000000 ≤ a ∧ a < 0x1800000000 then some (.bulk 1)
  else none

/-- Station of cistern group g (11 R304). -/
def groupStation (g : Nat) : Nat :=
  if g < 4 then 1 + g else if g < 8 then 5 + g else if g < 12 then 9 + g else 13 + g

/-- The station that serves a region (11 R304). -/
def Region.station : Region → Nat
  | .rom => 8
  | .cistern n => groupStation (n / 4)
  | .secure => 24
  | .block n =>
    if n < 3 then 24 else if n < 8 then 13 else if n < 13 then 14 else if n < 16 then 29 else 30
  | .tile _ => 13
  | .store => 13
  | .bulk 0 => 7
  | .bulk _ => 23

/-- The field that holds a tile (00 R12). -/
def fieldOfTile (t : Nat) : Nat := 4 * (t / 32 / 8) + t % 32 / 8

/-- Is a core the source (stations 0 and 8)? -/
def reqCore (q : Requester) : Bool := q.src == 0 || q.src == 8

/-- Is it a core in supervisor mode? -/
def reqSup (q : Requester) : Bool := reqCore q && q.priv

/-- The requester's WINB bit, honoured only from station 15 (11 R317). -/
def reqViaB (q : Requester) : Bool := q.src == 15 && q.winb

/-- The life-cycle state Deployed (12 R344). -/
def State.deployed (s : State) : Bool := s.wh.flash.lc == 1

/-- May q write a register of this class (11 R316)? -/
def Writer.admits (w : Writer) (q : Requester) (s : State) : Bool :=
  match w with
  | .sup => reqSup q
  | .cmdSup => reqSup q && q.src == 8
  | .seqSup => reqSup q && q.src == 0
  | .anyCore => reqCore q
  | .winB => reqViaB q
  | .supOrWinA => reqSup q || (q.src == 15 && !q.winb)
  | .supOrWinB => reqSup q || reqViaB q
  | .table => reqSup q && q.src == 8 && (s.mode == .priming || s.mode == .ready) && !s.mseq.dispEn
  | .debug => false

/-- Which DBG registers q may reach (16 R420). -/
def dbgAdmits (s : State) (q : Requester) (write : Bool) (a : Nat) : Bool :=
  q.src == 24 || (reqSup q && q.src == 8 && (s.wh.flash.lc == 0 || s.wh.flash.lc == 2)) ||
  (q.src == 0 && ((write && a == Reg.dbgTxd) || (!write && a == Reg.dbgRxd))) ||
  (q.src == 8 && ((write && a == Reg.dbgTxd + 0x1000) || (!write && a == Reg.dbgRxd + 0x1000)))

/-- The register blocks and ranges the host windows expose (12 R327, R328). -/
def hostAdmits (q : Requester) (a : Nat) : Bool :=
  if q.winb then (0x200F8000 ≤ a && a < 0x200F8100) || (0x200D0000 ≤ a && a < 0x200D0400) ||
    (0x20000000 ≤ a && a < 0x20001000)
  else 0x200F0000 ≤ a && a < 0x200F1000

/-- Is it the page of window B that exposes the WELLHEAD block, whose writes are refused (12 R328)? -/
def wellheadPage (q : Requester) (a : Nat) : Bool := reqViaB q && decide (0x20000000 ≤ a) && decide (a < 0x20001000)

/-- May q make this access at all (01 R34; 11 R316, R317; 12 R328; 16 R422)? The twin link makes the forwarded writes of
13 R359 (11 R323). -/
def admits (s : State) (q : Requester) (write : Bool) (a : Nat) : Region → Bool
  | .rom => q.src == 8 && !write
  | .cistern _ => reqCore q || (q.src == 15 && !q.winb && !(write && (s.mode == .active || s.mode == .shadow))) ||
      [5, 6, 21, 22].contains q.src || (q.src == 31 && !write) || (q.src == 16 && write)
  | .secure => q.src == 8 && q.priv && !(q.dbg && s.deployed) && !s.cist.verifyFail
  | .block 18 => dbgAdmits s q write a
  | .block _ =>
    (reqCore q || (q.src == 15 && hostAdmits q a)) &&
    (!write || (!wellheadPage q a && match regRow a with
      | some r => r.who.admits q s
      | none => true))
  | .tile _ => reqCore q && (!write || reqSup q)
  | .store => q.src == 8 && (s.mode == .priming || s.mode == .ready) &&
      (!write || (q.priv && !s.mseq.dispEn))
  | .bulk _ => reqCore q || (q.src == 31 && !write) || (q.src == 16 && write)

/-- The size rule of a region (01 R32; 03 R101); every access stays within a 64-byte granule (11 R306). -/
def sizeOk (a len : Nat) : Region → Bool
  | .block _ => a % 4 == 0 && len == 4
  | .tile _ => a % 4 == 0 && len == 4
  | .store => (len == 4 || len == 8) && a % len == 0
  | _ => 0 < len && len ≤ 64 && a % 64 + len ≤ 64

/-- Is cistern bank n on and not changing (06 R174)? -/
def State.bankOn (s : State) (n : Nat) : Bool :=
  (s.cist.st[n]?.getD .off) == .on && !(s.cist.chg.any (·.1 == n))

/-- Are the tile registers of field f draining: its domain is being switched off, and power is not gone yet (11 R320)? -/
def State.tileDrain (s : State) (f : Nat) : Bool := s.pwr.chg.any (fun p => p.1 == f && p.2 != .on)

/-- The response code a request gets before any data error: 0 OK, 1 unmapped, 2 denied, 3 size, 4 isolated, 5 dry,
7 bank not on (11 R307, R315). -/
def accessCode (s : State) (q : Requester) (write : Bool) (a len : Nat) : Nat :=
  match regionOf a with
  | none => 1
  | some r =>
    if !sizeOk a len r then 3
    else if !admits s q write a r then 2
    else if s.ring.iso.getLsbD r.station then 4
    else if s.ring.drain.getLsbD r.station || s.ring.dry.getLsbD r.station then 5
    else match r with
      | .cistern n => if s.bankOn n then 0 else 7
      | .secure => if s.cist.wiping then 7 else 0
      | .bulk k => if s.cist.rdy.getLsbD k && !s.cist.selfRefresh then 0 else 5
      | .tile t => if s.tileDrain (fieldOfTile t) then 5 else 0
      | _ => 0

/-- The station logged as the target of a refused request (11 R323). -/
def errDst (q : Requester) (a : Nat) : Nat :=
  match regionOf a with
  | some r => r.station
  | none => q.src

/-- Log a response other than OK (11 R323), and for the host interface its own log (12 R329). -/
def logResponse (s : State) (q : Requester) (a : Nat) (tag code : Nat) : State :=
  if code = 0 then s else
  let s := s.countWord Reg.ringErrcnt Reg.ringStat 4 1
  if bit (s.reg Reg.ringErrlog) 22 then s
  else
    let v := code + q.src * 16 + errDst q a * 512 + tag * 16384 + 2 ^ 22
    ((s.setReg Reg.ringErrlog (BitVec.ofNat 32 v)).setReg Reg.ringErraddrLo (BitVec.ofNat 32 a)).setReg
      Reg.ringErraddrHi (BitVec.ofNat 32 (a / 2 ^ 32 % 2 ^ 16))

/-- The same for a request whose command carries no tag: TAG is the requester's own, a free value (11 R323; log 2). -/
def logUntagged (s : State) (q : Requester) (a code : Nat) : State :=
  if code = 0 then s else logResponse (s.useFree 1) q a (Config.freeNat s.free % 256) code

/-- The offset inside the host window that an address answers (12 R327, R328). -/
def hostOffset (q : Requester) (a : Nat) : Nat :=
  if q.winb then
    if a < 0x20001000 then a - 0x20000000 + 0x2000 else if a < 0x200E0000 then a - 0x200D0000 + 0x1000 else a - 0x200F8000
  else if a < 0x12000000 then a - 0x10000000 else a - 0x200F0000 + 0x2000000

/-- The host interface's record of a refused access (12 R329). -/
def logHost (s : State) (winb write : Bool) (off code : Nat) : State :=
  let s := s.countWord Reg.hostifErrcnt Reg.hostifErrlog 7 1
  if bit (s.reg Reg.hostifErrlog) 6 then s
  else (s.setFld Reg.hostifErrlog 6 0 (code + 16 * b2n winb + 32 * b2n write + 64)).setReg Reg.hostifErroff
    (BitVec.ofNat 32 off)

/-- A refused request: logged; the host interface logs its own (11 R323, 12 R329). -/
def refuse (s : State) (q : Requester) (write : Bool) (a code : Nat) : State :=
  let s := logUntagged s q a code
  if q.src = 15 then logHost s q.winb write (hostOffset q a) code else s

/-- A register write from q, as one command: where the request is admitted, effect f; otherwise the refusal is logged
and nothing changes. Nothing happens while the control die is off. -/
def regWrite (q : Requester) (a : Nat) (s : State) (f : State → State) : State :=
  if !s.alive then s else
  let code := accessCode s q true a 4
  if code = 0 then f s else refuse s q true a code

end Sys2Proof.Machine
end

