-- ==== Sys2Proof/Machine/CoreBase.lean ====
section
/-! DEFINITION. What every instruction of a core shares: registers, privilege, windows, when it may run, taking an
exception, returning from one, retiring (09 R246 to R264; 16 R423 to R431). -/
namespace Sys2Proof.Machine

/-- A register block's base (SEQCORE or CMDCORE), and a core's DBG registers. -/
def coreBase : CoreId → Nat
  | .seq => 0
  | .cmd => 0x10000

/-- The address of core c's copy of a DBG register given at core 0's address (16 R437). -/
def dbgOf (c : CoreId) (a : Nat) : Nat := match c with
  | .seq => a
  | .cmd => a + 0x1000

/-- The ring station of a core (11 R304). -/
def coreStation : CoreId → Nat
  | .seq => 0
  | .cmd => 8

/-- The other core. -/
def otherCore : CoreId → CoreId
  | .seq => .cmd
  | .cmd => .seq

/-! ### Registers (09 R246 to R249) -/

/-- PSTAT bit i: 0 V, 1 C, 2 Z, 3 N, 4 S, 5 IE. -/
def Core.ps (k : Core) (i : Nat) : Bool := k.pstat.getLsbD i

/-- Supervisor mode (09 R247). -/
def Core.sup (k : Core) : Bool := k.ps 4

/-- Set PSTAT bit i. -/
def Core.setPs (k : Core) (i : Nat) (b : Bool) : Core :=
  { k with pstat := if b then k.pstat ||| (1#16 <<< i) else k.pstat &&& ~~~(1#16 <<< i) }

/-- General register i: g0 reads 0, g31 is banked by S (09 R246, R248). -/
def Core.gr (k : Core) (i : Fin 32) : Dbl := if i = 0 then 0 else if i = 31 ∧ k.sup then k.ssp else k.g[i]

/-- Write general register i: g0 ignores writes (09 R246, R248). -/
def Core.gw (k : Core) (i : Fin 32) (v : Dbl) : Core :=
  if i = 0 then k else if i = 31 ∧ k.sup then { k with ssp := v } else { k with g := vset k.g i v }

/-- Write general register i of core c. -/
def State.gw (s : State) (c : CoreId) (i : Fin 32) (v : Dbl) : State := s.setCore c ((s.core c).gw i v)

/-- The requester that core c is, at its present privilege (11 R306). -/
def State.coreReq (s : State) (c : CoreId) : Requester := ⟨coreStation c, (s.core c).sup, false, false, false⟩

/-- The same core in supervisor mode. -/
def supReq (c : CoreId) : Requester := ⟨coreStation c, true, false, false, false⟩

/-! ### Memory as the cores reach it -/

/-- The first response code other than OK that the granules of [a, a + len) give (11 R306, R315). -/
def reachCode (s : State) (q : Requester) (write : Bool) (a len : Nat) : Nat :=
  if a % 64 + len ≤ 64 then accessCode s q write a len
  else
    let n := 64 - a % 64
    let c := accessCode s q write a n
    if c ≠ 0 then c else accessCode s q write (a + n) (len - n)

/-- A write by a requester clears the other cores' reservations of the granule (09 R266). -/
def State.breakRsv (s : State) (src granule : Nat) : State :=
  let clear (c : CoreId) (s : State) : State :=
    let k := s.core c
    if coreStation c ≠ src ∧ k.rsv = some granule then s.setCore c { k with rsv := none } else s
  clear .cmd (clear .seq s)

/-- Store n bytes of v at a on behalf of station src. -/
def State.memStore (s : State) (src a n v : Nat) : State :=
  (((s.breakRsv src (a / 64)).breakRsv src ((a + n - 1) / 64))).setMemNat a n v

/-- Store a list of bytes on behalf of station src. -/
def State.memPut (s : State) (src a : Nat) (l : List Byte) : State :=
  let gs := (List.range ((a % 64 + l.length + 63) / 64)).map (a / 64 + ·)
  (gs.foldl (fun s g => s.breakRsv src g) s).setBytes a l

/-- The pieces of [a, a + n) within single granules: start and length (11 R306). -/
def granules (a n : Nat) : List (Nat × Nat) :=
  if n = 0 then [] else
  (List.range ((a % 64 + n + 63) / 64)).map (fun i =>
    let lo := max a (a / 64 * 64 + 64 * i)
    (lo, min (a + n) (a / 64 * 64 + 64 * i + 64) - lo))

/-- The first piece of [a, a + n) whose request is answered with a code other than OK, and that code. -/
def rangeFail (s : State) (q : Requester) (write : Bool) (a n : Nat) : Option (Nat × Nat) :=
  ((granules a n).map (fun p => (p.1, accessCode s q write p.1 p.2))).find? (fun p => p.2 != 0)

/-- Store a list of bytes granule by granule; the granules before a refused one are stored, the refusal is logged, and
its code is answered (11 R307, R323). -/
def State.putRange (s : State) (q : Requester) (a : Nat) (l : List Byte) : State × Nat :=
  match rangeFail s q true a l.length with
  | none => (s.memPut q.src a l, 0)
  | some (g, code) => (logUntagged (s.memPut q.src a (l.take (g - a))) q g code, code)

/-- Does [a, a + len) lie in cisterns or bulk memory (01 R29)? -/
def inMem (a len : Nat) : Bool :=
  let ok (x : Nat) : Bool := match regionOf x with
    | some (.cistern _) => true
    | some (.bulk _) => true
    | _ => false
  ok a && ok (a + len - 1)

/-! ### When a core runs -/

/-- Is core c stopped by the mode or by a fatal error of its own (14 R378, R382)? -/
def State.coreDown (s : State) (c : CoreId) : Bool :=
  !s.alive || s.mode == .quiescent || s.fld (Reg.seqcoreFatal + coreBase c) 2 0 != 0 ||
    (c == .seq && s.mode == .faultHold)

/-- Core c may retire its next instruction: out of reset, not halted, no halt due, not in WFI, not blocked. -/
def State.coreFree (s : State) (c : CoreId) : Bool :=
  let k := s.core c
  !s.coreDown c && k.run && !k.halted && !k.wfi && k.wait.isNone && k.haltReq == 0

/-- The lines that may interrupt (09 R276). -/
def State.irqLines (s : State) (c : CoreId) : Word := (s.core c).irqPend &&& s.reg (Reg.seqcoreIrqEn + coreBase c)

/-- Is an interrupt to be recognised at core c's next retirement boundary (09 R261)? During a step only while STEP_IE
is 1 (16 R426). -/
def State.intDue (s : State) (c : CoreId) : Bool :=
  let k := s.core c
  (k.nmi16 || k.nmi17.isSome || (k.ps 5 && s.irqLines c != 0)) &&
    !(k.stepping && !bit (s.reg (dbgOf c Reg.dbgCtl)) 3)

/-! ### Exceptions (09 R260 to R263) -/

/-- A core's fatal error: 1 register-file parity, 2 L1, 3 frame fault, 4 watchdog (09; 15 codes 8 to 11). -/
def State.coreFatal (s : State) (c : CoreId) (cause : Nat) : State :=
  let a := Reg.seqcoreFatal + coreBase c
  let s := if s.fld a 2 0 = 0 then s.setFld a 2 0 cause else s
  s.fatal (7 + cause) (c == .cmd)

/-- The doublewords of the frame (09 R262). -/
def Core.frame (k : Core) (cause faddr : Nat) : List Dbl :=
  [k.g[1], k.g[2], k.g[3], k.g[4], k.g[5], k.g[6],
   BitVec.ofNat 64 (k.pc.toNat + 2 ^ 48 * k.pstat.toNat),
   BitVec.ofNat 64 (faddr % 2 ^ 48 + 2 ^ 48 * cause + 2 ^ 56 * k.ctxid.toNat)]

/-- May the 64-byte frame at fa be written or read: a multiple of 16, in cisterns or bulk memory, every response OK
(09 R262)? -/
def frameOk (s : State) (c : CoreId) (write : Bool) (fa : Nat) : Bool :=
  fa % 16 == 0 && inMem fa 64 && reachCode s (supReq c) write fa 64 == 0

/-- Log the refusal of a frame access (11 R323). -/
def frameLog (s : State) (c : CoreId) (write : Bool) (fa : Nat) : State :=
  logUntagged s (supReq c) fa (reachCode s (supReq c) write fa 64)

/-- Take an exception or interrupt of this cause: the frame goes on the supervisor stack, S := 1, IE := 0, and the core
enters VBASE + 8·cause; SYND changes only when one is given (09 R260 to R263). A frame that cannot be written is fatal.
During a step the core halts before the handler's first instruction (16 R426). -/
def State.exc (s : State) (c : CoreId) (cause faddr : Nat) (synd : Option Nat) : State :=
  let k := s.core c
  let fa := (k.ssp - 64).toNat
  if frameOk s c true fa then
    let fr := k.frame cause faddr
    let s := (List.range 8).foldl (fun s i => s.memStore (coreStation c) (fa + 8 * i) 8 (fr.getD i 0).toNat) s
    s.setCore c { s.core c with
      ssp := BitVec.ofNat 64 fa
      pstat := (k.pstat ||| 0x10#16) &&& ~~~(0x20#16)
      pc := BitVec.ofNat 48 (k.vbase.toNat + 8 * cause)
      synd := match synd with
        | some v => BitVec.ofNat 64 v
        | none => k.synd
      rsv := none
      rpt := false
      wait := none
      haltReq := if k.stepping then 5 else k.haltReq }
  else (frameLog s c true fa).coreFatal c 3

/-- Return from exception: g1 to g6, pc and PSTAT from the frame at the supervisor g31, which rises by 64 (09 R262). -/
def State.rfe (s : State) (c : CoreId) : State :=
  let k := s.core c
  let fa := k.ssp.toNat
  if frameOk s c false fa then
    let w (i : Nat) : Nat := s.memNat (fa + 8 * i) 8
    let g := (List.finRange 6).foldl (fun (g : Vector Dbl 32) i =>
      vset g ⟨i.val + 1, by omega⟩ (BitVec.ofNat 64 (w i.val))) k.g
    s.setCore c { k with
      g := g
      pc := BitVec.ofNat 48 (w 6)
      pstat := BitVec.ofNat 16 (bits (w 6) 53 48)
      ssp := BitVec.ofNat 64 (fa + 64) }
  else (frameLog s c false fa).coreFatal c 3

/-! ### Task windows (09 R250) -/

/-- Does window n of core k grant access kind i (0 R, 1 W, 2 X) to every page of [a, a + len)? -/
def Core.window (k : Core) (i a len : Nat) (n : Fin 8) : Bool :=
  let b := k.twb[n]
  let l := k.twl[n]
  b.getLsbD i && decide (bits b.toNat 47 12 ≤ a / 4096) && decide ((a + len - 1) / 4096 ≤ bits l.toNat 47 12)

/-- Does the access pass the task windows: supervisor accesses ignore them? -/
def Core.windowOk (k : Core) (i a len : Nat) : Bool := k.sup || (List.finRange 8).any (k.window i a len)

/-! ### Fetch (09 R250, R260, R265) -/

/-- May core c fetch from this region? -/
def fetchable (c : CoreId) : Option Region → Bool
  | some (.cistern _) => true
  | some (.bulk _) => true
  | some .rom => c == .cmd
  | _ => false

/-- The address of the instruction at the head: under RPT the one after the prefix (09 R259). -/
def Core.ipc (k : Core) : Nat := if k.rpt then (k.pc + 4).toNat else k.pc.toNat

/-- The SYND of a fetch that faults, if it does: window miss, wrong region (no response), or error response. -/
def State.fetchFault (s : State) (c : CoreId) : Option Nat :=
  let k := s.core c
  let a := k.ipc
  if !k.windowOk 2 a 4 then some (0x2000 + 0x4000)
  else if !fetchable c (regionOf a) then some 0x2000
  else
    let code := reachCode s (s.coreReq c) false a 4
    if code = 0 then none else some (0x2000 + 256 * code)

/-! ### Instruction breaks (16 R431) -/

/-- A range's PRIV and CTXID conditions: priv 0 any, 1 task, 2 supervisor, 3 any. -/
def Core.privCtx (k : Core) (priv : Nat) (ctxen : Bool) (ctx : Nat) : Bool :=
  (priv == 0 || priv == 3 || (priv == 1 && !k.sup) || (priv == 2 && k.sup)) && (!ctxen || k.ctxid.toNat == ctx)

/-- A 48-bit address register pair of the debugger. -/
def State.addr48 (s : State) (a : Nat) : Nat := (s.reg a).toNat + 2 ^ 32 * bits (s.reg (a + 4)).toNat 15 0

/-- Does the address lie in instruction range i, enabled or not? -/
def State.inIRange (s : State) (c : CoreId) (i a : Nat) : Bool :=
  let b := dbgOf c Reg.dbgIbsLoC0 + 32 * i
  decide (s.addr48 b ≤ a) && decide (a ≤ s.addr48 (b + 8))

/-- The instruction ranges of core c that match at address a. -/
def State.iMatches (s : State) (c : CoreId) (a : Nat) : List Nat :=
  (List.range 8).filter (fun i =>
    let w := s.reg (dbgOf c Reg.dbgIbsLoC0 + 32 * i + 16)
    bit w 0 && s.inIRange c i a && (s.core c).privCtx (bits w.toNat 2 1) (bit w 3) (bits w.toNat 11 4))

/-- Does instruction range i raise cause 9 (ACT 1)? -/
def State.iAct (s : State) (c : CoreId) (i : Nat) : Bool := bit (s.reg (dbgOf c Reg.dbgIbsLoC0 + 32 * i + 16)) 12

/-- Bits of DBG_STAT.HIT for these resources (0 to 7 instruction, 8 to 11 data). -/
def hitBits (l : List Nat) : BitVec 12 := l.foldl (fun h i => h ||| (1#12 <<< i)) 0

/-! ### Running one instruction -/

/-- What an instruction does: goes on to the next one, jumps, raises an exception of its own (precise: the state is as
before it but for logs), or retires and then raises cause 9 (16 R432), or stays as it is (it waits). -/
inductive Act where
  | next (s : State)
  | jump (s : State) (target : BitVec 48)
  | fault (s : State) (cause faddr : Nat) (synd : Option Nat)
  | after (s : State)
  | stay (s : State)

/-- An instruction retires and the core goes on after it; one repetition of a repeated one counts lc down and ends the
repetition at 0 (09 R259). A step ends (16 R426). -/
def Core.retire (k : Core) : Core :=
  let k := { k with ret := k.ret + 1, haltReq := if k.stepping && k.haltReq == 0 then 5 else k.haltReq }
  if k.rpt then
    let lc := k.lc - 1
    if lc = 0 then { k with lc := lc, rpt := false, pc := k.pc + 8 } else { k with lc := lc }
  else { k with pc := k.pc + 4 }

/-- The same for core c. -/
def State.retire (s : State) (c : CoreId) : State := s.setCore c (s.core c).retire

/-- Carry an instruction's outcome through. -/
def Act.finish (c : CoreId) : Act → State
  | .next s => s.retire c
  | .jump s t => let s := s.retire c
                 s.setCore c { s.core c with pc := t }
  | .fault s cause faddr synd => s.exc c cause faddr synd
  | .after s => let s := s.retire c
                s.exc c 9 (s.core c).pc.toNat (some 0)
  | .stay s => s

/-- The instruction at the head has caused an instruction-range halt: it executes once without matching again (16 R427). -/
def Core.skips (k : Core) : Bool := k.ibSkip == some k.ipc

/-- The core as the instruction at its head finds it: the one break that is skipped has been. -/
def Core.skipped (k : Core) : Core := { k with ibSkip := if k.skips then none else k.ibSkip }

/-- Is it a fault of a cause below 9? -/
def Act.early : Act → Bool
  | .fault _ cause _ _ => cause < 9
  | _ => false

/-- One instruction of core c, as its command: it runs where the core is free and no interrupt is due; a fetch fault, an
instruction break with ACT 0, its own exception and a break with ACT 1 come in this order; the error response to a fetch is
logged (09 R261; 11 R323; 16 R431). plain:
RPT may repeat it (09 R259). -/
def runInstr (c : CoreId) (plain : Bool) (s : State) (f : State → Act) : Out :=
  when (s.coreFree c && !s.intDue c && (plain || !(s.core c).rpt)) s (fun s =>
    match s.fetchFault c with
    | some v => (logUntagged s (s.coreReq c) (s.core c).ipc (bits v 11 8)).exc c 1 (s.core c).ipc (some v)
    | none =>
      let k := s.core c
      let ms := if k.skips then [] else s.iMatches c k.ipc
      let s := s.setCore c k.skipped
      if ms.any (fun i => !s.iAct c i) then
        s.setCore c { s.core c with haltReq := 2, hit := hitBits ms }
      else
        let a := f s
        if ms.isEmpty || a.early then a.finish c
        else (s.setCore c { s.core c with hit := hitBits ms }).exc c 9 k.pc.toNat (some 0))

/-- Illegal instruction (09 R260). -/
def illegal (c : CoreId) (s : State) : Act := .fault s 2 (s.core c).pc.toNat none

/-- Run f where the core is in supervisor mode; otherwise cause 3 (09 R260). -/
def privileged (c : CoreId) (s : State) (f : State → Act) : Act :=
  if (s.core c).sup then f s else .fault s 3 (s.core c).pc.toNat none

end Sys2Proof.Machine
end

