-- ==== Sys2Proof/Machine/Fp.lean ====
section
/-! DEFINITION. Floating-point arithmetic on encodings, shared by the array's routines (04 R139 to R142) and the cores
(10 R282 to R292): exact integer arithmetic, one rounding at the end. Flags are bits 0 to 4: invalid, divide-by-zero,
overflow, underflow, inexact (04 R128, 10 R279). -/
namespace Sys2Proof.Machine

/-- A binary format: exponent and fraction bits. -/
structure Fmt where
  eb : Nat
  fb : Nat
  deriving DecidableEq, Repr

/-- binary16. -/
def fmt16 : Fmt := ⟨5, 10⟩
/-- bfloat16. -/
def fmtBf : Fmt := ⟨8, 7⟩
/-- binary32. -/
def fmt32 : Fmt := ⟨8, 23⟩
/-- binary64. -/
def fmt64 : Fmt := ⟨11, 52⟩

/-- Bits of an encoding. -/
def Fmt.width (f : Fmt) : Nat := 1 + f.eb + f.fb
/-- The exponent bias. -/
def Fmt.bias (f : Fmt) : Int := 2 ^ (f.eb - 1) - 1
/-- The exponent of the last place of subnormals. -/
def Fmt.qmin (f : Fmt) : Int := 1 - f.bias - f.fb
/-- The canonical quiet NaN (04 R139, 10 R284). -/
def Fmt.nan (f : Fmt) : Nat := (2 ^ f.eb - 1) * 2 ^ f.fb + 2 ^ (f.fb - 1)
/-- An infinity. -/
def Fmt.inf (f : Fmt) (s : Bool) : Nat := (if s then 2 ^ (f.eb + f.fb) else 0) + (2 ^ f.eb - 1) * 2 ^ f.fb
/-- The largest finite value. -/
def Fmt.maxFin (f : Fmt) (s : Bool) : Nat := f.inf s - 1
/-- A zero. -/
def Fmt.zero (f : Fmt) (s : Bool) : Nat := if s then 2 ^ (f.eb + f.fb) else 0
/-- One. -/
def Fmt.one (f : Fmt) : Nat := (2 ^ (f.eb - 1) - 1) * 2 ^ f.fb

/-- What an encoding stands for: a finite value is m · 2^e with sign s. -/
inductive FV where
  | nan (signalling : Bool)
  | inf (s : Bool)
  | fin (s : Bool) (m : Nat) (e : Int)
  deriving DecidableEq, Repr

/-- Decode an encoding. -/
def Fmt.dec (f : Fmt) (x : Nat) : FV :=
  let fr := x % 2 ^ f.fb
  let ex := x / 2 ^ f.fb % 2 ^ f.eb
  let s := x.testBit (f.eb + f.fb)
  if ex = 2 ^ f.eb - 1 then
    if fr = 0 then .inf s else .nan (!fr.testBit (f.fb - 1))
  else if ex = 0 then .fin s fr f.qmin
  else .fin s (fr + 2 ^ f.fb) (f.qmin + ex - 1)

/-- Is it a NaN? -/
def FV.isNan : FV → Bool
  | .nan _ => true
  | _ => false

/-- Is it a signalling NaN? -/
def FV.isSnan : FV → Bool
  | .nan b => b
  | _ => false

/-- Does a rounding go away from zero? rm as 10 R282; odd: last kept bit; cmp: remainder against half (0 zero, 1 below,
2 half, 3 above). -/
def roundsUp (rm : Nat) (s odd : Bool) (cmp : Nat) : Bool :=
  match rm with
  | 0 => cmp = 3 || (cmp = 2 && odd)
  | 1 => 2 ≤ cmp
  | 2 => false
  | 3 => !s && cmp ≠ 0
  | _ => s && cmp ≠ 0

/-- m · 2^e (plus a little more where sticky) as a multiple of 2^q, rounded, and whether it changed. -/
def roundTo (rm : Nat) (s : Bool) (m : Nat) (e : Int) (sticky : Bool) (q : Int) : Nat × Bool :=
  if q ≤ e then
    let k := m * 2 ^ (e - q).toNat
    (k + (if roundsUp rm s (k % 2 = 1) (if sticky then 1 else 0) then 1 else 0), sticky)
  else
    let sh := (q - e).toNat
    let k := m / 2 ^ sh
    let r := m % 2 ^ sh
    let h := 2 ^ (sh - 1)
    let cmp := if r = 0 ∧ !sticky then 0 else if r < h then 1 else if r = h ∧ !sticky then 2 else 3
    (k + (if roundsUp rm s (k % 2 = 1) cmp then 1 else 0), cmp ≠ 0)

/-- Round m · 2^e, m ≠ 0, into a format: encoding and flags; tininess after rounding (04 R139, 10 R284). -/
def Fmt.round (f : Fmt) (rm : Nat) (s : Bool) (m : Nat) (e : Int) (sticky : Bool := false) : Nat × Nat :=
  let top : Int := (Nat.log2 m : Int) + e
  let q0 : Int := top - f.fb
  let q := max q0 f.qmin
  let (k, inx) := roundTo rm s m e sticky q
  let (k0, _) := roundTo rm s m e sticky q0
  let tiny := decide (q0 + (Nat.log2 k0 : Int) < f.qmin + f.fb)
  let mag := if k < 2 ^ f.fb then k else ((q - f.qmin).toNat + 1) * 2 ^ f.fb + (k - 2 ^ f.fb)
  if f.inf false ≤ mag then
    let toInf := rm = 0 || rm = 1 || (rm = 3 && !s) || (rm = 4 && s)
    (if toInf then f.inf s else f.maxFin s, 20)
  else (mag + f.zero s, (if inx then 16 else 0) + (if tiny && inx then 8 else 0))

/-- Round a signed exact sum v · 2^e; an exact zero takes sign zs. -/
def Fmt.roundInt (f : Fmt) (rm : Nat) (v : Int) (e : Int) (zs : Bool) : Nat × Nat :=
  if v = 0 then (f.zero zs, 0) else f.round rm (decide (v < 0)) v.natAbs e

/-- The signed significand. -/
def signed (s : Bool) (m : Nat) : Int := if s then -(m : Int) else m

/-- The invalid operation: canonical NaN, invalid. -/
def Fmt.invalid (f : Fmt) : Nat × Nat := (f.nan, 1)

/-- A NaN result: invalid only where an operand was signalling. -/
def Fmt.nanOf (f : Fmt) (snan : Bool) : Nat × Nat := (f.nan, if snan then 1 else 0)

/-- The exact sum of two finite values as an integer times a power of two. -/
def exactSum (s1 : Bool) (m1 : Nat) (e1 : Int) (s2 : Bool) (m2 : Nat) (e2 : Int) : Int × Int :=
  let e := min e1 e2
  (signed s1 m1 * 2 ^ (e1 - e).toNat + signed s2 m2 * 2 ^ (e2 - e).toNat, e)

/-- The sign of an exact zero sum: that of equal-signed zeros, otherwise + except towards −∞ (10 R284). -/
def zeroSign (rm : Nat) (s1 : Bool) (m1 : Nat) (s2 : Bool) (m2 : Nat) : Bool :=
  if m1 = 0 ∧ m2 = 0 ∧ s1 = s2 then s1 else rm = 4

/-- Addition on decoded values. -/
def Fmt.addV (f : Fmt) (rm : Nat) (a b : FV) : Nat × Nat :=
  match a, b with
  | .nan x, y => f.nanOf (x || y.isSnan)
  | x, .nan y => f.nanOf (y || x.isSnan)
  | .inf s, .inf t => if s = t then (f.inf s, 0) else f.invalid
  | .inf s, .fin .. => (f.inf s, 0)
  | .fin .., .inf t => (f.inf t, 0)
  | .fin s1 m1 e1, .fin s2 m2 e2 =>
    let (v, e) := exactSum s1 m1 e1 s2 m2 e2
    f.roundInt rm v e (zeroSign rm s1 m1 s2 m2)

/-- Change the sign of a value. -/
def FV.neg : FV → FV
  | .nan b => .nan b
  | .inf s => .inf (!s)
  | .fin s m e => .fin (!s) m e

/-- Addition (04 R140, 10 R283). -/
def Fmt.add (f : Fmt) (rm a b : Nat) : Nat × Nat := f.addV rm (f.dec a) (f.dec b)

/-- Subtraction. -/
def Fmt.sub (f : Fmt) (rm a b : Nat) : Nat × Nat := f.addV rm (f.dec a) (f.dec b).neg

/-- Multiplication. -/
def Fmt.mul (f : Fmt) (rm a b : Nat) : Nat × Nat :=
  match f.dec a, f.dec b with
  | .nan x, y => f.nanOf (x || y.isSnan)
  | x, .nan y => f.nanOf (y || x.isSnan)
  | .inf s, .inf t => (f.inf (s != t), 0)
  | .inf s, .fin t m _ => if m = 0 then f.invalid else (f.inf (s != t), 0)
  | .fin s m _, .inf t => if m = 0 then f.invalid else (f.inf (s != t), 0)
  | .fin s m e, .fin t n g =>
    if m * n = 0 then (f.zero (s != t), 0) else f.round rm (s != t) (m * n) (e + g)

/-- Fused multiply-add a × b + c, rounded once; 0 × ∞ is invalid even beside a quiet NaN (04 R139, 10 R284). -/
def Fmt.fma (f : Fmt) (rm a b c : Nat) : Nat × Nat :=
  let x := f.dec a
  let y := f.dec b
  let z := f.dec c
  let zeroInf := match x, y with
    | .inf _, .fin _ 0 _ => true
    | .fin _ 0 _, .inf _ => true
    | _, _ => false
  if x.isNan || y.isNan then f.nanOf (x.isSnan || y.isSnan || z.isSnan)
  else if zeroInf then f.invalid
  else if z.isNan then f.nanOf z.isSnan
  else match x, y with
    | .fin s m e, .fin t n g => f.addV rm (.fin (s != t) (m * n) (e + g)) z
    | .inf s, .inf t => f.addV rm (.inf (s != t)) z
    | .inf s, .fin t _ _ => f.addV rm (.inf (s != t)) z
    | .fin s _ _, .inf t => f.addV rm (.inf (s != t)) z
    | _, _ => f.invalid

/-- Division. -/
def Fmt.div (f : Fmt) (rm a b : Nat) : Nat × Nat :=
  match f.dec a, f.dec b with
  | .nan x, y => f.nanOf (x || y.isSnan)
  | x, .nan y => f.nanOf (y || x.isSnan)
  | .inf _, .inf _ => f.invalid
  | .inf s, .fin t _ _ => (f.inf (s != t), 0)
  | .fin s _ _, .inf t => (f.zero (s != t), 0)
  | .fin s m e, .fin t n g =>
    if n = 0 then (if m = 0 then f.invalid else (f.inf (s != t), 2))
    else if m = 0 then (f.zero (s != t), 0)
    else
      let k := f.fb + 4 + Nat.log2 n
      let x := m * 2 ^ k
      f.round rm (s != t) (x / n) (e - g - k) (x % n != 0)

/-- The integer square root of n, found bit by bit from bit k. -/
def isqrtFrom (n : Nat) : Nat → Nat → Nat
  | 0, r => if (r + 1) * (r + 1) ≤ n then r + 1 else r
  | k + 1, r => isqrtFrom n k (if (r + 2 ^ (k + 1)) * (r + 2 ^ (k + 1)) ≤ n then r + 2 ^ (k + 1) else r)

/-- The integer square root. -/
def isqrt (n : Nat) : Nat := isqrtFrom n (Nat.log2 n / 2 + 1) 0

/-- Square root (04 R139, 10 R291). -/
def Fmt.sqrt (f : Fmt) (rm a : Nat) : Nat × Nat :=
  match f.dec a with
  | .nan x => f.nanOf x
  | .inf s => if s then f.invalid else (f.inf false, 0)
  | .fin s m e =>
    if m = 0 then (f.zero s, 0)
    else if s then f.invalid
    else
      let h := (e % 2).toNat
      let k := f.fb + 3
      let n := m * 2 ^ h * 2 ^ (2 * k)
      let r := isqrt n
      f.round rm false r ((e - h) / 2 - k) (r * r != n)

/-- How two values compare: 0 less, 1 equal, 2 greater, 3 unordered. -/
def cmpV (a b : FV) : Nat :=
  match a, b with
  | .nan _, _ => 3
  | _, .nan _ => 3
  | .inf s, .inf t => if s = t then 1 else if s then 0 else 2
  | .inf s, .fin .. => if s then 0 else 2
  | .fin .., .inf t => if t then 2 else 0
  | .fin s m e, .fin t n g =>
    let (v, _) := exactSum s m e (!t) n g
    if v < 0 then 0 else if v = 0 then 1 else 2

/-- minimumNumber and maximumNumber, −0 below +0 (10 R283, R284). -/
def Fmt.minMax (f : Fmt) (max : Bool) (a b : Nat) : Nat × Nat :=
  let x := f.dec a
  let y := f.dec b
  let fl := if x.isSnan || y.isSnan then 1 else 0
  if x.isNan && y.isNan then (f.nan, fl)
  else if x.isNan then (b, fl)
  else if y.isNan then (a, fl)
  else
    let less := match cmpV x y with
      | 0 => true
      | 1 => a.testBit (f.eb + f.fb)
      | _ => false
    (if less != max then a else b, fl)

/-- Convert between formats (04 R141, 10 R283). -/
def Fmt.cvt (src dst : Fmt) (rm a : Nat) : Nat × Nat :=
  match src.dec a with
  | .nan x => dst.nanOf x
  | .inf s => (dst.inf s, 0)
  | .fin s m e => if m = 0 then (dst.zero s, 0) else dst.round rm s m e

/-- Convert an integer to a format (04 R141, 10 R283). -/
def Fmt.ofInt (f : Fmt) (rm : Nat) (v : Int) : Nat × Nat := f.roundInt rm v 0 false

/-- Convert to an integer between lo and hi; out of range gives the nearest bound and invalid (04 R141, 10 R286). -/
def Fmt.toInt (f : Fmt) (rm : Nat) (lo hi : Int) (a : Nat) : Int × Nat :=
  match f.dec a with
  | .nan _ => (0, 1)
  | .inf s => (if s then lo else hi, 1)
  | .fin s m e =>
    let (k, inx) := roundTo rm s m e false 0
    let v := signed s k
    if hi < v then (hi, 1) else if v < lo then (lo, 1) else (v, if inx then 16 else 0)

/-- The significand of an operand as an integer in [2^fb, 2^(fb+1)); 2^fb for zero, infinity and NaN (10 R287). -/
def Fmt.signif (f : Fmt) (a : Nat) : Nat :=
  match f.dec a with
  | .fin _ m _ => if m = 0 then 2 ^ f.fb else m * 2 ^ (f.fb - Nat.log2 m)
  | _ => 2 ^ f.fb

/-- Is c · 2^−(fb+1) an estimate of 1/m within the bound of 10 R287? -/
def Fmt.freOk (f : Fmt) (m c : Nat) : Bool :=
  let one := 2 ^ (2 * f.fb + 1)
  2 ^ f.fb < c && c ≤ 2 ^ (f.fb + 1) &&
  (c * m - one) * 2 ^ 14 < one && (one - c * m) * 2 ^ 14 < one

/-- FRE: a value in (0.5, 1] within the bound; which one is free (10 R287; log 10). -/
def Fmt.fre (f : Fmt) (a : Nat) : Nat :=
  let m := f.signif a
  let special : Bool := match f.dec a with
    | .fin _ k _ => k == 0
    | _ => true
  if special then f.one
  else
    let c := (Config.freChoice (f.fb == 52) m).toNat
    let near := max ((2 ^ (2 * f.fb + 1) + m / 2) / m) (2 ^ f.fb + 1)
    (f.round 0 false (if f.freOk m c then c else near) (-(f.fb + 1 : Int))).1

/-- FRS: fd × (2 − m × fd), exact, rounded to nearest-even (10 R288). -/
def Fmt.frs (f : Fmt) (y a : Nat) : Nat :=
  let m := f.signif a
  match f.dec y with
  | .nan _ => f.nan
  | .inf _ => f.inf true
  | .fin s n e =>
    -- y = ±n·2^e; m = m·2^−fb; the product is y·(2 − m·y) with exponent 2e − fb when e ≤ 0
    let yv := signed s n
    let lo := min (e - f.fb) 1
    let two : Int := 2 ^ (1 - lo).toNat
    let my : Int := (m : Int) * yv * 2 ^ (e - f.fb - lo).toNat
    (f.roundInt 0 (yv * (two - my)) (e + lo) (s && n = 0)).1

/-- Does the seed meet |y·m − 1| < 2^−(p−1) (10 R289)? -/
def Fmt.seedOk (f : Fmt) (y b : Nat) : Bool :=
  let m := f.signif b
  match f.dec y with
  | .fin false n e =>
    -- |n·m·2^(e − fb) − 1| < 2^−fb
    let lo := min (e - f.fb) 0
    let v : Int := (n : Int) * m * 2 ^ (e - f.fb - lo).toNat - 2 ^ (-lo).toNat
    v.natAbs * 2 ^ f.fb < 2 ^ (-lo).toNat
  | _ => false

/-- FDC: the quotient, correctly rounded when the seed is good; otherwise a free fixed function of its operands
(10 R289; log 10). The flags are those of the true quotient. -/
def Fmt.fdc (f : Fmt) (rm y a b : Nat) : Nat × Nat :=
  let (q, fl) := f.div rm a b
  match f.dec a, f.dec b with
  | .fin _ m _, .fin _ n _ =>
    if m = 0 ∨ n = 0 ∨ f.seedOk y b then (q, fl)
    else (Config.fdcChoice (f.fb == 52) a b y rm % 2 ^ f.width, fl)
  | _, _ => (q, fl)

end Sys2Proof.Machine
end

