-- ==== Sys2Proof/Machine/Lanes.lean ====
section
/-! DEFINITION. Operations on planes: coordinates, links and edges, truth tables, counts, wells and their check words
(00 R11 to R14; 02). -/
namespace Sys2Proof.Machine

/-- Every lane. -/
def allLanes : Plane := ~~~0

/-- Columns x with lo ≤ x < hi of every row. -/
def colMask (lo hi : Nat) : Plane :=
  BitVec.ofNat 4194304 ((2 ^ hi - 2 ^ lo) * ((2 ^ 4194304 - 1) / (2 ^ 2048 - 1)))

/-- Rows y with lo ≤ y < hi. -/
def rowMask (lo hi : Nat) : Plane := BitVec.ofNat 4194304 (2 ^ (2048 * hi) - 2 ^ (2048 * lo))

/-- The lanes of field f (00 R12). -/
def fieldMask (f : Nat) : Plane :=
  colMask (512 * (f % 4)) (512 * (f % 4) + 512) &&& rowMask (512 * (f / 4)) (512 * (f / 4) + 512)

/-- The lanes of tile t (00 R12). -/
def tileMask (t : Nat) : Plane :=
  colMask (64 * (t % 32)) (64 * (t % 32) + 64) &&& rowMask (64 * (t / 32)) (64 * (t / 32) + 64)

/-- The lanes of the fields whose bit is set. -/
def fieldsMask (fs : BitVec 16) : Plane :=
  if fs = 0xFFFF then allLanes
  else (List.range 16).foldl (fun m f => if fs.getLsbD f then m ||| fieldMask f else m) 0

/-- The live lanes (02 R71). -/
def Arr.liveMask (a : Arr) : Plane := fieldsMask a.live

/-- The lanes of the tiles whose bit is set. -/
def tilesMask (ts : BitVec 1024) : Plane :=
  if ts = 0 then 0
  else (List.range 1024).foldl (fun m t => if ts.getLsbD t then m ||| tileMask t else m) 0

/-- y where m is 1, x elsewhere. -/
def mux (m y x : Plane) : Plane := (y &&& m) ||| (x &&& ~~~m)

/-! ### Links (02 R43, R62, R63) -/

/-- A link direction. -/
inductive Dir where
  | north | east | south | west
  deriving DecidableEq, Repr

/-- Each lane's source at distance n, coordinates modulo 2,048 (02 R43, R62). -/
def torus (dir : Dir) (n : Nat) (p : Plane) : Plane :=
  match dir with
  | .north => (p <<< (2048 * n)) ||| (p >>> (2048 * (2048 - n)))
  | .south => (p >>> (2048 * n)) ||| (p <<< (2048 * (2048 - n)))
  | .east => mux (colMask 0 (2048 - n)) (p >>> n) (p <<< (2048 - n))
  | .west => mux (colMask n 2048) (p <<< n) (p >>> (2048 - n))

/-- The lanes whose source lies beyond the array edge. -/
def beyond (dir : Dir) (n : Nat) : Plane :=
  match dir with
  | .north => rowMask 0 n
  | .south => rowMask (2048 - n) 2048
  | .east => colMask (2048 - n) 2048
  | .west => colMask 0 n

/-- A link read: LK of the neighbour, the axis fill value beyond the edge in fill mode and from a dry field
(02 R60 to R63). edge is ARRAY_EDGE as the routine holds it. -/
def linkRead (edge : Word) (live lk : Plane) (dir : Dir) (n : Nat) : Plane :=
  let (mode, fill) := match dir with
    | .east | .west => (bit edge 0, bit edge 1)
    | .north | .south => (bit edge 2, bit edge 3)
  let bad := ~~~(torus dir n live) ||| (if mode then beyond dir n else 0)
  mux bad (if fill then allLanes else 0) (torus dir n lk)

/-! ### Truth tables (02 R42) -/

/-- The plane of one minterm: index i = 4a + 2b + c. -/
def minterm (i : Nat) (a b c : Plane) : Plane :=
  (if i / 4 % 2 = 1 then a else ~~~a) &&& (if i / 2 % 2 = 1 then b else ~~~b) &&& (if i % 2 = 1 then c else ~~~c)

/-- The output of a truth table in every lane (02 R42). -/
def lut (f : Nat) (a b c : Plane) : Plane :=
  (List.range 8).foldl (fun r i => if f.testBit i then r ||| minterm i a b c else r) 0

/-! ### Counts (02 R77) -/

/-- One level of the count: groups of 2^k bits are summed pairwise within a number below 2^w. -/
def popStep (w k x : Nat) : Nat :=
  let m := (2 ^ w - 1) / (2 ^ (2 ^ k) + 1)
  (x &&& m) + ((x >>> 2 ^ k) &&& m)

/-- The number of ones of a number below 2^(2^k). -/
def popNat (k x : Nat) : Nat :=
  if x = 0 then 0 else (List.range k).foldl (fun y i => popStep (2 ^ k) i y) x

/-- The population count of a plane (02 R77). -/
def popcount (p : Plane) : Nat := popNat 22 p.toNat

/-- The lowest lane whose bit is 1; 0 when there is none (02 R77). -/
def firstSet (p : Plane) : Nat :=
  if p = 0 then 0 else Nat.log2 (p &&& (0 - p)).toNat

/-- The tile-OR vector (02 R77): bit t is the OR over tile t. -/
def tileOr (p : Plane) : BitVec 1024 :=
  if p = 0 then 0
  else (List.range 1024).foldl (fun v t => if p &&& tileMask t ≠ 0 then v ||| (1#1024 <<< t) else v) 0

/-! ### Wells (02 R47 to R52) -/

/-- What plane p holds when no entry lists it: 0, as every field was cleared at its power-up (02 R71). -/
def wellDefault (_ : Nat) : Plane := 0

/-- The committed content of plane p. -/
def State.well (s : State) (p : Nat) : Plane := sget wellDefault s.arr.wells p

/-- Replace the committed content of plane p. -/
def State.setWell (s : State) (p : Nat) (v : Plane) : State :=
  { s with arr := { s.arr with wells := sset wellDefault s.arr.wells p v } }

/-- The scratch planes of the live lanes, and with latches their CY, TG and LK too, become undefined: free values, in the
writes still on their way as well (04 R125; 03 R109; log 9). Other lanes keep what they hold (02 R73). -/
def State.undefScratch (s : State) (latches : Bool) : State :=
  let k := s.free
  let lanes := s.arr.liveMask
  let live := if latches then lanes else 0
  let t := (List.range 64).foldl (fun (s : State) i =>
    s.setWell (4032 + i) (mux lanes (Config.freePlane (k + i)) (s.well (4032 + i)))) s
  { t with
    free := s.free + 131
    arr := { t.arr with
      flight := s.arr.flight.map (fun (w : WellWrite) =>
        if 4032 ≤ w.plane ∧ w.scrub = none then { w with val := mux lanes (Config.freePlane (k + w.plane - 3968)) w.val } else w)
      cy := mux live (Config.freePlane (k + 128)) s.arr.cy
      tg := mux live (Config.freePlane (k + 129)) s.arr.tg
      lk := mux live (Config.freePlane (k + 130)) s.arr.lk } }

/-! ### Cells (01 R21; 02 R49, R65) -/

/-- The physical column of logical column j of a segment row with repair value b (01 R21). -/
def physCol (b j : Nat) : Nat := if j < b then j else j + 1

/-- The index of the segment row that holds lane (x, y) (02 R65). -/
def rowOfLane (x y : Nat) : Nat :=
  512 * (32 * (y / 64) + x / 64) + 64 * (y % 64 / 8) + 8 * (x % 64 / 8) + y % 8

/-- The repair value in force of a segment row (02 R65, R66). -/
def State.inForce (s : State) (row : Nat) : BitVec 4 := sget (fun _ => 8#4) s.arr.force row

/-- The data bit of its segment-plane word that holds lane (x, y)'s bit (01 R21; 02 R49). -/
def State.dataBit (s : State) (x y : Nat) : Nat := 9 * (y % 8) + physCol (s.inForce (rowOfLane x y)).toNat (x % 8)

/-- Is stored bit i of the word of this tile and segment that of the cell its row bypasses (02 R49)? Its value counts for
nothing. -/
def State.bypassed (s : State) (tile seg i : Nat) : Bool :=
  decide (i < 72) && (let b := (s.inForce (512 * tile + 8 * seg + i / 9)).toNat
    !((List.range 8).any (fun j => physCol b j == i % 9)))

/-- The wrong bits of a stored word that its check code sees (02 R49). -/
def State.seen (s : State) (e : StoredErr) : List Nat := e.bits.filter (fun i => !s.bypassed e.tile e.seg i)

/-- The word has more wrong bits than the code corrects: two or more (02 R51; log 90). -/
def State.lostWord (s : State) (e : StoredErr) : Bool := decide (2 ≤ (s.seen e).length)

/-- The data bits of segment 0 that an injection into this tile flips: the lowest k that are not bypassed (02 R86). -/
def State.injBits (s : State) (tile k : Nat) : List Nat :=
  ((List.range 72).filter (fun i => !s.bypassed tile 0 i)).take k

/-- A tile's field is live. -/
def State.tileLive (s : State) (t : Nat) : Bool := s.arr.live.getLsbD (fieldOfTile t)

/-- Commit one write: replace the lanes it covers, rewrite every word of its plane in live fields (which repairs
stored errors), then apply a pending injection of each live tile (02 R52, R86). A scrub commit repairs the words it
found and applies no injection (02 R56). -/
def State.commit (s : State) (w : WellWrite) : State :=
  match w.scrub with
  | some words =>
    { s with arr := { s.arr with
        errs := s.arr.errs.filter (fun e => !(e.plane == w.plane && words.contains (e.tile, e.seg))) } }
  | none =>
    let s := s.setWell w.plane (mux w.mask w.val (s.well w.plane))
    let hit := s.arr.inj.filter (fun i => s.tileLive i.1)
    { s with arr := { s.arr with
        errs := (s.arr.errs.filter (fun e => !(e.plane == w.plane && s.tileLive e.tile))) ++
          hit.map (fun i => ⟨w.plane, i.1, 0, s.injBits i.1 i.2⟩)
        inj := s.arr.inj.filter (fun i => !s.tileLive i.1) } }

/-- Commit, oldest first, every write whose due cycle lies before cycle c. -/
def State.settleFrom (s : State) (c : Nat) : List WellWrite → State
  | [] => s
  | w :: l => (if w.due < c then s.commit w else s).settleFrom c l

/-- The array as cycle c begins: every earlier commit has happened (02 R40, R55). -/
def State.settle (s : State) (c : Nat) : State :=
  let t := s.settleFrom c s.arr.flight
  { t with arr := { t.arr with flight := t.arr.flight.filter (fun w => c ≤ w.due) } }

/-- Put a write on its way. -/
def State.launch (s : State) (w : WellWrite) : State :=
  { s with arr := { s.arr with flight := s.arr.flight ++ [w] } }

/-! ### Check words (02 R49 to R51) -/

/-- Count a corrected word of a tile (02 R50). -/
def State.countCorr (s : State) (e : StoredErr) : State :=
  let a := Reg.tileEcc + 16 * e.tile
  let s := s.countEv a 15 0 a 31 1
  let s := s.setFld a 21 16 e.seg
  (s.countWord Reg.arrayEccCorr Reg.arrayEccStat 25 1).corrected 0

/-- Record and raise an uncorrectable read of array cycle cyc: source 0 A or B, 1 merge-read, 2 scrubber (02 R51). -/
def State.uncorrectable (s : State) (e : StoredErr) (src cyc : Nat) : State :=
  let s := if bit (s.reg Reg.arrayEccStat) 24 then s
    else s.setFld Reg.arrayEccStat 24 0 (e.plane + 4096 * e.tile + 2 ^ 22 * src + 2 ^ 24)
  s.fatalIn 1 cyc

/-- The stored errors a read of these planes meets in live fields, each word once (02 R50). -/
def State.errsOf (s : State) (planes : List Nat) : List StoredErr :=
  s.arr.errs.filter (fun e => planes.contains e.plane && s.tileLive e.tile && !(s.seen e).isEmpty)

/-- Read planes in array cycle cyc: count each corrected word once; an uncorrectable word is fatal (02 R50, R51). Of several the
record takes the one of the lowest tile, then segment, then plane: the manual orders no two of one cycle (DESIGN CHOICE, log
90). Answers the state and whether the read failed. -/
def State.readCheck (s : State) (planes merge : List Nat) (src cyc : Nat) : State × Bool :=
  let es := s.errsOf (planes ++ merge)
  let bad := es.filter s.lostWord
  let s := (es.filter (fun e => !s.lostWord e)).foldl State.countCorr s
  match argMin (fun e => (e.tile * 64 + e.seg) * 4096 + e.plane) bad with
  | some e => (s.uncorrectable e (if planes.contains e.plane then src else 1) cyc, true)
  | none => (s, false)

/-- The positions of two lists that stand in only one of them: what has flipped once. -/
def flipped (l m : List Nat) : List Nat := l.filter (fun i => !m.contains i) ++ m.filter (fun i => !l.contains i)

/-- A physical upset: bits of one stored word flip (02 R50, R51). -/
def State.upset (s : State) : Option Upset → State
  | none => s
  | some u =>
    let here (e : StoredErr) : Bool := e.plane == u.plane.val && e.tile == u.tile.val && e.seg == u.seg.val
    let old := match s.arr.errs.find? here with
      | some e => e.bits
      | none => []
    let now := flipped old (flipped [u.bit.val] (u.also.toList.map (·.val)))
    let rest := s.arr.errs.filter (fun e => !here e)
    { s with arr := { s.arr with
        errs := if now.isEmpty then rest else ⟨u.plane.val, u.tile.val, u.seg.val, now⟩ :: rest } }

/-- The activity of a stream in live lanes (02 R39). -/
def Arr.active (a : Arr) (urgent : Bool) : Plane := (if urgent then a.au else a.an) &&& a.liveMask

end Sys2Proof.Machine
end

