-- ==== Sys2Proof/Machine/Mseq.lean ====
section
/-! DEFINITION. The microword, its timing and its execution, shared by the microsequencer's rows (03; 02). -/
namespace Sys2Proof.Machine

/-! ### Fields of the microword (03 R87, R88) -/

/-- Field [hi:lo] of a microword. -/
def mf (m : Micro) (hi lo : Nat) : Nat := bits m.toNat hi lo

/-- Exclusive OR of the bits of a number below 2^n. -/
def parityOf : Nat → Nat → Bool
  | 0, _ => false
  | n + 1, x => (x % 2 == 1) != parityOf n (x / 2)

/-- PAR0 and PAR1 hold (03 R89). -/
def parityOk (m : Micro) : Bool :=
  (parityOf 63 (mf m 62 0) == m.getLsbD 126) && (parityOf 63 (mf m 125 63) == m.getLsbD 127)

/-- A reserved value, exactly one of SSEL and SOP zero, or SWAP with WEN (03 R90). -/
def illegalMicro (m : Micro) : Bool :=
  mf m 63 61 == 7 || mf m 65 64 == 3 || decide (5 ≤ mf m 71 69) || decide (5 ≤ mf m 74 72) ||
  decide (5 ≤ mf m 77 75) || decide (6 ≤ mf m 85 83) || mf m 90 88 == 7 || decide (5 ≤ mf m 107 105) ||
  ((mf m 82 81 == 0) != (mf m 85 83 == 0)) || (m.getLsbD 119 && m.getLsbD 66)

/-- A plane address: base of the named operand plus offset plus the loop index, modulo 4,096 (03 R91). -/
def planeAddr (e : Entry) (sel off : Nat) (idx : Bool) (lidx : Nat) : Nat :=
  let base := match sel with
    | 0 => 0
    | 1 => e.d.base
    | 2 => e.s1.base
    | _ => e.s2.base
  (base + off + (if idx then lidx else 0)) % 4096

/-- The dwell in array cycles, raised to what the link distance needs (02 R61; 03 R88). -/
def dwellOf (m : Micro) : Nat :=
  let d := 2 ^ mf m 87 86
  let link := 3 ≤ mf m 63 61 && mf m 63 61 ≤ 6
  let need := if !link then 1 else match mf m 65 64 with
    | 1 => 2
    | 2 => 4
    | _ => 1
  max d need

/-- How one occupied step acts on the lanes: a microword, or a step of a standard routine (04 R441). reads: planes read
as A and B; wr: the plane written and the write condition; p and q: the lane outputs; loads and actop as 03 R88. -/
structure MOp where
  dwell : Nat
  reads : List Nat
  wr : Option (Nat × Nat)
  swap : Option Nat
  pq : Arr → (Nat → Plane) → Plane × Plane
  cyld : Nat
  tgld : Nat
  lkld : Nat
  actop : Nat
  ssel : Nat
  sop : Nat
  k : Nat
  branch : Bool

/-- The lane action of a microword for a queue entry with loop index lidx (02 R42, R43; 03 R87). -/
def opOf (m : Micro) (e : Entry) (lidx : Nat) (edge : Word) : MOp where
  dwell := dwellOf m
  reads := [planeAddr e (mf m 29 28) (mf m 27 16) (m.getLsbD 30) lidx,
            planeAddr e (mf m 44 43) (mf m 42 31) (m.getLsbD 45) lidx]
  wr := if m.getLsbD 66 then
      some (planeAddr e (mf m 59 58) (mf m 57 46) (m.getLsbD 60) lidx, mf m 68 67) else none
  swap := if m.getLsbD 119 then
      some (planeAddr e (mf m 59 58) (mf m 57 46) (m.getLsbD 60) lidx) else none
  pq := fun arr plane =>
    let a := plane (planeAddr e (mf m 29 28) (mf m 27 16) (m.getLsbD 30) lidx)
    let b := plane (planeAddr e (mf m 44 43) (mf m 42 31) (m.getLsbD 45) lidx)
    let dist := match mf m 65 64 with
      | 0 => 1
      | 1 => 8
      | _ => 64
    let c := match mf m 63 61 with
      | 0 => arr.cy
      | 1 => arr.tg
      | 2 => arr.lk
      | 3 => linkRead edge arr.liveMask arr.lk .north dist
      | 4 => linkRead edge arr.liveMask arr.lk .east dist
      | 5 => linkRead edge arr.liveMask arr.lk .south dist
      | _ => linkRead edge arr.liveMask arr.lk .west dist
    (lut (mf m 7 0) a b c, lut (mf m 15 8) a b c)
  cyld := mf m 71 69
  tgld := mf m 74 72
  lkld := mf m 77 75
  actop := mf m 80 78
  ssel := mf m 82 81
  sop := mf m 85 83
  k := lidx
  branch := mf m 90 88 == 2 || mf m 90 88 == 3

/-! ### Timing (02 R53, R54; 03 R97, R98) -/

/-- Planes a step reads in its execute cycle: A, B and the merge-read of a masked write or a swap (02 R44, R59). -/
def MOp.allReads (o : MOp) : List Nat :=
  o.reads ++ (match o.wr with
    | some (p, cond) => if cond = 0 then [] else [p]
    | none => []) ++ (match o.swap with
    | some p => [p]
    | none => [])

/-- Stall cycles before an execute cycle e0 for planes read there: a plane written in cycle E can be read from E + 3
on (02 R53). -/
def interlock (flight : List WellWrite) (planes : List Nat) (e0 : Nat) : Nat :=
  (flight.filter (fun w => w.scrub.isNone && planes.contains w.plane)).foldl
    (fun n w => max n (w.due + 1 - e0)) 0

/-- The stall of a step that begins now: total, and the part that waits for the sump (03 R98). -/
def State.stallOf (s : State) (o : MOp) (last : Option LastContrib) : Nat × Nat :=
  let e0 := s.acyc + o.dwell - 1
  let si := interlock s.arr.flight o.allReads e0
  let ss := match o.branch, last with
    | true, some l => l.exec + 12 - e0
    | _, _ => 0
  (max si ss, ss)

/-- Count stall cycles: a cycle that is both counts as sump wait (03 R98). -/
def State.countStalls (s : State) (total sump : Nat) : State :=
  let (i, iov) := sat64 s.mseq.istall (total - sump)
  let (w, wov) := sat64 s.mseq.sstall sump
  let s := { s with mseq := { s.mseq with istall := i, sstall := w } }
  let s := if iov then s.setBit Reg.mseqStat 17 else s
  if wov then s.setBit Reg.mseqStat 18 else s

/-! ### Execution in the lanes (02 R40 to R46, R52, R59, R75 to R78) -/

/-- A latch load (02 R45). -/
def loadSel (n : Nat) (old p q : Plane) : Plane :=
  match n with
  | 1 => p
  | 2 => q
  | 3 => 0
  | 4 => allLanes
  | _ => old

/-- The activity operation (02 R46). -/
def actSel (n : Nat) (a p q : Plane) : Plane :=
  match n with
  | 1 => p
  | 2 => q
  | 3 => a &&& p
  | 4 => a &&& q
  | 5 => a ||| p
  | 6 => allLanes
  | 7 => 0
  | _ => a

/-- The lanes whose write condition holds (02 R44). -/
def writeMask (a : Arr) (urgent : Bool) (cond : Nat) : Plane :=
  match cond with
  | 0 => a.liveMask
  | 1 => a.active urgent
  | 2 => a.active urgent &&& a.tg
  | _ => a.active urgent &&& ~~~a.tg

/-- The accumulator after a plane-sum contribution: the true result modulo 2^64 and whether it left the signed range
(02 R78). -/
def accStep (op : Nat) (acc : Dbl) (count k : Nat) : Dbl × Bool :=
  let term : Int := (count : Int) * 2 ^ k
  let r : Int := match op with
    | 3 => term
    | 4 => acc.toInt + term
    | _ => acc.toInt - term
  (BitVec.ofInt 64 r, decide (r < -(2 ^ 63)) || decide (2 ^ 63 ≤ r) || (decide (64 ≤ k) && count != 0))

/-- The count form of a result (02 R80). -/
def countForm (op : Nat) (or : Bool) (count first : Nat) : Dbl :=
  if op = 1 then BitVec.ofNat 64 (2 ^ 23 * b2n or)
  else BitVec.ofNat 64 (count + 2 ^ 23 * b2n or + 2 ^ 24 * first + 2 ^ 46 * b2n or)

/-- A contribution enters the sump in cycle e (02 R75 to R79). v: the contributing lanes. -/
def State.contribute (s : State) (e : Nat) (urgent : Bool) (op k : Nat) (v : Plane) : State × LastContrib :=
  let n := popcount v
  let or := v != 0
  let acc := if urgent then s.sump.uacc else s.sump.nacc
  let (acc', ovf) := if 3 ≤ op then accStep op acc n k else (acc, false)
  let id := s.sump.nextId
  let tiles := tileOr v
  let c : Contrib := ⟨e, id, urgent, op, or, tiles, n, firstSet v, acc', ovf, 0, s.mseq.curRtn⟩
  let sump := { s.sump with
    nacc := if urgent then s.sump.nacc else acc'
    uacc := if urgent then acc' else s.sump.uacc
    nextId := id + 1
    flight := s.sump.flight ++ [c]
    tapFlight := s.sump.tapFlight ++ [⟨e, urgent, or, tiles, 0⟩] }
  ({ s with sump := sump },
    ⟨e, or, op == 1, if 3 ≤ op then acc' else countForm op or n (firstSet v), id⟩)

/-- One step acts in every live lane in cycle e: conditions and operands use the latches as they stand, the sump
contribution uses the results (02 R40, R41). A lane of field skip takes no action (03 R118). -/
def State.lanes (s : State) (o : MOp) (urgent : Bool) (e : Nat) (skip : Option Nat) : State × Option LastContrib :=
  let arr := s.arr
  let live := arr.liveMask &&& (match skip with
    | some f => ~~~(fieldMask f)
    | none => allLanes)
  let (p, q) := o.pq arr s.well
  let s := match o.wr with
    | some (w, cond) => s.launch ⟨e + 2, w, mux (writeMask arr urgent cond) p (s.well w), live, urgent, false, none⟩
    | none => s
  let s := match o.swap with
    | some w => s.launch ⟨e + 2, w, arr.io, live, urgent, true, none⟩
    | none => s
  let io := match o.swap with
    | some w => mux live (s.well w) arr.io
    | none => arr.io
  let cy := mux live (loadSel o.cyld arr.cy p q) arr.cy
  let tg := mux live (loadSel o.tgld arr.tg p q) arr.tg
  let lk := mux live (loadSel o.lkld arr.lk p q) arr.lk
  let act := mux live (actSel o.actop (if urgent then arr.au else arr.an) p q) (if urgent then arr.au else arr.an)
  let s := { s with arr := { s.arr with
    cy := cy, tg := tg, lk := lk, io := io
    an := if urgent then arr.an else act
    au := if urgent then act else arr.au } }
  if o.ssel = 0 ∨ o.sop = 0 then (s, none)
  else
    let v := (match o.ssel with
      | 1 => p &&& act
      | 2 => tg &&& act
      | _ => act) &&& live &&& ~~~(tilesMask arr.excl)
    let (s, l) := s.contribute e urgent o.sop o.k v
    (s, some l)

/-! ### Ends and errors -/

/-- A fatal error of the microsequencer in array cycle cyc: cause, field, address and routine in MSEQ_FATAL (03 R90, R96, R103, R117,
R118; 15 R404: codes 3 to 7 are causes 1 to 5). -/
def State.mseqFatal (s : State) (cause field addr rtn cyc : Nat) : State :=
  let s := if s.fld Reg.mseqFatal 3 0 = 0 then
      s.setReg Reg.mseqFatal (BitVec.ofNat 32 (cause + 16 * field + 256 * addr + 2 ^ 22 * rtn)) else s
  s.fatalIn (cause + 2) cyc

/-- An s register becomes valid with v if its owner is still that issue (05 R151 to R153). -/
def State.sValid (s : State) (r : Fin 8) (issue : Nat) (v : Dbl) : State :=
  let x := s.iss.sreg[r]
  if s.mode != .faultHold && x.owner == issue && x.named && !x.valid then
    { s with iss := { s.iss with sreg := vset s.iss.sreg r { x with val := v, valid := true } } }
  else s

/-- The routine ends with last occupied cycle p; its s register receives its last contribution, or 0 (02 R79; 05 R151).
avail is the cycle from which that result exists. -/
def State.endRoutine (s : State) (r : Running) (p : Nat) : State :=
  let u := r.entry.urgent
  let dl : List Delivery := match r.entry.sreg with
    | none => []
    | some sr => match r.last with
      | none => [⟨p + 1, sr, r.entry.issue, 0, u, none⟩]
      | some l => [⟨max (p + 1) (l.exec + (if l.isOr then 12 else 24)), sr, r.entry.issue, l.result, u, some l.id⟩]
  { s with
    sump := { s.sump with deliver := s.sump.deliver ++ dl }
    mseq := { s.mseq with run := none, lastP := some (p, u) } }

/-- Loop and call state of a stream. -/
def Mseq.loop (m : Mseq) (urgent : Bool) : LoopSt := if urgent then m.loopU else m.loopN

/-- Replace the loop and call state of a stream. -/
def State.setLoop (s : State) (urgent : Bool) (l : LoopSt) : State :=
  { s with mseq := if urgent then { s.mseq with loopU := l } else { s.mseq with loopN := l } }

/-- The count of LOP: IMM8, or an operand's width plus signed IMM8, clamped to 0 to 255 (03 R94). -/
def lopCount (m : Micro) (e : Entry) : Nat :=
  let imm := mf m 117 110
  let simm : Int := if imm < 128 then imm else (imm : Int) - 256
  let w : Int := match mf m 109 108 with
    | 1 => (e.d.width : Int) + simm
    | 2 => (e.s1.width : Int) + simm
    | 3 => (e.s2.width : Int) + simm
    | _ => imm
  min w.toNat 255

/-- The loop-counter operation; none is a sequencing fault (03 R94). -/
def lopStep (m : Micro) (e : Entry) (l : LoopSt) : Option LoopSt :=
  match mf m 107 105 with
  | 1 => some { l with lcnt := lopCount m e }
  | 2 => if 4 ≤ l.stack.length then none
    else some { l with stack := (l.lcnt, l.lidx) :: l.stack, lcnt := lopCount m e, lidx := 0 }
  | 3 => match l.stack with
    | [] => none
    | (c, i) :: t => some { l with lcnt := c, lidx := i, stack := t }
  | 4 => some { l with lidx := 0 }
  | _ => some l

/-- What follows a microword: the next address, the end, or a sequencing fault (03 R95, R96). -/
inductive Next where
  | goto (a : Nat) (l : LoopSt)
  | stop (l : LoopSt)
  | fault

/-- The address after a; past 16,383 is a sequencing fault. -/
def Next.cont (a : Nat) (l : LoopSt) : Next := if a = 16383 then .fault else .goto (a + 1) l

/-- The sequencing operation (03 R95): or is the tested OR. -/
def seqStep (m : Micro) (a : Nat) (or : Bool) (l : LoopSt) : Next :=
  let t := mf m 104 91
  match mf m 90 88 with
  | 1 =>
    let l' := { l with lidx := (l.lidx + 1) % 256, lcnt := l.lcnt - 1 }
    if l.lcnt = 0 then .cont a l' else .goto t l'
  | 2 => if or then .goto t l else .cont a l
  | 3 => if or then .cont a l else .goto t l
  | 4 => if 4 ≤ l.calls.length ∨ a = 16383 then .fault else .goto t { l with calls := (a + 1) :: l.calls }
  | 5 => match l.calls with
    | [] => .fault
    | r :: c => .goto r { l with calls := c }
  | 6 => .stop l
  | _ => .cont a l

/-! ### The plane guard (03 R114) -/

/-- The guard violation of a user microword, 0 when there is none: 1 keep-plane write, 2 pre-commit write outside
scratch, 3 pre-commit activity, 4 pre-commit swap. Of several the lowest kind is recorded: the manual does not say which
(DESIGN CHOICE, log 91). -/
def guardKind (m : Micro) (w : Nat) (pre : Bool) : Nat :=
  let wr := m.getLsbD 66
  let sw := m.getLsbD 119
  if (wr || sw) && 3968 ≤ w && w ≤ 4031 then 1
  else if pre && wr && w < 4032 then 2
  else if pre && mf m 80 78 != 0 then 3
  else if pre && sw then 4
  else 0

/-- A guard violation: the routine ends with G − 1 as its last cycle, its s register becomes valid with 0, the first
violation is recorded, a contained error (03 R114; 15 code 35). -/
def State.guardEnd (s : State) (r : Running) (kind addr : Nat) : State :=
  let s := match r.entry.sreg with
    | some x => s.sValid x r.entry.issue 0
    | none => s
  let s := { s with mseq := { s.mseq with run := none, lastP := some (s.acyc - 1, r.entry.urgent) } }
  let s := if bit (s.reg Reg.mseqStat) 14 then s
    else s.setReg Reg.mseqGuard (BitVec.ofNat 32 (r.entry.rtn + 1024 * addr + 2 ^ 24 * kind))
  (s.setBit Reg.mseqStat 14).containedIn 35 s.acyc

/-! ### Breaks (16 R433) -/

/-- Does a break's STREAM field choose this stream? 3 acts as 0. -/
def streamSel (n : Nat) (urgent : Bool) : Bool := n == 0 || n == 3 || (n == 1 && !urgent) || (n == 2 && urgent)

/-- Stop at a break: the microsequencer holds and the sequencer core's halt is requested with WHY 6 (16 R423, R433). -/
def State.breakAt (s : State) (cause n : Nat) : State :=
  { s with
    mseq := { s.mseq with brk := some (cause, n) }
    seq := if s.seq.haltReq = 0 ∧ s.seq.halted = false then { s.seq with haltReq := 6 } else s.seq }

/-- The address break that names the next microword, if one is enabled (16 R433). -/
def State.addrBreak (s : State) : State :=
  match s.mseq.run with
  | none => s
  | some r =>
    match [0, 1].find? (fun n => let w := s.reg (Reg.dbgMbrkAddr + 4 * n)
        bit w 14 && bits w.toNat 13 0 == r.next) with
    | some n => s.breakAt 2 n
    | none => s

/-! ### Preemption (03 R108) -/

/-- Is the microsequencer stopped: Fault-hold, its own fatal error, or BCAST off (03 R119; 01 R19)? -/
def State.mseqDown (s : State) : Bool :=
  s.mode == .faultHold || s.fld Reg.mseqFatal 3 0 != 0 || !s.pwr.bcast

/-- Dispatch allowed: DISP_EN, no hold, no break (03 R120, R121). -/
def State.mayDispatch (s : State) : Bool :=
  s.mseq.dispEn && !s.mseq.held && s.mseq.brk.isNone && !s.mseqDown

/-- The routine table words of routine n (03 R102). -/
def State.rtabLo (s : State) (n : Nat) : Word := s.reg (Reg.mseqRtabLo + 8 * n)

/-- CLEN of a routine. -/
def State.clen (s : State) (n : Nat) : Nat := bits (s.rtabLo n).toNat 22 14

/-- The cycle in which the head of the urgent queue first counts as accepted in an earlier cycle. -/
def State.urgentFrom (s : State) : Option Nat :=
  match s.mseq.uq with
  | [] => none
  | e :: _ => some (max s.acyc (e.acc + 1))

end Sys2Proof.Machine
end

