-- ==== Sys2Proof/Machine/Lib.lean ====
section
/-! DEFINITION. The standard routine library (04 R122 to R142, R440, R441), microword by microword: a routine of 04 R441's
table by that schedule, the others by a schedule of the model's own within the guarantees of R441 and the counts of their
tables (log 14). -/
namespace Sys2Proof.Machine

/-! ### Values in lanes -/

/-- The value of lane l held in planes, least significant first (04 R122). -/
def laneNat (ps : List Plane) (l : Nat) : Nat := ps.foldr (fun p n => 2 * n + b2n (p.getLsbD l)) 0

/-- A plane given lane by lane. -/
def ofLanes (f : Nat → Bool) : Plane := BitVec.ofFnLE (fun l : Fin 4194304 => f l.val)

/-- What a routine computes in one lane: D, V where the routine names it, flags raised. -/
structure LaneRes where
  d : Nat
  v : Bool
  fl : Nat

/-- An n-bit value read as signed. -/
def sgn (n x : Nat) : Int := if x.testBit (n - 1) then (x : Int) - 2 ^ n else x

/-- The low n bits of an integer. -/
def low (n : Nat) (x : Int) : Nat := (x % (2 ^ n : Int)).toNat

/-- Division at the edges (04 R134): quotient and remainder, V. -/
def divLane (signed : Bool) (n x y : Nat) : Nat × Nat × Bool :=
  if y = 0 then (2 ^ n - 1, x, true)
  else if !signed then (x / y, x % y, false)
  else
    let a := sgn n x
    let b := sgn n y
    (low n (a.tdiv b), low n (a.tmod b), a == -(2 ^ (n - 1) : Int) && b == -1)

/-- A shift by a literal amount: the result and the last bit shifted out (04 R134; 09 R256). kind: 0 SHL, 1 SHRL,
2 SHRA. -/
def shiftVal (kind n x a : Nat) : Nat × Bool :=
  let sign := x.testBit (n - 1)
  if a = 0 then (x % 2 ^ n, false)
  else match kind with
    | 0 => (x * 2 ^ a % 2 ^ n, decide (a ≤ n) && x.testBit (n - a))
    | 1 => (x / 2 ^ a, decide (a ≤ n) && x.testBit (a - 1))
    | _ => (low n (sgn n x / 2 ^ a), if a ≤ n then x.testBit (a - 1) else sign)

/-- Ones among the low n bits. -/
def onesBelow (n x : Nat) : Nat := ((List.range n).filter (fun i => x.testBit i)).length

/-- The format of a floating-point routine (04 R140). -/
def rtnFmt (rtn : Nat) : Fmt := if rtn < 272 then fmt32 else if rtn < 280 then fmt16 else fmtBf

/-- The result of routine rtn in one lane (04 R133, R134, R139 to R142). n, m: widths of the table; x, y, z: S1, S2, D. -/
def laneFn (rtn n m w x y z : Nat) : LaneRes :=
  match rtn with
  | 17 => ⟨x * y, false, 0⟩
  | 18 => ⟨low (m + n) (sgn m x * sgn n y), false, 0⟩
  | 19 => let r := divLane false n x y; ⟨r.1, r.2.2, 0⟩
  | 20 => let r := divLane true n x y; ⟨r.1, r.2.2, 0⟩
  | 21 => let r := divLane false n x y; ⟨r.2.1, r.2.2, 0⟩
  | 22 => let r := divLane true n x y; ⟨r.2.1, r.2.2, 0⟩
  | 23 => let r := shiftVal 0 n x y; ⟨r.1, r.2, 0⟩
  | 24 => let r := shiftVal 1 n x y; ⟨r.1, r.2, 0⟩
  | 25 => let r := shiftVal 2 n x y; ⟨r.1, r.2, 0⟩
  | 31 => ⟨onesBelow n x, decide (2 ^ w ≤ onesBelow n x), 0⟩
  | 261 => let r := fmt32.fma 0 x y z; ⟨r.1, false, r.2⟩
  | 262 => let a := fmt32.dec x; let b := fmt32.dec y
    ⟨b2n (cmpV a b == 1), false, if a.isSnan || b.isSnan then 1 else 0⟩
  | 263 => let a := fmt32.dec x; let b := fmt32.dec y
    ⟨b2n (cmpV a b == 0), false, if a.isNan || b.isNan then 1 else 0⟩
  | 264 => let a := fmt32.dec x; let b := fmt32.dec y
    ⟨b2n (decide (cmpV a b ≤ 1)), false, if a.isNan || b.isNan then 1 else 0⟩
  | 265 => ⟨x ^^^ 2 ^ 31, false, 0⟩
  | 266 => ⟨x % 2 ^ 31, false, 0⟩
  | 288 => let r := fmt16.cvt fmt32 0 x; ⟨r.1, false, r.2⟩
  | 289 => let r := fmtBf.cvt fmt32 0 x; ⟨r.1, false, r.2⟩
  | 290 => let r := fmt32.cvt fmt16 0 x; ⟨r.1, false, r.2⟩
  | 291 => let r := fmt32.cvt fmtBf 0 x; ⟨r.1, false, r.2⟩
  | 292 => let r := fmt32.ofInt 0 (sgn n x); ⟨r.1, false, r.2⟩
  | 293 => let r := fmt32.ofInt 0 x; ⟨r.1, false, r.2⟩
  | 294 => let r := fmt32.toInt 0 (-(2 ^ (n - 1))) (2 ^ (n - 1) - 1) x; ⟨low n r.1, false, r.2⟩
  | 295 => let r := fmt32.toInt 0 0 (2 ^ n - 1) x; ⟨low n r.1, false, r.2⟩
  | _ =>
    let f := rtnFmt rtn
    let r := match rtn % 8 with
      | 0 => f.add 0 x y
      | 1 => f.sub 0 x y
      | 2 => f.mul 0 x y
      | 3 => f.div 0 x y
      | _ => f.sqrt 0 x
    ⟨r.1, false, r.2⟩

/-! ### The tables: widths, counts, commit phases -/

/-- What a routine is: planes of D written and of S1, S2 and D read, n and m of its table row. -/
structure LibShape where
  n : Nat
  m : Nat
  dw : Nat
  r1 : Nat
  r2 : Nat
  rd : Nat

/-- ⌈log2 n⌉. -/
def clog2 (n : Nat) : Nat := if n ≤ 1 then 0 else Nat.log2 (n - 1) + 1

/-- The shape of a routine (04 R123, R133 to R141). -/
def libShape (rtn : Nat) (e : Entry) : LibShape :=
  let d := e.d.width
  let a := e.s1.width
  let b := e.s2.width
  if rtn ≤ 1 then ⟨6, 6, if rtn = 1 then 6 else 0, 0, 0, 0⟩
  else if rtn ≤ 3 then ⟨d, d, d, 0, 0, 0⟩
  else if rtn ≤ 5 then ⟨d, d, d, d, 0, 0⟩
  else if rtn ≤ 8 then ⟨d, d, d, d, d, 0⟩
  else if rtn ≤ 10 then ⟨d, a, d, min a d, 0, 0⟩
  else if rtn ≤ 14 then ⟨d, d, d, d, d, 0⟩
  else if rtn ≤ 16 then ⟨d, d, d, d, 0, 0⟩
  else if rtn ≤ 18 then ⟨b, a, min (a + b) 64, a, b, 0⟩
  else if rtn ≤ 22 then ⟨d, d, d, d, d, 0⟩
  else if rtn ≤ 25 then ⟨d, d, d, d, min b 7, 0⟩
  else if rtn ≤ 30 then ⟨a, a, 1, a, a, 0⟩
  else if rtn = 31 then ⟨a, a, d, a, 0, 0⟩
  else if rtn = 64 ∨ rtn = 65 then ⟨1, 1, 0, 1, 0, 0⟩
  else if rtn = 66 then ⟨1, 1, 0, 0, 0, 0⟩
  else if rtn = 67 then ⟨1, 1, 0, 1, 1, 0⟩
  else if rtn ≤ 69 then ⟨a, a, 0, a, 0, 0⟩
  else if rtn ≤ 73 then ⟨a, a, 1, a, 0, 0⟩
  else if rtn ≤ 97 then ⟨1, 1, 0, 0, 0, 0⟩
  else if rtn ≤ 100 then ⟨1, 1, 0, 1, 0, 0⟩
  else if rtn = 101 then ⟨1, 1, 1, 0, 0, 0⟩
  else if rtn = 103 then ⟨1, 1, 0, 1, 0, 0⟩
  else if rtn ≤ 105 then ⟨1, 1, 0, 0, 0, 0⟩
  else if rtn ≤ 139 then ⟨d, d, d, d, 0, 0⟩
  else if rtn = 261 then ⟨32, 32, 32, 32, 32, 32⟩
  else if 262 ≤ rtn ∧ rtn ≤ 264 then ⟨32, 32, 1, 32, 32, 0⟩
  else if rtn = 260 ∨ rtn = 265 ∨ rtn = 266 then ⟨32, 32, 32, 32, 0, 0⟩
  else if rtn < 272 then ⟨32, 32, 32, 32, 32, 0⟩
  else if rtn = 276 ∨ rtn = 284 then ⟨16, 16, 16, 16, 0, 0⟩
  else if rtn < 288 then ⟨16, 16, 16, 16, 16, 0⟩
  else if rtn ≤ 289 then ⟨16, 16, 32, 16, 0, 0⟩
  else if rtn ≤ 291 then ⟨32, 32, 16, 32, 0, 0⟩
  else if rtn ≤ 293 then ⟨a, a, 32, a, 0, 0⟩
  else ⟨d, d, d, 32, 0, 0⟩

/-- Does the library hold a routine of this number (04 R132 to R141)? -/
def listed (rtn : Nat) : Bool :=
  [(0, 31), (64, 73), (96, 105), (128, 139), (256, 266), (272, 276), (280, 284), (288, 295)].any (fun p =>
    decide (p.1 ≤ rtn) && decide (rtn ≤ p.2))

/-- Is the routine one of MAXU, MAXS, MINU, MINS? -/
def isExtreme (rtn : Nat) : Bool := decide (70 ≤ rtn) && decide (rtn ≤ 73)

/-- Is it a lane shift? -/
def isShift (rtn : Nat) : Bool := decide (128 ≤ rtn) && decide (rtn ≤ 139)

/-- The dwell of a lane shift's writing microwords (04 R138; 02 R61). -/
def shiftDwell (rtn : Nat) : Nat := if rtn < 132 then 1 else if rtn < 136 then 2 else 4

/-- The figure under "Commit" of a routine's table row; none: whole, or no commit mark at all (04 R133, R135, R140,
R141). A product wider than 64 bits commits as one of 64. -/
def commitFigure (rtn : Nat) (sh : LibShape) : Option Nat :=
  if rtn = 17 ∨ rtn = 18 then some (min (sh.m + sh.n) 64 + 2)
  else if 19 ≤ rtn ∧ rtn ≤ 25 then some (sh.n + 3)
  else if rtn = 31 then some (sh.dw + 3)
  else if isExtreme rtn then some 3
  else if rtn ≤ 261 ∧ 256 ≤ rtn then some 40
  else if (272 ≤ rtn ∧ rtn ≤ 284) ∨ rtn = 290 ∨ rtn = 291 then some 24
  else if rtn = 288 ∨ rtn = 289 ∨ rtn = 292 ∨ rtn = 293 then some 40
  else if rtn = 294 ∨ rtn = 295 then some (sh.n + 8)
  else none

/-- Is the routine marked "whole": committed from its first microword (04 R133, R136, R138, R140)? -/
def isWhole (rtn : Nat) : Bool :=
  listed rtn && (commitFigure rtn ⟨1, 1, 1, 1, 1, 1⟩).isNone && !(decide (64 ≤ rtn) && decide (rtn ≤ 69))

/-- Occupied array cycles of a routine, its sump waits included: its table's count less 2 where it writes a plane in its
last microword (04 R130, R133 to R141; 03 R99). -/
def libTotal (rtn : Nat) (sh : LibShape) : Nat :=
  let n := sh.n
  let m := sh.m
  match rtn with
  | 0 | 1 => 6
  | 11 | 12 | 13 | 14 | 15 => n + 1
  | 16 => n + 2
  | 17 => m * n + m + n + 2
  | 18 => m * n + m + n + 4
  | 19 | 21 => n * n + 5 * n + 6
  | 20 | 22 => n * n + 7 * n + 8
  | 23 | 24 | 25 => clog2 n * (n + 1) + n + 4
  | 26 | 27 | 28 | 29 | 30 => n + 1
  | 31 => 2 * n + 2 * sh.dw + 2
  | 64 | 65 | 66 | 67 => 1
  | 68 | 69 => n
  | 70 | 71 | 72 | 73 => 14 * n + 2
  | 96 | 97 | 98 | 99 | 100 => 1
  | 101 => 4
  | 102 | 103 => 19
  | 104 => 5
  | 105 => 17
  | 256 | 257 => 416
  | 258 => 638
  | 259 => 1210
  | 260 => 1194
  | 261 => 1056
  | 262 | 263 | 264 => 38
  | 265 | 266 => 32
  | 272 | 273 => 212
  | 274 => 216
  | 275 => 424
  | 276 => 410
  | 280 | 281 => 174
  | 282 => 144
  | 283 => 260
  | 284 => 248
  | 288 => 56
  | 289 => 38
  | 290 => 162
  | 291 => 108
  | 292 => 6 * n + 78
  | 293 => 6 * n + 74
  | 294 => 8 * n + 60
  | 295 => 8 * n + 56
  | _ => if isShift rtn then shiftDwell rtn * n + 1 else n

/-- Does the routine write V (04 R133)? -/
def writesV (rtn : Nat) : Bool := (19 ≤ rtn && rtn ≤ 25) || rtn == 31

/-- The flag planes the routine can raise, as a mask (04 R140, R141). -/
def flagMask (rtn : Nat) : Nat :=
  match rtn with
  | 259 | 275 | 283 => 31
  | 260 | 276 | 284 => 17
  | 262 | 263 | 264 | 288 | 289 => 1
  | 265 | 266 => 0
  | 292 | 293 => 16
  | 294 | 295 => 17
  | _ => if 256 ≤ rtn then 29 else 0

/-- Planes base to base + n − 1, modulo 4,096. -/
def planesFrom (base n : Nat) : List Nat := (List.range n).map (fun i => (base + i) % 4096)

/-- Does an operand of n planes break the limit of 04 R124? -/
def outOfUser (base n : Nat) : Bool := n != 0 && decide (3968 < base + n)

/-- Do two operands overlap without having the same base (04 R124)? -/
def partialOverlap (b1 n1 b2 n2 : Nat) : Bool :=
  b1 != b2 && n1 != 0 && n2 != 0 && decide (b1 < b2 + n2) && decide (b2 < b1 + n1)

/-- Is the routine's result undefined for these operands: an operand outside the user planes, a partial overlap of a
routine committed throughout, or a product wider than 64 (04 R124, R133)? -/
def libUndefined (rtn : Nat) (e : Entry) (sh : LibShape) : Bool :=
  outOfUser e.d.base (max sh.dw sh.rd) || outOfUser e.s1.base sh.r1 || outOfUser e.s2.base sh.r2 ||
  (isWhole rtn && (partialOverlap e.d.base sh.dw e.s1.base sh.r1 || partialOverlap e.d.base sh.dw e.s2.base sh.r2)) ||
  ((rtn == 17 || rtn == 18) && decide (64 < sh.m + sh.n))

/-- Planes a block routine writes in its commit phase: V, flags, D (04 R133, R140, R141). -/
def libWriteCount (rtn : Nat) (sh : LibShape) : Nat :=
  sh.dw + b2n (writesV rtn) + onesBelow 5 (flagMask rtn)

/-- Microwords of a block routine before its commit phase: all its sources are read there, and the phase lasts no longer
than the table's figure (04 R441). -/
def libPre (rtn : Nat) (sh : LibShape) : Nat :=
  let total := libTotal rtn sh
  match commitFigure rtn sh with
  | none => 0
  | some k => if max sh.r1 sh.r2 ≤ total - k then total - k else min (max sh.r1 sh.r2) (total - libWriteCount rtn sh)

/-! ### Routines scheduled cycle by cycle (04 R441) -/

/-- A step that does nothing, to be filled in. -/
def idleOp : MOp where
  dwell := 1
  reads := []
  wr := none
  swap := none
  pq := fun _ _ => (0, 0)
  cyld := 0
  tgld := 0
  lkld := 0
  actop := 0
  ssel := 0
  sop := 0
  k := 0
  branch := false

/-- Write f of the read planes to plane w in active lanes. -/
def wrOp (reads : List Nat) (w : Nat) (f : Arr → (Nat → Plane) → Plane) : MOp :=
  { idleOp with reads := reads, wr := some (w, 1), pq := fun a pl => (f a pl, 0) }

/-- One bit of a sum or difference: add or subtract, first plane, top plane with the signed overflow in Q (04 R134). -/
def addStep (sub first top : Bool) (a b c : Plane) : Plane × Plane :=
  let c := if first then 0 else c
  let s := a ^^^ b ^^^ c
  let out := if sub then (~~~a &&& (b ||| c)) ||| (b &&& c) else (a &&& b) ||| (c &&& (a ||| b))
  (s, if top then out ^^^ c else out)

/-- Borrow of one plane of a comparison; at the top plane of a signed one the operands are exchanged (04 R133). -/
def cmpStep (first signedTop : Bool) (a b c : Plane) : Plane :=
  let c := if first then 0 else c
  let (a, b) := if signedTop then (b, a) else (a, b)
  (~~~a &&& b) ||| (~~~(a ^^^ b) &&& c)

/-- The direction and distance of a lane shift: the source lane of each lane (04 R138). -/
def shiftDir (rtn : Nat) : Dir × Nat :=
  let dist := if rtn < 132 then 1 else if rtn < 136 then 8 else 64
  (match rtn % 4 with
    | 0 => .south
    | 1 => .west
    | 2 => .north
    | _ => .east, dist)

/-- Microword i of a routine whose microwords do one plane's work each, and whether it is the last (04 R441, R136, R138,
R140). und: P replaces an undefined result. -/
def schedOp (rtn : Nat) (e : Entry) (edge : Word) (i : Nat) (und : Option Plane) : MOp × Bool :=
  let sh := libShape rtn e
  let n := sh.n
  let d (j : Nat) := (e.d.base + j) % 4096
  let a (j : Nat) := (e.s1.base + j) % 4096
  let b (j : Nat) := (e.s2.base + j) % 4096
  let u (p : Plane) : Plane := und.getD p
  let plain (reads : List Nat) (f : (Nat → Plane) → Plane) : MOp × Bool :=
    (wrOp reads (d i) (fun _ pl => u (f pl)), i + 1 == n)
  let arith (sub vsigned : Bool) : MOp × Bool :=
    if i = n then (wrOp [] 3989 (fun arr _ => u arr.cy), true)
    else ({ idleOp with
      reads := [a i, b i], wr := some (d i, 1), cyld := 2
      pq := fun arr pl =>
        let r := addStep sub (i == 0) (vsigned && i + 1 == n) (pl (a i)) (pl (b i)) arr.cy
        (u r.1, r.2) }, false)
  let cmp (f : Arr → (Nat → Plane) → Plane) (res : Plane → Plane) : MOp × Bool :=
    if i = n then (wrOp [] (d 0) (fun arr _ => u (res arr.cy)), true)
    else ({ idleOp with reads := [a i, b i], cyld := 2, pq := fun arr pl => (0, f arr pl) }, false)
  let sump (reads : List Nat) (ssel sop : Nat) (f : (Nat → Plane) → Plane) : MOp × Bool :=
    ({ idleOp with reads := reads, ssel := ssel, sop := sop, k := i, pq := fun _ pl => (f pl, 0) }, i + 1 == n)
  let sump (reads : List Nat) (ssel sop : Nat) (f : (Nat → Plane) → Plane) : MOp × Bool :=
    match und with
    | some p => ({ (sump reads 1 sop f).1 with pq := fun _ _ => (p, 0) }, (sump reads 1 sop f).2)
    | none => sump reads ssel sop f
  let act (reads : List Nat) (op : Nat) (f : (Nat → Plane) → Plane) : MOp × Bool :=
    ({ idleOp with reads := reads, actop := if und.isSome then 1 else op, pq := fun _ pl => (u (f pl), 0) }, true)
  let own (arr : Arr) : Plane := if e.urgent then arr.au else arr.an
  let lvl (j : Nat) : Nat := 3968 + j
  let push (also : Bool) : MOp × Bool :=
    if i < 15 then ({ wrOp [lvl (14 - i)] (lvl (15 - i)) (fun _ pl => pl (lvl (14 - i))) with
      wr := some (lvl (15 - i), 0) }, false)
    else if i < 18 then (idleOp, false)
    else ({ idleOp with
      reads := if also then [a 0] else [], wr := some (lvl 0, 0), actop := if also then (if und.isSome then 2 else 4) else 0
      pq := fun arr pl => (own arr, if also then u (pl (a 0)) else 0) }, true)
  let shift : MOp × Bool :=
    let (dir, dist) := shiftDir rtn
    if i = 0 then ({ idleOp with reads := [a 0], lkld := 2, pq := fun _ pl => (0, pl (a 0)) }, false)
    else ({ idleOp with
      dwell := shiftDwell rtn, reads := if i < n then [a i] else [], wr := some (d (i - 1), 1)
      lkld := if i < n then 2 else 0
      pq := fun arr pl => (u (linkRead edge arr.liveMask arr.lk dir dist), if i < n then pl (a i) else 0) }, i == n)
  match rtn with
  | 0 => (wrOp [] (3984 + i) (fun _ _ => 0), i == 5)
  | 1 => (wrOp [3984 + i] (d i) (fun _ pl => u (pl (3984 + i))), i == 5)
  | 2 => plain [] (fun _ => 0)
  | 3 => plain [] (fun _ => allLanes)
  | 4 => plain [a i] (fun pl => pl (a i))
  | 5 => plain [a i] (fun pl => ~~~(pl (a i)))
  | 6 => plain [a i, b i] (fun pl => pl (a i) &&& pl (b i))
  | 7 => plain [a i, b i] (fun pl => pl (a i) ||| pl (b i))
  | 8 => plain [a i, b i] (fun pl => pl (a i) ^^^ pl (b i))
  | 9 => if i < sh.m then plain [a i] (fun pl => pl (a i)) else plain [] (fun _ => 0)
  | 10 => plain [a (min i (sh.m - 1))] (fun pl => pl (a (min i (sh.m - 1))))
  | 11 => arith false false
  | 12 => arith false true
  | 13 => arith true false
  | 14 => arith true true
  | 15 =>
    if i = n then (wrOp [] 3989 (fun arr _ => u arr.cy), true)
    else ({ idleOp with
      reads := [a i], wr := some (d i, 1), cyld := 2
      pq := fun arr pl =>
        let c := if i = 0 then 0 else arr.cy
        (u (pl (a i) ^^^ c), if i + 1 = n then pl (a i) &&& ~~~c else pl (a i) ||| c) }, false)
  | 16 =>
    if i = 0 then ({ idleOp with reads := [a (n - 1)], tgld := 1, cyld := 3
                                 pq := fun _ pl => (pl (a (n - 1)), 0) }, false)
    else if i = n + 1 then (wrOp [] 3989 (fun arr _ => u arr.cy), true)
    else ({ idleOp with
      reads := [a (i - 1)], wr := some (d (i - 1), 1), cyld := 2
      pq := fun arr pl =>
        let x := pl (a (i - 1))
        (u (x ^^^ (arr.tg &&& arr.cy)), if i = n then arr.tg &&& x &&& ~~~arr.cy else x ||| arr.cy) }, false)
  | 26 => cmp (fun arr pl =>
      let eq := ~~~(pl (a i) ^^^ pl (b i))
      if i = 0 then eq else arr.cy &&& eq) id
  | 27 => cmp (fun arr pl => cmpStep (i == 0) false (pl (a i)) (pl (b i)) arr.cy) id
  | 28 => cmp (fun arr pl => cmpStep (i == 0) (i + 1 == n) (pl (a i)) (pl (b i)) arr.cy) id
  | 29 => cmp (fun arr pl => cmpStep (i == 0) false (pl (b i)) (pl (a i)) arr.cy) (fun c => ~~~c)
  | 30 => cmp (fun arr pl => cmpStep (i == 0) (i + 1 == n) (pl (b i)) (pl (a i)) arr.cy) (fun c => ~~~c)
  | 64 => sump [a 0] 1 1 (fun pl => pl (a 0))
  | 65 => sump [a 0] 1 2 (fun pl => pl (a 0))
  | 66 => sump [] 3 2 (fun _ => 0)
  | 67 => sump [a 0, b 0] 1 2 (fun pl => ~~~(pl (a 0) ^^^ pl (b 0)))
  | 68 => sump [a i] 1 (if i = 0 then 3 else 4) (fun pl => pl (a i))
  | 69 => sump [a i] 1 (if i + 1 = n then 5 else if i = 0 then 3 else 4) (fun pl => pl (a i))
  | 96 => act [] 6 (fun _ => 0)
  | 97 => act [] 7 (fun _ => 0)
  | 98 => act [a 0] 1 (fun pl => pl (a 0))
  | 99 => act [a 0] 3 (fun pl => pl (a 0))
  | 100 => act [a 0] 3 (fun pl => ~~~(pl (a 0)))
  | 101 => if i < 3 then (idleOp, false)
    else ({ wrOp [] (d 0) (fun arr _ => u (own arr)) with wr := some (d 0, 0) }, true)
  | 102 => push false
  | 103 => push true
  | 104 => if i = 0 then ({ idleOp with reads := [lvl 0], actop := 1, pq := fun arr pl => (~~~(own arr) &&& pl (lvl 0), 0) },
      false)
    else if i < 4 then (idleOp, false)
    else ({ wrOp [] 4032 (fun _ _ => 0) with wr := some (4032, 0) }, true)
  | 105 => if i = 0 then ({ idleOp with reads := [lvl 0], actop := 1, pq := fun _ pl => (pl (lvl 0), 0) }, false)
    else if i < 16 then ({ wrOp [lvl i] (lvl (i - 1)) (fun _ pl => pl (lvl i)) with wr := some (lvl (i - 1), 0) }, false)
    else ({ wrOp [] (lvl 15) (fun _ _ => allLanes) with wr := some (lvl 15, 0) }, true)
  | 265 => plain [a i] (fun pl => if i = 31 then ~~~(pl (a i)) else pl (a i))
  | 266 => plain [a i] (fun pl => if i = 31 then 0 else pl (a i))
  | _ => shift

/-! ### Routines with a schedule of the model's own (log 14) -/

/-- The planes block microword i reads: plane i of S1 and S2, then those of D; the last one before the commit phase
reads what is left (04 R441). -/
def blockReads (e : Entry) (sh : LibShape) (pre i : Nat) : List Nat :=
  let top := max sh.r1 sh.r2
  let part (base r j : Nat) : List Nat :=
    if j < r then (if i + 1 = pre then (List.range (r - j)).map (fun k => (base + j + k) % 4096) else [(base + j) % 4096])
    else []
  part e.s1.base sh.r1 i ++ part e.s2.base sh.r2 i ++ (if top ≤ i then part e.d.base sh.rd (i - top) else [])

/-- What a block routine writes in its commit phase, in the order of writing: plane, write condition, value; all in active
lanes (04 R125 to R129, R133, R134, R139 to R142). und: the results are free values. -/
def libWrites (rtn : Nat) (e : Entry) (pl : Nat → Plane) (und : Option Nat) : List (Nat × Nat × Plane) :=
  let sh := libShape rtn e
  let d (j : Nat) := (e.d.base + j) % 4096
  let src (base n : Nat) := (planesFrom base n).map pl
  let put (w j : Nat) (f : Plane) : Nat × Nat × Plane := (w, 1, match und with
    | some k => Config.freePlane (k + j)
    | none => f)
  let xs := src e.s1.base sh.r1
  let ys := src e.s2.base sh.r2
  let zs := src e.d.base sh.rd
  let res (l : Nat) := laneFn rtn sh.n sh.m sh.dw (laneNat xs l) (laneNat ys l) (laneNat zs l)
  let vv := if writesV rtn then [put 3989 64 (ofLanes (fun l => (res l).v))] else []
  let ff := ((List.range 5).filter (fun j => (flagMask rtn).testBit j)).map (fun j =>
    put (3984 + j) (65 + j) (pl (3984 + j) ||| ofLanes (fun l => (res l).fl.testBit j)))
  vv ++ ff ++ (List.range sh.dw).map (fun j => put (d j) j (ofLanes (fun l => (res l).d.testBit j)))

/-- The candidate lanes of a MAX or MIN search after its top t planes, among the contributing lanes (04 R135). u is S1
with its sign plane inverted for the signed routines, all inverted for a minimum. -/
def extremeKeys (rtn : Nat) (e : Entry) (pl : Nat → Plane) : List Plane :=
  let n := e.s1.width
  (List.range n).map (fun t =>
    let j := n - 1 - t
    let p := pl ((e.s1.base + j) % 4096)
    let p := if t = 0 ∧ (rtn = 71 ∨ rtn = 73) then ~~~p else p
    if 72 ≤ rtn then ~~~p else p)

/-- Narrow candidates by one plane: those with a 1, where any has one. -/
def narrow (c p : Plane) : Plane := if c &&& p = 0 then c else c &&& p

/-- D of a MAX or MIN routine: every lane whose key has a 1 wherever the extreme has one (04 R135). -/
def extremeD : List Plane → Plane → Plane → Plane
  | [], _, d => d
  | p :: ps, c, d => if c &&& p = 0 then extremeD ps c d else extremeD ps (c &&& p) (d &&& p)

/-- Microword i of a MAX or MIN routine: for each plane from the top the test's contribution, the branch on it and one
microword on either path; then D and the count of the extreme lanes (04 R135). -/
def extremeOp (rtn : Nat) (e : Entry) (i : Nat) (und : Option Plane) : MOp × Bool :=
  let n := e.s1.width
  let t := i / 3
  let d0 := e.d.base % 4096
  let start (arr : Arr) : Plane := arr.active e.urgent &&& ~~~(tilesMask arr.excl)
  let cand (arr : Arr) (pl : Nat → Plane) (k : Nat) : Plane := ((extremeKeys rtn e pl).take k).foldl narrow (start arr)
  if i < 3 * n then
    match i % 3 with
    | 0 => ({ idleOp with
        reads := [(e.s1.base + n - 1 - t) % 4096], ssel := 1, sop := 1
        pq := fun arr pl => (und.getD (cand arr pl t &&& (extremeKeys rtn e pl).getD t 0), 0) }, false)
    | 1 => ({ idleOp with branch := true }, false)
    | _ => (idleOp, false)
  else if i = 3 * n then (idleOp, false)
  else ({ idleOp with
    wr := some (d0, 1), tgld := 2, ssel := 2, sop := 2
    pq := fun arr pl =>
      (if start arr = 0 then pl d0 else und.getD (extremeD (extremeKeys rtn e pl) (start arr) allLanes),
       und.getD (cand arr pl n)) }, true)

/-- Does the routine take its results lane by lane in its commit phase? -/
def isBlock (rtn : Nat) : Bool :=
  (decide (17 ≤ rtn) && decide (rtn ≤ 25)) || rtn == 31 || (decide (256 ≤ rtn) && rtn != 265 && rtn != 266)

/-- Microword i of a library routine, whether it is commit-marked, and whether it is the last; todo: the writes its commit
phase has still to make (04 R440, R441). -/
def libOp (rtn : Nat) (e : Entry) (edge : Word) (i : Nat) (todo : List (Nat × Nat × Plane)) (und : Option Plane) :
    MOp × Bool × Bool :=
  let sh := libShape rtn e
  if isBlock rtn then
    let total := libTotal rtn sh
    let pre := libPre rtn sh
    let w := libWriteCount rtn sh
    let reads := if isWhole rtn then blockReads e sh (total - w) i else blockReads e sh pre i
    let o := match todo with
      | x :: _ => { idleOp with reads := reads, wr := some (x.1, x.2.1), pq := fun _ _ => (x.2.2, 0) }
      | [] => { idleOp with reads := reads }
    (o, decide (pre ≤ i), i + 1 == total)
  else if isExtreme rtn then
    let (o, last) := extremeOp rtn e i und
    (o, decide (3 * e.s1.width ≤ i + 1), last)
  else
    let (o, last) := schedOp rtn e edge i und
    (o, isWhole rtn, last)

/-- The writes of a block routine's commit phase are due to be worked out: its next microword makes the first of them. -/
def libResultsDue (rtn : Nat) (e : Entry) (i : Nat) : Bool :=
  let sh := libShape rtn e
  isBlock rtn && i + libWriteCount rtn sh == libTotal rtn sh

/-! ### The table entries of the library (04 R440; 03 R102) -/

/-- A queue entry with every operand of a width. -/
def ofWidth (rtn w : Nat) : Entry := ⟨rtn, ⟨0, w, 0⟩, ⟨0, w, 0⟩, ⟨0, w, 0⟩, none, 0, 0, false⟩

/-- The largest occupancy over the widths the routine accepts, with the stalls against the routines before it: 2, none
where its first microwords read no plane (04 R440, R441). A lane shift by 64 accepts widths to 63 (R138). -/
def libRunmax (rtn : Nat) : Nat :=
  let w := if 136 ≤ rtn ∧ rtn ≤ 139 then 63 else 64
  libTotal rtn (libShape rtn (ofWidth rtn w)) + (if [66, 96, 97, 101].contains rtn then 0 else 2)

/-- The largest commit phase over those widths (04 R440). -/
def libClen (rtn : Nat) : Nat :=
  if isWhole rtn then libRunmax rtn
  else (commitFigure rtn (libShape rtn (ofWidth rtn 64))).getD 0

/-- The attribute bits [29:23] of a listed routine (03 R102; 04 R440). -/
def libAttr (rtn : Nat) : Nat :=
  let sh := libShape rtn (ofWidth rtn 8)
  b2n (64 ≤ rtn && rtn ≤ 73) + 2 * b2n ((96 ≤ rtn && rtn ≤ 100) || (103 ≤ rtn && rtn ≤ 105)) +
    4 * b2n (sh.dw != 0 || sh.rd != 0) + 8 * b2n (sh.r1 != 0) + 16 * b2n (sh.r2 != 0) + 32 * b2n (sh.dw != 0)

/-- Entry rtn of the routine table as the firmware image gives it: START is the image's, the other fields of a listed
routine what 04 R440 states; a number that is not listed has VALID 0 (R132). -/
def libEntry (rtn : Nat) (lo hi : Word) : Word × Word :=
  if listed rtn then
    (BitVec.ofNat 32 (bits lo.toNat 13 0 + 2 ^ 14 * libClen rtn + 2 ^ 23 * libAttr rtn + 2 ^ 31),
     BitVec.ofNat 32 (min (libRunmax rtn) 65535))
  else (lo &&& 0x7FFFFFFF#32, hi)

end Sys2Proof.Machine
end

