-- ==== Sys2Proof/Machine/PumpOps.lean ====
section
/-! DEFINITION. What the pumps do with planes and memory: the I/O latch path, corner turning, the descriptor and its
checks (06 R185 to R193). -/
namespace Sys2Proof.Machine

/-- Field-local column and row of a lane index; its field (00 R11, R12). -/
def laneField (l : Nat) : Nat := 4 * (l / 2048 / 512) + l % 2048 / 512

/-- A plane given by field-local coordinates of field f; 0 in other fields. -/
def ofField (f : Nat) (g : Nat → Nat → Bool) : Plane :=
  (List.range 512).foldl (fun p cy =>
    let row : Nat := (List.range 512).foldl (fun r cx => r + (if g cx cy then 2 ^ cx else 0)) 0
    p ||| (BitVec.ofNat 4194304 row <<< (2048 * (512 * (f / 4) + cy) + 512 * (f % 4)))) 0

/-- The bit of a plane at field-local (cx, cy) of field f. -/
def atField (p : Plane) (f cx cy : Nat) : Bool := p.getLsbD (2048 * (512 * (f / 4) + cy) + 512 * (f % 4) + cx)

/-- k further shift cycles of an IN or OUT transfer after done of them: each row takes the next row's bits, row 511
the supplied row (06 R185). sup: the plane supplied, row r in shift r. -/
def shiftRows (f done k : Nat) (sup io : Plane) : Plane :=
  let fm := fieldMask f
  let y0 := 512 * (f / 4)
  let kept := ((io &&& fm) >>> (2048 * k)) &&& fm &&& rowMask y0 (y0 + 512 - k)
  let fresh := ((sup &&& fm &&& rowMask (y0 + done) (y0 + done + k)) <<< (2048 * (512 - k - done)))
  mux fm (kept ||| fresh) io

/-- The element size in bits (06 R190). -/
def Desc.e (d : Desc) : Nat := if d.esz = 0 then 1 else 4 * 2 ^ d.esz

/-- Read a descriptor from the 64 bytes at a (06 R190). -/
def readDesc (s : State) (a : Nat) : Desc :=
  let w (i : Nat) := s.memNat (a + 8 * i) 8
  let w0 := w 0
  let w3 := w 3
  { op := bits w0 1 0
    esz := bits w0 4 2
    npl := bits w0 11 5
    sext := w0.testBit 12
    irq := w0.testBit 13
    noWait := w0.testBit 14
    stride := bits w0 63 32
    addr := bits (w 1) 47 0
    tmask := BitVec.ofNat 64 (w 2)
    pstride := bits w3 31 0
    pbase := bits w3 43 32
    resvd := bits w0 31 15 != 0 || bits (w 1) 63 48 != 0 || bits w3 63 44 != 0 || bits (w 5) 63 15 != 0 ||
      w 6 != 0 || w 7 != 0 }

/-- The format checks of 06 R192 hold. -/
def Desc.formatOk (d : Desc) : Bool :=
  let e := d.e
  (d.op == 1 || d.op == 2) && decide (d.esz ≤ 4) && decide (1 ≤ d.npl) && decide (d.npl ≤ 64) &&
  (e == 1 || decide (d.npl ≤ e)) && d.addr % 64 == 0 && d.stride % 64 == 0 && (e != 1 || d.pstride % 64 == 0) &&
  (d.op != 2 || (decide (64 * e ≤ d.stride) && (e != 1 || d.npl == 1 || decide (512 * d.stride ≤ d.pstride)))) &&
  !d.resvd

/-- Is the tile of field-local (cx, cy) selected (06 R186)? -/
def Desc.sel (d : Desc) (cx cy : Nat) : Bool := d.tmask.getLsbD (8 * (cy / 64) + cx / 64)

/-- The byte and the bit in it that hold bit j of the lane at (cx, cy) (06 R191). -/
def Desc.place (d : Desc) (j cx cy : Nat) : Nat × Nat :=
  if d.e = 1 then (d.addr + j * d.pstride + cy * d.stride + cx / 8, cx % 8)
  else (d.addr + cy * d.stride + cx * (d.e / 8) + j / 8, j % 8)

/-- The first byte of each row of a selected tile row for plane j, with its length in bytes: what the plane addresses
(06 R191). -/
def Desc.spans (d : Desc) (j : Nat) : List (Nat × Nat) :=
  (List.range 512).flatMap (fun cy => ((List.range 8).filter (fun tx => d.sel (64 * tx) cy)).map (fun tx =>
    if d.e = 1 then ((d.place j (64 * tx) cy).1, 8)
    else (d.addr + cy * d.stride + 64 * tx * (d.e / 8), 64 * (d.e / 8))))

/-- May the pump access these bytes? 1 yes, 8 outside memory, 5 bank not on or stack not ready, 4 not owner
(06 R173, R182, R192, R193). -/
def pumpReach (s : State) (a len : Nat) : Nat :=
  let region (x : Nat) := regionOf x
  match region a, region (a + len - 1) with
  | some (.cistern n), some (.cistern m) =>
    if !s.bankOn n || !s.bankOn m then 5
    else if s.cist.owner.getLsbD n || s.cist.eff.getLsbD n || s.cist.owner.getLsbD m || s.cist.eff.getLsbD m then 4
    else 1
  | some (.bulk k), some (.bulk l) =>
    if s.cist.rdy.getLsbD k && s.cist.rdy.getLsbD l && !s.cist.selfRefresh then 1 else 5
  | _, _ => 8

/-- The status that ends plane j's accesses, 1 when all of them are served: the first failing one counts. -/
def Desc.reach (d : Desc) (s : State) (j : Nat) : Nat :=
  match (d.spans j).find? (fun p => pumpReach s p.1 p.2 != 1) with
  | some p => pumpReach s p.1 p.2
  | none => 1

/-- The planes of plane j's group, in order (06 R194). -/
def Desc.group (d : Desc) (j : Nat) : List Nat := (List.range 8).map (8 * (j / 8) + ·) |>.filter (fun i => decide (i < d.npl))

/-- The first of the group's planes whose accesses are not all served; none when they are. -/
def Desc.groupFail (d : Desc) (s : State) (j : Nat) : Option Nat := (d.group j).find? (fun i => d.reach s i != 1)

/-- Does every byte the descriptor addresses lie in cisterns or bulk memory (06 R192, status 8)? -/
def Desc.inMemory (d : Desc) (s : State) : Bool :=
  (List.range d.npl).all (fun j => (d.spans j).all (fun p => pumpReach s p.1 p.2 != 8))

/-- The plane an IN transfer supplies for plane j: memory bits in selected tiles, 0 elsewhere (06 R186, R191). -/
def inPlane (s : State) (f : Nat) (d : Desc) (j : Nat) : Plane :=
  ofField f (fun cx cy => d.sel cx cy && (let p := d.place j cx cy; (s.byte p.1).getLsbD p.2))

/-- Write plane j of an OUT transfer to memory: bit j of every element of selected tiles; with the last plane the bits
N to E − 1 too, copies of bit N − 1 or 0 (06 R190, R191). -/
def outPlane (s : State) (f : Nat) (d : Desc) (j : Nat) (io : Plane) : State :=
  let setBitAt (s : State) (a i : Nat) (b : Bool) : State :=
    s.setByte a (if b then s.byte a ||| (1#8 <<< i) else s.byte a &&& ~~~(1#8 <<< i))
  (List.range (512 * 512)).foldl (fun s l =>
    let cx := l % 512
    let cy := l / 512
    if d.sel cx cy then
      let b := atField io f cx cy
      let p := d.place j cx cy
      let s := setBitAt s p.1 p.2 b
      if d.e ≠ 1 ∧ j + 1 = d.npl then
        (List.range (d.e - d.npl)).foldl (fun s i =>
          let p := d.place (d.npl + i) cx cy
          setBitAt s p.1 p.2 (d.sext && b)) s
      else s
    else s) s

/-- An OUT transfer writes a group from its turn buffer. -/
def outGroup (s : State) (f : Nat) (d : Desc) (j : Nat) (turn : List Plane) : State :=
  ((d.group j).zip turn).foldl (fun s x => outPlane s f d x.1 x.2) s

/-- The turn buffer of an IN transfer at plane j: the group's planes, read before the first of them is shifted. -/
def Pump.filled (s : State) (f : Nat) (d : Desc) (p : Pump) : List Plane :=
  if p.turn.isEmpty then (d.group p.j).map (fun i => inPlane s f d i) else p.turn

/-- The plane a pump supplies to its field's shift: from the turn buffer for IN, 0 for OUT. -/
def Pump.supplied (s : State) (f : Nat) (p : Pump) : Plane :=
  match p.desc with
  | some d => if d.op = 1 then (p.filled s f d).getD (p.j % 8) 0 else 0
  | none => 0

/-- An IN transfer goes on to its next plane: at the end of a group the half of the turn buffer that was read ahead takes
over, and what ended its reads ends the descriptor (06 R193, R194). -/
def Pump.nextPlane (p : Pump) : Pump :=
  if (p.j + 1) % 8 = 0 then
    { p with
      st := .shift, j := p.j + 1, rows := 0, turn := p.ahead, judged := !p.ahead.isEmpty, ahead := []
      result := p.aheadEnd, aheadEnd := none }
  else { p with st := .shift, j := p.j + 1, rows := 0 }

/-- What a shift in progress has emitted after k shift cycles in all: the earlier part, and the rows that have left since
(06 R185). -/
def Pump.emitted (f : Nat) (p : Pump) (k : Nat) (io : Plane) : Plane :=
  let y0 := 512 * (f / 4)
  let fresh := (io &&& fieldMask f &&& rowMask y0 (y0 + k - p.rows)) <<< (2048 * p.rows)
  (p.emit &&& fieldMask f &&& rowMask y0 (y0 + p.rows)) ||| (fresh &&& rowMask y0 (y0 + 512))

/-- PUMP_STAT.EARLY of pump f. -/
def State.pumpEarly (s : State) (f : Fin 16) : State := s.setBit (Reg.pumpStat + 0x40 * f.val) 26

/-- A plane swap reaches the pump of a live field f: a waiting pump goes on; any other sets EARLY, and one in the middle of
a shift has shifted a free number of rows, none without data, and keeps on (06 R187, R188; log 15). Answers the state before IO is exchanged. -/
def swapPump (s : State) (f : Fin 16) : State :=
  if !s.arr.live.getLsbD f.val then s else
  let p := s.pump[f]
  if p.result.isSome then s.pumpEarly f else
  match p.st, p.desc with
  | .wait, some d =>
    let p' := if d.op = 2 then { p with st := .shift, rows := 0, emit := 0 }
      else if p.j + 1 = d.npl then { p with st := .shift, j := p.j + 1, result := some 1, turn := [] }
      else p.nextPlane
    { s with pump := vset s.pump f p' }
  | .shift, some d =>
    if d.op = 1 ∧ p.turn.isEmpty ∧ (d.groupFail s p.j).isSome then s.pumpEarly f
    else
      let k := p.rows + Config.freeNat s.free % (512 - p.rows)
      let io := shiftRows f.val p.rows (k - p.rows) (p.supplied s f.val) s.arr.io
      let turn := if d.op = 1 then p.filled s f.val d else p.turn
      let s := { s with free := s.free + 1, arr := { s.arr with io := io }
                        pump := vset s.pump f { p with rows := k, emit := p.emitted f.val k s.arr.io, turn := turn } }
      s.pumpEarly f
  | _, _ => s.pumpEarly f

/-- A plane swap reaches every field's pump but that of a field that saw bad parity (06 R187; 03 R118). -/
def swapPumps (s : State) (skip : Option Nat) : State :=
  ((List.finRange 16).filter (fun f => skip != some f.val)).foldl swapPump s

end Sys2Proof.Machine
end

