-- ==== Sys2Proof/Machine/ArrayRun.lean ====
section
/-! DEFINITION. How the running routine goes on: its next step, that step's span of array cycles, preemption and commit
overrun, and the step itself (03; 04 R441). -/
namespace Sys2Proof.Machine

/-- The next microword of a routine: a stored one, or one of the released library. -/
inductive Plan where
  | word (m : Micro)
  | lib

/-- The span of a microword: stall cycles in all and for the sump, occupied cycles after them, whether it is
commit-marked; stops: it is illegal or a guard violation and occupies no cycle (03 R90, R114). -/
structure Span where
  stall : Nat
  sump : Nat
  len : Nat
  marks : Bool
  stops : Bool

/-- Does the routine run from the released library rather than from stored microwords (04 R440; log 14)? -/
def State.fromLib (s : State) (r : Running) : Bool := s.mseq.vendorLib && decide (r.entry.rtn < 512) && listed r.entry.rtn

/-- The next microword's plan. -/
def State.planOf (s : State) (r : Running) : Plan :=
  if s.fromLib r then .lib else .word (sget (fun _ => 0) s.mseq.cs r.next)

/-- The value that replaces an undefined P of a library microword. -/
def State.undPlane (s : State) (e : Entry) : Option Plane :=
  if libUndefined e.rtn e (libShape e.rtn e) then some (Config.freePlane s.free) else none

/-- The routine's next microword of the library, whether it is commit-marked, and whether it is the last. -/
def State.libNext (s : State) (r : Running) : MOp × Bool × Bool :=
  libOp r.entry.rtn r.entry r.edge r.phase r.todo (s.undPlane r.entry)

/-- The plane a stored microword writes. -/
def State.wordW (s : State) (r : Running) (m : Micro) : Nat :=
  planeAddr r.entry (mf m 59 58) (mf m 57 46) (m.getLsbD 60) (s.mseq.loop r.entry.urgent).lidx

/-- The guard violation of the routine's next microword; 0 none, and none in a vendor routine (03 R114). -/
def State.guardOf (s : State) (r : Running) (m : Micro) : Nat :=
  if 512 ≤ r.entry.rtn then guardKind m (s.wordW r m) (r.commitAt.isNone && !m.getLsbD 118) else 0

/-- The span of the next microword when it begins now. -/
def State.spanOf (s : State) (r : Running) : Span :=
  match s.planOf r with
  | .word m =>
    let o := opOf m r.entry (s.mseq.loop r.entry.urgent).lidx r.edge
    let (st, sw) := s.stallOf o r.last
    ⟨st, sw, o.dwell, m.getLsbD 118, illegalMicro m || s.guardOf r m != 0⟩
  | .lib =>
    let (o, marks, _) := s.libNext r
    let (st, sw) := s.stallOf o r.last
    ⟨st, sw, o.dwell, marks, false⟩

/-- The last array cycle the next microword occupies: its execute cycle. -/
def State.lastCycle (s : State) (r : Running) : Nat :=
  let p := s.spanOf r
  s.acyc + p.stall + p.len - 1

/-- The cycle at whose start the running normal routine is preempted, if its next microword would run past it (03 R108,
R120, R121). A microword that occupies no cycle is past it only where it would begin then. -/
def State.preemptAt (s : State) : Option Nat :=
  match s.mseq.run, s.urgentFrom with
  | some r, some c =>
    if r.entry.urgent || r.commitAt.isSome || !s.mayDispatch then none
    else
      let p := s.spanOf r
      if c ≤ (if p.marks || p.stops then s.acyc else s.lastCycle r) then some c else none
  | _, _ => none

/-- Would the next microword break the commit bound (03 R103)? One that occupies no cycle does not, unless the bound is
already past. -/
def State.overrunDue (s : State) (r : Running) : Bool :=
  let p := s.spanOf r
  let len := s.clen r.entry.rtn
  match r.commitAt, p.marks with
  | none, false => false
  | none, true => !p.stops && (len == 0 || decide (s.acyc + len ≤ s.lastCycle r))
  | some c, _ => decide (c + len ≤ (if p.stops then s.acyc else s.lastCycle r))

/-- Enter the commit phase where the microword is marked and the routine is not in it yet (03 R106). -/
def Running.mark (r : Running) (now : Nat) (marks : Bool) : Running :=
  { r with commitAt := match r.commitAt with
    | some c => some c
    | none => if marks then some now else none }

/-- The control-store address of the routine's next microword: of a library routine START, then addresses that the
firmware release sets (04 R440; log 14). -/
def State.addrOf (s : State) (r : Running) : Nat :=
  if s.fromLib r ∧ r.phase ≠ 0 then Config.libAddr r.entry.rtn r.phase % 8192 else r.next

/-- Show the next microword as broadcast (03 MSEQ_CUR). -/
def State.show (s : State) (r : Running) : State :=
  { s with mseq := { s.mseq with curRtn := r.entry.rtn, curAddr := s.addrOf r } }

/-- The next microword is cut off at cycle c, before it executes: the stall cycles it has occupied count, and it is the last
one broadcast where its dwell has begun (03 R98, R108, MSEQ_CUR; log 91). -/
def State.cutOff (s : State) (r : Running) (c : Nat) : State :=
  let p := s.spanOf r
  let n := c - s.acyc
  let s := s.countStalls (min n p.stall) (min n p.sump)
  if p.stall < n then s.show r else s

/-- A broadcast parity error in a field in array cycle cyc: fatal, and the routine in flight stays as it is (03 R118, R119). -/
def State.parityFatal (s : State) (r : Running) (x : MwEvents) (cyc : Nat) : State :=
  match x.parity with
  | some f => s.mseqFatal 2 f.val (s.addrOf r) r.entry.rtn cyc
  | none => s

/-- A microword o of routine r executes in cycle cyc: writes on their way commit, reads are checked, the lanes act but for
those of a field that saw bad parity (02 R40 to R61; 03 R118). Answers the state, the routine with its last contribution,
and whether the routine goes on: an uncorrectable read and a parity error leave it as it stands. -/
def State.execOp (s : State) (r : Running) (o : MOp) (x : MwEvents) : State × Running × Bool :=
  let p := s.spanOf r
  let cyc := s.lastCycle r
  let r := r.mark s.acyc p.marks
  let s := (s.countStalls p.stall p.sump).show r
  let s := (s.settle cyc).upset x.upset
  let (s, bad) := s.readCheck o.reads (o.allReads.drop o.reads.length) 0 cyc
  let skip := x.parity.map (·.val)
  if bad then
    let s := s.undefScratch true
    let s := match o.wr, o.swap with
      | none, none => s
      | some (w, _), _ => s.setWell w (Config.freePlane s.free)
      | _, some w => s.setWell w (Config.freePlane s.free)
    (({ s with mseq := { s.mseq with run := some r } }).parityFatal r x cyc, r, false)
  else
    let s := if o.swap.isSome then swapPumps s skip else s
    let (s, c) := s.lanes o r.entry.urgent cyc skip
    let r := { r with last := match c with
      | some c => some c
      | none => r.last }
    let s := { s with acyc := cyc + 1, mseq := { s.mseq with run := some r } }
    (s.parityFatal r x cyc, r, x.parity.isNone)

/-- Execute one stored microword of routine r (03 R87 to R98; 02 R40 to R61). -/
def State.runWord (s : State) (r : Running) (m : Micro) (x : MwEvents) : State :=
  let e := r.entry
  let l := s.mseq.loop e.urgent
  if illegalMicro m then s.mseqFatal 3 0 r.next e.rtn s.acyc
  else
    let kind := s.guardOf r m
    if kind ≠ 0 then s.guardEnd r kind r.next
    else
      let cyc := s.lastCycle r
      let tested := match r.last with
        | some c => c.or
        | none => false
      let (s, r, goes) := s.execOp r (opOf m e l.lidx r.edge) x
      if !goes then s
      else match lopStep m e l with
        | none => s.mseqFatal 4 0 r.next e.rtn cyc
        | some l => match seqStep m r.next tested l with
          | .fault => s.mseqFatal 4 0 r.next e.rtn cyc
          | .stop l => (s.setLoop e.urgent l).endRoutine r cyc
          | .goto a l =>
            let s := s.setLoop e.urgent l
            { s with mseq := { s.mseq with run := some { r with next := a } } }.addrBreak

/-- Execute one microword of the library (04 R133 to R141, R440, R441). -/
def State.runLib (s : State) (r : Running) (x : MwEvents) : State :=
  let e := r.entry
  let cyc := s.lastCycle r
  let und := if libUndefined e.rtn e (libShape e.rtn e) then some (s.free + 1) else none
  let r := if libResultsDue e.rtn e r.phase then { r with todo := libWrites e.rtn e (s.settle cyc).well und } else r
  let (o, _, last) := s.libNext r
  let (s, r, goes) := s.execOp r o x
  if !goes then s
  else
    let r := { r with phase := r.phase + 1, todo := r.todo.tail }
    let s := { s with free := s.free + 128, mseq := { s.mseq with run := some r } }
    if last then (s.undefScratch true).endRoutine r cyc else s.addrBreak

/-- The running routine's next step (03 R40): nothing runs while the microsequencer is down or stopped at a break, but
for the one microword of an MSTEP (16 R433), and a due preemption or commit overrun comes first. -/
def State.runStep (s : State) (x : MwEvents) : State :=
  match s.mseq.run with
  | none => s
  | some r =>
    if s.mseqDown || (s.mseq.brk.isSome && !s.dbg.mstep) || s.preemptAt.isSome || s.overrunDue r then s
    else
    let s : State := { s with dbg := { s.dbg with mstep := false } }
    if x.mismatch then s.mseqFatal 1 0 (s.addrOf r) r.entry.rtn s.acyc
    else match s.planOf r with
      | .word m => s.runWord r m x
      | .lib => s.runLib r x

/-- Is the next microword a plane-swap microword? -/
def State.swapNext (s : State) : Bool :=
  match s.mseq.run with
  | none => false
  | some r => match s.planOf r with
    | .word m => m.getLsbD 119
    | .lib => false

/-! ### Dispatch (03 R103 to R111) -/

/-- The head of a queue. -/
def Mseq.headOf (m : Mseq) (urgent : Bool) : Option Entry := (if urgent then m.uq else m.nq).head?

/-- Remove the head of a queue. -/
def State.dropHead (s : State) (urgent : Bool) : State :=
  { s with mseq := if urgent then { s.mseq with uq := s.mseq.uq.tail } else { s.mseq with nq := s.mseq.nq.tail } }

/-- Whose dispatch is prepared next: the urgent head, the restart slot, the normal head (03 R104, R111). -/
def State.candidate (s : State) : Option Prep :=
  if !s.mseq.uq.isEmpty then some (.head true)
  else if s.mseq.restart.isSome then some .restart
  else if !s.mseq.nq.isEmpty then some (.head false)
  else none

/-- Is the entry refused: VALID 0, or START outside its region (03 R103)? -/
def State.refused (s : State) (e : Entry) : Bool :=
  let w := s.rtabLo e.rtn
  let start := bits w.toNat 13 0
  !bit w 31 || (if e.rtn < 512 then decide (8192 ≤ start) else decide (start < 8192))

/-- The routine that a preparation names. -/
def State.prepEntry (s : State) : Prep → Option Entry
  | .restart => s.mseq.restart
  | .head u => s.mseq.headOf u

/-- Refuse a queue entry: removed, s register valid with 0, BADRTN, contained error 34 (03 R103). Its stream is idle from
the next array cycle at the earliest (05 R154). -/
def State.refuseEntry (s : State) (u : Bool) (e : Entry) : State :=
  let s := s.dropHead u
  let s := match e.sreg with
    | some r => s.sValid r e.issue 0
    | none => s
  let s := { s with sump := { s.sump with
    doneN := if u then s.sump.doneN else max s.sump.doneN s.acyc
    doneU := if u then max s.sump.doneU s.acyc else s.sump.doneU } }
  (s.setBit Reg.mseqStat 15).containedIn 34 s.acyc

/-- The first array cycle a prepared routine occupies, and the cycle from which its dispatch gap counts (03 R105). -/
def State.firstCycle (s : State) (e : Entry) (restart : Bool) : Nat × Nat :=
  let a := if restart then 0 else e.acc + 17
  let a1 := if restart then 0 else e.acc + 1
  let h := s.mseq.relH
  match s.mseq.lastP with
  | none => (max a (h + 16), max a1 h)
  | some (p, u) =>
    let same := u == e.urgent && !restart
    (max (p + if same then 1 else 17) (max a (h + 16)), max (p + 1) (max a1 h))

/-- Dispatch a prepared routine: accumulator and loop state cleared, edge mode taken, its entry leaves the queue or the
restart slot (02 R64, R78; 03 R93, R105). The gap's idle cycles count in MSEQ_BUBBLE; an array cycle that a field change took
in between does not (DESIGN CHOICE, log 93; 03 R113). -/
def State.dispatchEntry (s : State) (p : Prep) (e : Entry) : State :=
  let (f, from_) := s.firstCycle e (p == .restart)
  let (b, ov) := sat64 s.mseq.bubble (f - from_)
  let s := match p with
    | .restart => { s with mseq := { s.mseq with restart := none } }
    | .head u => s.dropHead u
  let r : Running := ⟨e, bits (s.rtabLo e.rtn).toNat 13 0, none, none, s.reg Reg.arrayEdge, 0, []⟩
  let s := { s with
    acyc := max s.acyc f
    arr := { s.arr with slackGaps := [] }
    sump := { s.sump with
      nacc := if e.urgent then s.sump.nacc else 0
      uacc := if e.urgent then 0 else s.sump.uacc }
    mseq := { s.mseq with run := some r, prep := none, bubble := b, curRtn := e.rtn } }
  let s := s.setLoop e.urgent LoopSt.reset
  let s := if ov then s.setBit Reg.mseqStat 19 else s
  let s := s.countWord Reg.mseqDispatch Reg.mseqStat 20 1
  match [0, 1].find? (fun n => let w := s.reg (Reg.dbgMbrkRtn + 4 * n)
      bit w 12 && bits w.toNat 9 0 == e.rtn && streamSel (bits w.toNat 11 10) e.urgent) with
  | some n => s.breakAt 1 n
  | none => s.addrBreak

/-- Cancel a preparation: the next one costs 16 cycles from cycle c (03 R105, R108, R120). -/
def State.cancelPrep (s : State) (c : Nat) : State :=
  if s.mseq.prep.isSome then { s with mseq := { s.mseq with prep := none, relH := max s.mseq.relH c } } else s

/-- Dispatch is released in the present cycle (03 R105, R120, R121). -/
def State.release (s : State) : State := { s with mseq := { s.mseq with relH := max s.mseq.relH s.acyc } }

/-- Cancel what is prepared for a hold. -/
def State.holdPrep (s : State) : State := { s with mseq := { s.mseq with prep := none } }

/-- Abandon the running normal routine at cycle c (03 R108, R109). -/
def State.abandon (s : State) (r : Running) (c : Nat) : State :=
  let s := (s.cutOff r c).undefScratch (s.fromLib r)
  let s := { s with
    acyc := max s.acyc c
    mseq := { s.mseq with run := none, restart := some r.entry, lastP := some (c - 1, false) } }
  (s.countWord Reg.mseqPreempt Reg.mseqStat 21 1)

end Sys2Proof.Machine
end

