-- ==== Sys2Proof/Machine/Array.lean ====
section
/-! DEFINITION. The commands of the array, the microsequencer and the sump (02; 03). -/
namespace Sys2Proof.Machine

/-- MICROWORD: the running routine's next microword (03 R40 in 02). -/
def execMicroword (x : MwEvents) (s : State) : Out := done s (s.runStep x)

/-- PLANE_SWAP: the next microword, where it is a plane-swap microword (02 R59). -/
def execPlaneSwap (x : MwEvents) (s : State) : Out := when s.swapNext s (fun s => s.runStep x)

/-- WELL_COMMIT: the oldest write on its way commits at the end of its E + 2 (02 R52). While a routine runs, that cycle has
come once its microwords have moved the clock past it; until then its next microword's reads wait for the write (02 R53). -/
def execWellCommit (s : State) : Out :=
  done s (match argMin (·.due) s.arr.flight with
    | none => s
    | some w =>
      if s.mseq.run.isNone || s.mseqDown || w.due < s.acyc then (s.settle (w.due + 1)).reach (w.due + 1) else s)

/-- The cycle in which a contribution's next result is available (02 R76). -/
def Contrib.due (c : Contrib) : Nat := if c.stage = 0 then c.exec + 12 else c.exec + 24

/-- Does the sump break of 16 R433 match an OR result? -/
def State.sumpBreak (s : State) (urgent or : Bool) : State :=
  let w := s.reg Reg.dbgMbrkSump
  if bit w 0 && streamSel (bits w.toNat 2 1) urgent && bit w 3 == or && s.mseq.brk.isNone then s.breakAt 3 0 else s

/-- The OR and tile-OR of a contribution are available (02 R76, R85). -/
def State.orResult (s : State) (c : Contrib) : State :=
  let fl := if c.op = 1 then s.sump.flight.filter (fun d => d.id != c.id)
    else s.sump.flight.map (fun d => if d.id == c.id then { d with stage := 1 } else d)
  ({ s with sump := { s.sump with tiles := c.tiles, flight := fl } }).sumpBreak c.urgent c.or

/-- The count or accumulator result of a contribution is available (02 R76, R78). -/
def State.countResult (s : State) (c : Contrib) : State :=
  let fl := s.sump.flight.filter (fun d => d.id != c.id)
  let su := { s.sump with flight := fl }
  let su := if c.op = 2 then { su with last := countForm 2 c.or c.count c.first }
    else if c.urgent then { su with uaccShown := c.acc } else { su with naccShown := c.acc }
  let s := { s with sump := su }
  if c.ovf then s.setBit Reg.sumpStat (if c.urgent then 1 else 0) else s

/-- SUMP_RESULT: the earliest result still due becomes available at the sump root; a parity error is fatal (02 R76 to
R81). -/
def execSumpResult (parity : Bool) (s : State) : Out :=
  done s (match argMin Contrib.due s.sump.flight with
    | none => s
    | some c =>
      let s := s.reach c.due
      let s := if parity then (s.setBit Reg.sumpStat 2).fatalIn 2 c.due else s
      if c.stage = 0 then s.orResult c else s.countResult c)

/-- TAP_COLLECT: the oldest result arrives at the edge-fabric boundary 14 cycles after its execute cycle and is
collected if TAP_EN is 1 (02 R82). -/
def execTapCollect (s : State) : Out :=
  done s (match s.sump.tapFlight with
    | [] => s
    | t :: l =>
      let s := s.reach (t.exec + 14)
      { s with sump := { s.sump with
          tapFlight := l
          collected := if bit (s.reg Reg.sumpCtl) 0 then s.sump.collected ++ [t] else s.sump.collected } })

/-- The stream selection of tile group g (02 R83). -/
def tapSrc (ctl : Word) (g : Nat) (urgent : Bool) : Bool :=
  match bits ctl.toNat (3 + 2 * g) (2 + 2 * g) with
  | 1 => !urgent
  | 2 => urgent
  | 3 => true
  | _ => false

/-- The mask of tile group g (02 R83). -/
def State.tgMask (s : State) (g : Nat) : BitVec 1024 :=
  (List.range 32).foldl (fun m w =>
    m ||| ((s.reg (Reg.sumpTgmask + 128 * g + 4 * w)).setWidth 1024 <<< (32 * w))) 0

/-- The outputs of a tap edge that covers these results (02 R82, R83). -/
def State.tapOf (s : State) (l : List TapItem) : Tap :=
  let ctl := s.reg Reg.sumpCtl
  let nl := l.filter (fun t => !t.urgent)
  let ul := l.filter (·.urgent)
  let sel (g : Nat) := l.filter (fun t => tapSrc ctl g t.urgent)
  { nv := !nl.isEmpty
    nor := nl.any (·.or)
    uv := !ul.isEmpty
    uor := ul.any (·.or)
    gv := [0, 1, 2, 3].any (fun g => !(sel g).isEmpty)
    g := [0, 1, 2, 3].foldl (fun v g =>
      if (sel g).any (fun t => t.tiles &&& s.tgMask g != 0) then v ||| (1#4 <<< g) else v) 0 }

/-- Has plane p been written by a microword with execute cycle c − 1 or c − 2 (02 R57)? -/
def State.scrubBlocked (s : State) (p c : Nat) : Bool :=
  s.arr.flight.any (fun w => w.scrub.isNone && w.plane == p && decide (c ≤ w.due))

/-- The first cycle at or after c that the plane written last does not hold back (02 R57). -/
def State.scrubFrom (s : State) (p c : Nat) : Nat :=
  if s.scrubBlocked p c then (if s.scrubBlocked p (c + 1) then c + 2 else c + 1) else c

/-- The cycle of the next scrub operation: one that slack self-test left, or in the idle array, or in the stall and dwell
cycles of the next step (02 R56 to R58; 15 R414). -/
def State.scrubCycle (s : State) : Option Nat :=
  match s.arr.slackGaps.find? (fun c => decide (s.arr.scrubNext ≤ c) && !s.scrubBlocked s.arr.scrubPlane c) with
  | some c => some c
  | none =>
    let c := s.scrubFrom s.arr.scrubPlane (max s.acyc s.arr.scrubNext)
    match s.mseq.run with
    | none => some c
    | some r => if c < s.lastCycle r then some c else none

/-- SCRUB_OPERATION: one plane of every live field is read; words with a single error are corrected and committed two
cycles later; a double error is fatal; a pass ends at plane 4,095 (02 R56). The scrubber works only while the array runs
and BCAST is on. -/
def execScrubOperation (upset : Option Upset) (s : State) : Out :=
  done s (match s.scrubCycle with
    | none => s
    | some c =>
      if !bit (s.reg Reg.arrayScrub) 0 || s.mseqDown || s.arr.live == 0 then s
      else
        let p := s.arr.scrubPlane
        let s := (s.settle c).upset upset
        let words := ((s.errsOf [p]).filter (fun e => !s.lostWord e)).map (fun e => (e.tile, e.seg))
        let (s, bad) := s.readCheck [p] [] 2 c
        let s := if words.isEmpty || bad then s else s.launch ⟨c + 2, p, 0, 0, false, false, some words⟩
        let s := { s with arr := { s.arr with
          scrubPlane := (p + 1) % 4096
          scrubNext := max (c + 1) (c + bits (s.reg Reg.arrayScrub).toNat 31 16)
          slackGaps := s.arr.slackGaps.filter (fun g => decide (c < g)) } }
        let s := if p = 4095 then s.countWord Reg.arrayScrubPasses Reg.arrayEccStat 26 1 else s
        s.reach (c + 1))

/-- DISPATCH_PREPARATION: the microsequencer begins to prepare the routine it will start next; a queue entry whose
table entry is not dispatchable is refused (03 R103, R104, R105). No preparation runs while one is in progress, while
dispatch is held, or while a field changes state (02 R72). -/
def execDispatchPreparation (s : State) : Out :=
  when (s.mayDispatch && s.mseq.prep.isNone) s (fun s =>
    match s.candidate with
    | none => s
    | some p => match p, s.prepEntry p with
      | .restart, _ => { s with mseq := { s.mseq with prep := some p } }
      | .head u, some e =>
        if s.refused e then s.refuseEntry u e else { s with mseq := { s.mseq with prep := some p } }
      | _, none => s)

/-- DISPATCH: the prepared routine occupies its first cycle (03 R105, R106, R111). It waits for the routine before it
and gives way to an urgent entry. -/
def execDispatch (s : State) : Out :=
  when (s.mayDispatch && s.mseq.run.isNone) s (fun s =>
    match s.mseq.prep with
    | none => s
    | some p => match s.prepEntry p with
      | none => s
      | some e =>
        let late : Bool := match s.urgentFrom with
          | some c => p != .head true && decide (c ≤ (s.firstCycle e (p == .restart)).1)
          | none => false
        if late then s else s.dispatchEntry p e)

/-- PREEMPTION: a waiting urgent entry abandons the running normal routine before its commit phase, and cancels the
preparation of any normal routine (03 R108 to R111). -/
def execPreemption (s : State) : Out :=
  done s (
    let normalPrep := s.mseq.prep == some .restart || s.mseq.prep == some (.head false)
    match s.mseq.run, s.preemptAt with
    | some r, some c => (if normalPrep then s.cancelPrep c else s).abandon r c
    | _, _ =>
      match s.urgentFrom with
      | some c => if normalPrep && s.mayDispatch then s.cancelPrep c else s
      | none => s)

/-- COMMIT_OVERRUN: the running routine's next microword would break its commit bound: fatal (03 R103). A routine with
CLEN 0 stops as it reaches its commit-marked microword; another one has used its CLEN cycles. The record names the microword
concerned (log 91). -/
def execCommitOverrun (s : State) : Out :=
  done s (match s.mseq.run with
    | none => s
    | some r =>
      if s.mseqDown || (s.mseq.brk.isSome && !s.dbg.mstep) || s.preemptAt.isSome || !s.overrunDue r then s
      else
        let len := s.clen r.entry.rtn
        let addr := s.addrOf r
        let s := { s with dbg := { s.dbg with mstep := false } }
        let s := if r.commitAt.isNone && len == 0 then s
          else
            let r' := r.mark s.acyc true
            let lim := match r'.commitAt with
              | some c => c + len
              | none => s.acyc
            { s.cutOff r lim with acyc := max s.acyc lim, mseq := { (s.cutOff r lim).mseq with run := some r' } }
        s.mseqFatal 5 0 addr r.entry.rtn s.acyc)

/-- Nothing stands in field f any more: wells, latches, stored errors, and what was on its way there (02 R71). -/
def State.clearField (s : State) (f : Nat) : State :=
  let keep (p : Plane) : Plane := p &&& ~~~(fieldMask f)
  { s with arr := { s.arr with
      wells := (s.arr.wells.map (·.1)).foldl (fun ws p => sset wellDefault ws p (keep (sget wellDefault ws p))) s.arr.wells
      cy := keep s.arr.cy, tg := keep s.arr.tg, lk := keep s.arr.lk
      an := keep s.arr.an, au := keep s.arr.au, io := keep s.arr.io
      errs := s.arr.errs.filter (fun e => fieldOfTile e.tile != f)
      flight := s.arr.flight.map (fun (w : WellWrite) => { w with mask := keep w.mask }) } }

/-- FIELD_CLEAR: a field switched on has set its latches and written every plane to 0 in 4,096 array cycles (02 R71). -/
def execFieldClear (f : Fin 16) (s : State) : Out :=
  when (s.arr.clearing.getLsbD f.val) s (fun s =>
    let b := 1#16 <<< f.val
    let t := s.clearField f.val
    ({ t with arr := { t.arr with
        clearing := s.arr.clearing &&& ~~~b
        cleared := s.arr.cleared ||| b } }).reach (s.acyc + 4096))

/-- May the microsequencer change a field now: no routine runs and the urgent queue is empty (03 R113)? -/
def State.fieldBoundary (s : State) : Bool := s.mseq.run.isNone && s.mseq.uq.isEmpty

/-- FIELD_LIVE: a cleared (or woken) field becomes live at a routine boundary, in one array cycle (02 R71; 03 R113). A field
to which the broadcast tree or its own path does not reach stays dry (01 R18). -/
def execFieldLive (f : Fin 16) (s : State) : Out :=
  when (s.arr.cleared.getLsbD f.val && s.fieldBoundary && s.mode != .faultHold && s.pwr.bcast &&
      !s.arr.pathBad.getLsbD f.val) s (fun s =>
    let b := 1#16 <<< f.val
    { s with
      acyc := s.acyc + 1
      arr := { s.arr with live := s.arr.live ||| b, cleared := s.arr.cleared &&& ~~~b } })

/-- The injections of a field's tiles are cancelled (02 R86). -/
def Arr.cancelInj (a : Arr) (f : Nat) : Arr := { a with inj := a.inj.filter (fun i => fieldOfTile i.1 != f) }

/-- Every write on its way commits; each stays listed, with no lane left to write, for the interlocks (02 R53). -/
def State.commitAll (s : State) : State :=
  let t := s.settleFrom (s.acyc + 3) s.arr.flight
  { t with arr := { t.arr with flight := t.arr.flight.map (fun (w : WellWrite) => { w with mask := 0 }) } }

/-- FIELD_DRY: a field whose domain is to be switched off or to retention leaves the array at a routine boundary, in
one array cycle; its pump ends its descriptor with status 2 (02 R72 to R74, R86; 03 R113; 06 R193). -/
def execFieldDry (f : Fin 16) (s : State) : Out :=
  when (s.arr.live.getLsbD f.val && s.fieldBoundary && s.mode != .faultHold &&
      (s.pwr.chg.any (fun p => p.1 == f.val && p.2 != .on))) s (fun s =>
    let b := 1#16 <<< f.val
    let s := s.commitAll
    let p := s.pump[f]
    let p := if p.desc.isSome && p.result.isNone then { p with st := .shift, result := some 2 } else p
    { s with
      acyc := s.acyc + 1
      pump := vset s.pump f p
      arr := ({ s.arr with live := s.arr.live &&& ~~~b }).cancelInj f.val })

/-- A write of the control-store window, already admitted (03 R101): lower words are staged, the top word stores the
microword when its parity holds. -/
def State.storeWord (s : State) (off : Nat) (v : Word) : State :=
  let n := off / 16
  let w := off % 16 / 4
  let stage := if s.mseq.stageAddr = some n then s.mseq.stage else []
  if w < 3 then
    { s with mseq := { s.mseq with stageAddr := some n, stage := stage.filter (·.1 != w) ++ [(w, v)] } }
  else
    let old := sget (fun _ => 0) s.mseq.cs n
    let part (i : Nat) : Nat :=
      match stage.find? (·.1 == i) with
      | some x => x.2.toNat
      | none => bits old.toNat (32 * i + 31) (32 * i)
    let m : Micro := BitVec.ofNat 128 (part 0 + 2 ^ 32 * part 1 + 2 ^ 64 * part 2 + 2 ^ 96 * v.toNat)
    let s := { s with mseq := { s.mseq with stageAddr := none, stage := [] } }
    if parityOk m then
      { s with mseq := { s.mseq with
          cs := sset (fun _ => 0) s.mseq.cs n m
          vendorLib := s.mseq.vendorLib && decide (8192 ≤ n) } }
    else s.setBit Reg.mseqStat 16

/-- A 32-bit or 64-bit write of the control-store window (03 R101). -/
def State.storeWrite (s : State) (off len v : Nat) : State :=
  if len = 8 then (s.storeWord off (BitVec.ofNat 32 v)).storeWord (off + 4) (BitVec.ofNat 32 (v / 2 ^ 32))
  else s.storeWord off (BitVec.ofNat 32 v)

/-- CONTROL_STORE_WRITE (03 R100, R101): a refused store also empties the staging buffer. -/
def execControlStoreWrite (q : Requester) (off : BitVec 18) (wide : Bool) (v : Dbl) (s : State) : Out :=
  when s.alive s (fun s =>
    let len := if wide then 8 else 4
    let a := 0x30000000 + off.toNat
    let code := accessCode s q true a len
    if code = 0 then s.storeWrite off.toNat len v.toNat else refuse s q true a code)

/-- Set or clear DISP_EN: setting it releases dispatch, clearing it cancels a preparation (03 R105, R121). -/
def State.setDispEn (s : State) (on : Bool) : State :=
  let was := s.mseq.dispEn
  let s := { s with mseq := { s.mseq with dispEn := on } }
  if on && !was then s.release else if on then s else s.holdPrep

/-- DISP_EN: a write of MSEQ_CTL (03 R121, R439). -/
def execDispEn (q : Requester) (on : Bool) (s : State) : Out :=
  done s (regWrite q Reg.mseqCtl s (fun s => s.setDispEn on))

/-- ENTRY_ACCEPTED: the oldest reserved entry enters its queue (05 R148, R150). -/
def execEntryAccepted (s : State) : Out :=
  when (s.mode != .faultHold) s (fun s =>
    match s.mseq.accept with
    | [] => s
    | e :: l =>
      let s := s.reach e.acc
      { s with mseq := { s.mseq with
          accept := l
          uq := if e.urgent then s.mseq.uq ++ [e] else s.mseq.uq
          nq := if e.urgent then s.mseq.nq else s.mseq.nq ++ [e] } })

/-! ### Repair overlay (02 R69) -/

/-- The map value that counts: 9 to 14 are treated as 15 (02 R66). -/
def mapValue (v : BitVec 4) : BitVec 4 := if 9 ≤ v.toNat then 15 else v

/-- What a write of ARRAY_OVL_CMD does: exactly one of ADD (0), LOG (1), CLEAR (2), and nothing while BUSY is 1; the log
takes 1,000 appends, the overlay 256 entries (02 R69). -/
def State.ovlCmd (s : State) (v : Nat) : State :=
  let err (s : State) := s.setBit Reg.arrayRepairStat 3
  let w := s.reg Reg.arrayOvlRow
  let row := bits w.toNat 18 0
  let val : BitVec 4 := BitVec.ofNat 4 (bits w.toNat 23 20)
  if s.arr.logging.isSome then (if v % 8 = 0 then s else err s)
  else match v % 8 with
    | 0 => s
    | 1 =>
      if s.arr.overlay.any (·.1 == row) || decide (s.arr.overlay.length < 256) then
        { s with arr := { s.arr with overlay := (s.arr.overlay.filter (·.1 != row)) ++ [(row, val)] } }
      else err s
    | 2 => if 1000 ≤ s.wh.flash.log.length then err s else { s with arr := { s.arr with logging := some (row, val) } }
    | 4 => { s with arr := { s.arr with overlay := [] } }
    | _ => err s

/-- OVL_ADD (02 R69, R70). -/
def execOvlAdd (q : Requester) (s : State) : Out := done s (regWrite q Reg.arrayOvlCmd s (fun s => s.ovlCmd 1))

/-- OVL_LOG (02 R69, R70). -/
def execOvlLog (q : Requester) (s : State) : Out := done s (regWrite q Reg.arrayOvlCmd s (fun s => s.ovlCmd 2))

/-- OVL_CLEAR (02 R69, R70). -/
def execOvlClear (q : Requester) (s : State) : Out := done s (regWrite q Reg.arrayOvlCmd s (fun s => s.ovlCmd 4))

/-- LOG_APPEND_COMPLETE: the append to the flash repair log ends (02 R69). -/
def execLogAppendComplete (s : State) : Out :=
  done s (match s.arr.logging with
    | none => s
    | some e => { s with
        arr := { s.arr with logging := none }
        wh := { s.wh with flash := { s.wh.flash with log := s.wh.flash.log ++ [e] } } })

/-! ### Tile registers (02 R31, R86) -/

/-- A write of TILE_CTL[t]: SUMP_EXCL is stored; INJ 1 or 2 is accepted in Ready and Self-test; a dry field's tile
ignores it (01 R31; 02 R86). INJ 0 or 3 leaves a pending injection as it is: the manual does not say whether 0 withdraws it
(DESIGN CHOICE, log 93). -/
def State.tileCtlWrite (s : State) (t : Nat) (v : Word) : State :=
  if !s.tileLive t then s
  else
    let m := 1#1024 <<< t
    let excl := if bit v 0 then s.arr.excl ||| m else s.arr.excl &&& ~~~m
    let k := bits v.toNat 2 1
    let ok := (s.mode == .ready || s.mode == .selfTest) && (k == 1 || k == 2)
    let inj := if ok then (s.arr.inj.filter (·.1 != t)) ++ [(t, k)] else s.arr.inj
    { s with arr := { s.arr with excl := excl, inj := inj } }

/-- TILE_CTL_INJ: a write of TILE_CTL[t] (02 R86, R438). -/
def execTileCtlInj (q : Requester) (t : Fin 1024) (v : Word) (s : State) : Out :=
  done s (regWrite q (Reg.tileCtl + 16 * t.val) s (fun s => s.tileCtlWrite t.val v))

/-- A read of SUMP_TILEOR[0] takes the snapshot; a quiet one takes the debugger's (02 R85). -/
def State.tileSnap (s : State) (quiet : Bool) : State :=
  { s with sump := if quiet then { s.sump with dbgSnap := s.sump.tiles } else { s.sump with snap := s.sump.tiles } }

/-- TILEOR_SNAPSHOT (02 R85). -/
def execTileorSnapshot (q : Requester) (s : State) : Out :=
  when s.alive s (fun s =>
    let code := accessCode s q false Reg.sumpTileor 4
    if code = 0 then s.tileSnap q.quiet else refuse s q false Reg.sumpTileor code)

end Sys2Proof.Machine
end

