-- ==== Sys2Proof/Machine/EdgeCells.lean ====
section
/-! DEFINITION. The cells, wires, global nets and clock trees of the edge fabric, its user pins, and the rising edges of its
trees, which the sump tap shares (07 R195 to R201, R211, R217 to R223; 02 R82). What LOGIC and HARD payloads mean is the
Benay tools' (R207), so a design's own values come from Config (log 55). -/
namespace Sys2Proof.Machine

/-! ### The grid (07 R195, R197) -/

/-- The block (bx, by) of a cell. -/
def cellBlock (n : Nat) : Nat × Nat := (n / 8 % 64, n / 512)

/-- The bay of a block column (07 R195). -/
def bayOfColumn (col : Nat) : Nat := col / 8

/-- A step of n blocks from coordinate x, ending at the edge block (07 R197). -/
def blockStep (up : Bool) (n x : Nat) : Nat := if up then min (x + n) 63 else x - n

/-- Where a wire ends (07 R197). -/
def wireEnd (w : Wire) : Nat × Nat :=
  match w.dir with
  | .east => (blockStep true w.len w.col, w.row)
  | .west => (blockStep false w.len w.col, w.row)
  | .north => (w.col, blockStep false w.len w.row)
  | .south => (w.col, blockStep true w.len w.row)

/-- How many wires of this direction and length start at a block (07 R197). -/
def wiresAt (dir : Heading) (len col row : Nat) : Nat :=
  let along := match dir with
    | .east | .west => col
    | _ => row
  if len = 1 then 32 else if len = 4 then 4 else if len = 16 ∧ along % 2 = 0 then 1 else 0

/-- The wires of a direction and length that start in the block's row or column. -/
def wiresAlong (dir : Heading) (len col row : Nat) : List Wire :=
  (List.range 64).flatMap (fun j =>
    let at_ : Nat × Nat := match dir with
      | .east | .west => (j, row)
      | _ => (col, j)
    (List.range (wiresAt dir len at_.1 at_.2)).map (fun i => ⟨dir, len, at_.1, at_.2, i⟩))

/-- The wires that end at a block (07 R197). -/
def wiresEnding (col row : Nat) : List Wire :=
  ([Heading.east, .west, .north, .south].flatMap (fun d => [1, 4, 16].flatMap (fun l => wiresAlong d l col row))).filter
    (fun w => wireEnd w == (col, row))

/-- The sources of a cell's input multiplexer: the wires that end at the block, its eight cells, the constants
(07 R196). -/
def cellSources (n : Nat) : List EdgeNet :=
  let (col, row) := cellBlock n
  (wiresEnding col row).map .wire ++ (List.range 8).map (fun i => .cell (n / 8 * 8 + i)) ++ [.zero, .one]

/-- The bay of a hard block's signal; none: the spine, at every bay (07 R217). -/
def hardBay : HardIn → Option Nat
  | .rxData l _ | .rxValid l | .rxMbstart l | .rxErr l | .txMbstart l => some (l.val / 2)
  | .cwRdy p | .cwDone p | .cwErr p | .crRdy p | .crData p _ | .crDvalid p | .crErr p => some p.val
  | .pin i => some (i.val / 6)
  | .serial _ _ | .serialOe _ _ => some 0
  | _ => none

/-- Is a source at hand at the start of a wire: a wire that ends at its block, a cell of it, a hard block's signal of the
bay or of the spine, whose GEN nets are there too (07 R197, R217)? -/
def atStart (w : Wire) : EdgeNet → Bool
  | .wire v => wireEnd v == (w.col, w.row)
  | .cell n => cellBlock n == (w.col, w.row)
  | .hard h => match hardBay h with
    | some b => b == bayOfColumn w.col
    | none => w.row == 0
  | .gen _ => w.row == 0
  | _ => true

/-- The sources of the multiplexer at a wire's start. -/
def wireSources (w : Wire) : List EdgeNet := (Config.wireSrc w).filter (atStart w)

/-- The source that a select names: 0 and a value beyond the sources drive constant 0 (07 R198). -/
def muxPick (sel : Nat) (l : List EdgeNet) : EdgeNet := if sel = 0 then .zero else (l[sel - 1]?).getD .zero

/-! ### Clock trees (07 R199, R211) -/

/-- The design's outputs act: RUNNING, and not in Fault-hold (07 R211; 14 R382). -/
def State.edgeActs (s : State) : Bool := s.edge.st == .running && s.mode != .faultHold

/-- The divider of a tree's source code: 1 to 4 are DEVCLK ÷ 1, 2, 4 and 8 (07 R199). -/
def treeDivider (code : Nat) : Option Nat := if 1 ≤ code ∧ code ≤ 4 then some (2 ^ (code - 1)) else none

/-- Does clock tree n run: the gates are open, it has a source that is present, and it was not found above 520 MHz
(07 R199, R211)? -/
def State.treeRuns (s : State) (n : Fin 4) : Bool :=
  let code := (Config.treeCode s.edge.frames n).val
  s.edgeActs && code != 0 && !bit (s.reg Reg.edgeStat) (16 + n.val) && !((treeDivider code).isSome && s.wh.devLost)

/-! ### Signals to the fabric (07 R217 to R222) -/

/-- The enabled receive link that holds lane l. -/
def State.rxLinkOf (s : State) (l : Nat) : Option (Fin 4) :=
  (List.finRange 4).find? (fun k => s.jesd.rxEn.getLsbD k.val &&
    (let w := (s.reg (Reg.jesdRxcfg + 4 * k.val)).toNat
     decide (bits w 3 0 ≤ l) && decide (l ≤ bits w 3 0 + bits w 6 4)))

/-- Is RX_VALID of lane l 1: its link is in data (08 R230)? -/
def State.rxValid (s : State) (l : Nat) : Bool := match s.rxLinkOf l with
  | some k => s.jesd.rxSt[k] == 3
  | none => false

/-- The word at a receive lane interface. -/
def State.rxNow (s : State) (l : Fin 16) : LaneWord := (s.jesd.rxWord[l]).headD ⟨0, false, false⟩

/-- Is a tick or frame pulse that began in cycle c at 1 in the present DEVCLK cycle (07 R221)? -/
def State.pulseOn (s : State) (c : Nat) : Bool :=
  s.tick.run && decide (c ≤ s.dcyc) && decide (s.dcyc < c + s.tick.pulseLen)

/-- A line of a serial controller while nothing is transferred: TXD at 1, SCL and SDA released, SCLK at CPOL, CS_N at 1.
During a transfer CS_N is low on the lines that CS names; the other lines move with the bits (07 R222). -/
def State.serLine (s : State) (c : Fin 5) (i : Fin 6) : Bool :=
  let ctl := s.reg (Reg.edgeSerCtl + 16 * c.val)
  let busy := bit ctl 0 && !(s.edge.ser[c]).tx.isEmpty
  if c.val = 4 ∧ 2 ≤ i.val then !(busy && bit ctl (18 + i.val))
  else if busy then Config.hardNow s.free (.serial c i)
  else if c.val = 4 then (if i.val = 0 then bit ctl 2 else Config.hardNow s.free (.serial c i))
  else true

/-- The output enable of a serial line: an open-drain line drives only low (07 R222). -/
def State.serEnable (s : State) (c : Fin 5) (i : Fin 6) : Bool :=
  if c.val = 2 ∨ c.val = 3 then !s.serLine c i else Config.hardNow s.free (.serialOe c i)

/-- A signal to the fabric (07 R217 to R223). -/
def State.hardIn (s : State) (h : HardIn) : Bool :=
  match h with
  | .rxData l i => (s.rxNow l).data.getLsbD i.val
  | .rxValid l => s.rxValid l.val
  | .rxMbstart l => (s.rxNow l).mbstart
  | .rxErr l => (s.rxNow l).err
  | .vtOpen => s.valve.open_
  | .vtGrant k => (s.valve.link[k]).granting && s.valve.open_
  | .vtSupp k => (s.valve.link[k]).suppAt == some s.dcyc
  | .vtClip k => (s.valve.link[k]).clipAt == some s.dcyc
  | .cwRdy p => decide ((s.cist.cw[p]).length < 16)
  | .tapNv => s.sump.tap.nv
  | .tapNor => s.sump.tap.nor
  | .tapUv => s.sump.tap.uv
  | .tapUor => s.sump.tap.uor
  | .tapGv => s.sump.tap.gv
  | .tapG g => s.sump.tap.g.getLsbD g.val
  | .tickP => s.pulseOn s.tick.pulse
  | .frameP => s.pulseOn s.tick.framePulse
  | .serial c i => s.serLine c i
  | .serialOe c i => s.serEnable c i
  | .pin i => s.edge.pinIn.getLsbD i.val
  | h => Config.hardNow s.free h

/-! ### Values of nets (07 R196, R198, R201) -/

/-- The look-up table's output for its inputs (07 R196). -/
def lutOut (t : BitVec 16) (i0 i1 i2 i3 : Bool) : Bool :=
  t.getLsbD (8 * b2n i3 + 4 * b2n i2 + 2 * b2n i1 + b2n i0)

/-- The value of a net. Every net lies at most fuel multiplexers and cells behind its flip-flops and hard blocks, unless it
hangs on a combinational loop, whose value is undefined (07 R198). A wire that leaves an isolated bay is held at 0
(07 R215). -/
def State.netVal (s : State) : Nat → EdgeNet → Bool
  | 0, x => Config.edgeLoop s.free x
  | _ + 1, .zero => false
  | _ + 1, .one => true
  | _ + 1, .hard h => s.hardIn h
  | k + 1, .gen n => match Config.genSrc s.edge.frames n with
    | .gnet => bit (s.reg Reg.edgeGnet) n.val
    | .cell c => s.netVal k (.cell c)
    | .tick => s.hardIn .tickP
    | .frame => s.hardIn .frameP
  | k + 1, .wire w =>
    if s.edge.isolated.getLsbD (bayOfColumn w.col) && bayOfColumn w.col != bayOfColumn (wireEnd w).1 then false
    else s.netVal k (muxPick (Config.wireSel s.edge.frames w) (wireSources w))
  | k + 1, .cell n =>
    let c := Config.cellCfg s.edge.frames n
    if c.reg then s.edge.ff.getLsbD n
    else
      let i (j : Fin 4) := s.netVal k (muxPick (c.sel j) (cellSources n))
      lutOut c.lut (i 0) (i 1) (i 2) (i 3)

/-- More multiplexers and cells than the fabric has: 4,096 blocks with 148 wires and 8 cells at most. -/
def edgeDepth : Nat := 700000

/-- The value of a net in the present moment. -/
def State.net (s : State) (x : EdgeNet) : Bool := s.netVal edgeDepth x

/-- Input j of cell n (07 R196). -/
def State.cellIn (s : State) (n : Nat) (j : Fin 4) : Bool :=
  s.net (muxPick ((Config.cellCfg s.edge.frames n).sel j) (cellSources n))

/-- What the flip-flop of cell n takes at a rising edge of its tree: its initial value on reset, else D where it is
enabled. Whether the reset needs the enable the manual does not say; it does not here (DESIGN CHOICE, log 55). -/
def State.ffNext (s : State) (n : Nat) : Bool :=
  let c := Config.cellCfg s.edge.frames n
  let d := if c.direct then s.cellIn n 3 else lutOut c.lut (s.cellIn n 0) (s.cellIn n 1) (s.cellIn n 2) (s.cellIn n 3)
  let en : Bool := match c.ce.val with
    | 0 => true
    | 1 => s.net (.gen 0)
    | 2 => s.net (.gen 1)
    | 3 => s.net (.gen 2)
    | 4 => s.net (.gen 3)
    | _ => s.cellIn n 2
  let rst : Bool := match c.rst with
    | some g => s.net (.gen g)
    | none => false
  if rst then c.init else if en then d else s.edge.ff.getLsbD n

/-- The flip-flops with those of the bays of a mask at their initial values (07 R196, R211, R215). -/
def State.ffInit (s : State) (bays : BitVec 8) : BitVec 32768 :=
  BitVec.ofFnLE (fun n : Fin 32768 =>
    if bays.getLsbD (bayOfColumn (cellBlock n.val).1) then (Config.cellCfg s.edge.frames n.val).init
    else s.edge.ff.getLsbD n.val)

/-- Place every flip-flop of these bays at its initial value. -/
def State.edgeInit (s : State) (bays : BitVec 8) : State := { s with edge := { s.edge with ff := s.ffInit bays } }

/-! ### Inactive outputs (07 R211, R214, R216) -/

/-- VT_BURST is 0 on these transmit links: a request in progress is over (07 R211, R216). -/
def State.burstsEnd (s : State) (p : Fin 4 → Bool) : State :=
  { s with valve := { s.valve with link := Vector.ofFn (fun k : Fin 4 =>
      if p k then { s.valve.link[k] with req := false, granting := false } else s.valve.link[k]) } }

/-- The cistern port accesses that these bays have had accepted complete, and their completions are discarded (07 R214,
R216). -/
def State.dropPorts (s : State) (bays : BitVec 8) : State :=
  { s with cist := { s.cist with
      cw := Vector.ofFn (fun p : Fin 8 =>
        if bays.getLsbD p.val then s.cist.cw[p].map (fun e => { e with lost := true }) else s.cist.cw[p])
      cr := Vector.ofFn (fun p : Fin 8 =>
        if bays.getLsbD p.val then s.cist.cr[p].map (fun e => { e with lost := true }) else s.cist.cr[p]) } }

/-! ### User pins (07 R206, R211, R223) -/

/-- What a user pin does: driven to a level, or not, with the weak pull of its quiet state. -/
inductive PinState where
  | drive (level : Bool) | pullDown | pullUp | float
  deriving DecidableEq, Repr

/-- A quiet code (07 R206). -/
def quietPin (c : Nat) : PinState :=
  match c with
  | 1 => .drive false
  | 2 => .drive true
  | 3 => .pullUp
  | _ => .pullDown

/-- User pin i: as the design drives it while the fabric runs and its bay is not isolated, else quiet (07 R211, R215;
14 R382). -/
def State.userPin (s : State) (i : Fin 48) : PinState :=
  let b : Fin 8 := ⟨i.val / 6, by omega⟩
  if s.edgeActs && !s.edge.isolated.getLsbD b.val then
    (if s.net (Config.pinNet s.edge.frames (.enable i)) then .drive (s.net (Config.pinNet s.edge.frames (.level i)))
    else .float)
  else quietPin (bits (s.edge.quiet[b]).toNat (2 * (i.val % 6) + 1) (2 * (i.val % 6)))

/-! ### A rising edge of clock trees -/

/-- The flip-flops after a rising edge of these trees: those clocked by them in bays that are not isolated act
(07 R196, R215). -/
def State.ffEdge (s : State) (trees : BitVec 4) : BitVec 32768 :=
  BitVec.ofFnLE (fun n : Fin 32768 =>
    if trees.getLsbD (Config.cellCfg s.edge.frames n.val).clk.val &&
      !s.edge.isolated.getLsbD (bayOfColumn (cellBlock n.val).1) then s.ffNext n.val
    else s.edge.ff.getLsbD n.val)

/-- The sump tap at a rising edge of its clock: every collected result the synchroniser has passed is presented: all that
saw an edge before, and of the others those whose bit of passed is 1, in the order of arrival (02 R82). -/
def State.tapEdge (s : State) (passed : Nat) : State :=
  let old := s.sump.collected.filter (fun t => t.age != 0)
  let new := (s.sump.collected.filter (fun t => t.age == 0)).zipIdx
  let out := old ++ (new.filter (fun t => passed.testBit t.2)).map (·.1)
  let rest := (new.filter (fun t => !passed.testBit t.2)).map (fun t => { t.1 with age := 1 })
  let tap := if bit (s.reg Reg.sumpCtl) 0 then s.tapOf out else Tap.off
  { s with sump := { s.sump with collected := rest, tap := tap } }

/-- TAP_CLOCK_EDGE: the trees named rise together, the user pins standing at these levels: the flip-flops they clock act, a
receive link clock moves the lane words on, and where the tap clock is among them the tap presents its results (02 R82; 07
R196, R199). A gated tree has no edge (07 R211; 14 R382). -/
def execTapClockEdge (passed : Nat) (trees : BitVec 4) (pins : BitVec 48) (s : State) : Out :=
  when s.edgeActs s (fun s =>
    let s := { s with edge := { s.edge with pinIn := pins } }
    let runs : BitVec 4 := (List.finRange 4).foldl (fun m n => if s.treeRuns n then m ||| (1#4 <<< n.val) else m) 0
    let up := trees &&& runs
    let tapped := up.getLsbD (Config.tapTree s.edge.frames).val
    let lanes := (List.finRange 4).any (fun n => up.getLsbD n.val && (Config.treeCode s.edge.frames n).val == 5)
    let ff := s.ffEdge up
    let s := { s with
      free := s.free + 1
      edge := { s.edge with ff := ff }
      jesd := if lanes then { s.jesd with rxWord := s.jesd.rxWord.map List.tail } else s.jesd }
    if tapped then s.tapEdge passed else s)

end Sys2Proof.Machine
end

