-- ==== Sys2Proof/Machine/Edge.lean ====
section
/-! DEFINITION. The edge fabric: configuration engine, start and stop, bay reload, serial controllers (07). -/
namespace Sys2Proof.Machine

/-! ### CRC-32 (07 R202) -/

/-- Eight steps of the reflected CRC-32 over one byte. -/
def crcByte (c : Word) (b : Byte) : Word :=
  (List.range 8).foldl (fun (c : Word) _ => if c.getLsbD 0 then (c >>> 1) ^^^ 0xEDB88320#32 else c >>> 1) (c ^^^ b.setWidth 32)

/-- The CRC of a byte list from a running value (not yet inverted). -/
def crcBytes (c : Word) (l : List Byte) : Word := l.foldl crcByte c

/-- Byte i of a frame. -/
def frameByte (f : BitVec 2048) (i : Nat) : Byte := (f >>> (8 * i)).setWidth 8

/-- n bytes of a frame from byte i, little-endian. -/
def frameNat (f : BitVec 2048) (i n : Nat) : Nat := bits f.toNat (8 * i + 8 * n - 1) (8 * i)

/-- The CRC in bytes 252 to 255 is that of bytes 0 to 251 (07 R202). -/
def frameCrcOk (f : BitVec 2048) : Bool :=
  (crcBytes 0xFFFFFFFF ((List.range 252).map (frameByte f)) ^^^ 0xFFFFFFFF).toNat == frameNat f 252 4

/-! ### Frames and their order (07 R203, R204) -/

/-- Frames of an image. -/
def imageLen (reload : Bool) : Nat := if reload then 699 else 5616

/-- The header word without SEQ that position n of a bay's 696 frames must carry: bay HARD, then LOGIC. -/
def bayWord (bay n : Nat) : Nat :=
  if n < 56 then 4 + 16 * bay + 2 ^ 11 * n
  else 3 + 16 * bay + 2 ^ 8 * ((n - 56) / 80) + 2 ^ 11 * ((n - 56) % 80)

/-- The header word without SEQ that position n of an image must carry (07 R203, R204). -/
def orderWord (reload : Bool) (bay n : Nat) : Nat :=
  if n = 0 then 1
  else if n + 1 = imageLen reload then 5
  else if reload then (if n = 1 then 2 + 16 * bay else bayWord bay (n - 2))
  else if n < 9 then 2 + 16 * (n - 1)
  else if n < 47 then 4 + 2 ^ 7 + 2 ^ 11 * (n - 9)
  else bayWord ((n - 47) / 696) ((n - 47) % 696)

/-- The position in the full image where a frame of an image is kept. -/
def keepAt (reload : Bool) (bay n : Nat) : Nat :=
  if !reload then n else if n = 1 then 1 + bay else 47 + 696 * bay + (n - 2)

/-- No frame is loaded. -/
def noFrame (_ : Nat) : BitVec 2048 := 0

/-! ### The engine (07 R208 to R216) -/

/-- Record a failure kind and SEQ, with EDGE_STAT.CFG_ERR (07 R208). -/
def State.edgeErr (s : State) (kind seq : Nat) : State :=
  ((s.setFld Reg.edgeCfgErr 3 0 kind).setFld Reg.edgeCfgErr 17 4 seq).setBit Reg.edgeStat 20

/-- A refused command: kind 8, SEQ 0 (07 R208). -/
def State.edgeRefuse (s : State) : State := s.edgeErr 8 0

/-- Stop a running fabric: trees gated, outputs inactive, completions of accepted port accesses discarded, every flip-flop
at its initial value, the valve closing; a pending start is cancelled and an isolation ends (07 R214, R216; a reload in
progress ends with it, log 17). -/
def State.edgeHalt (s : State) : State :=
  let s := { s with edge := { s.edge with startPend := none, load := none, isolated := 0, bayDead := 0 } }
  if s.edge.st = .running then
    let t := ((s.edgeInit 0xFF).dropPorts 0xFF).burstsEnd (fun _ => true)
    { t.closing with edge := { t.edge with st := .loaded } }
  else s

/-- The image address in force: bits [5:0] and [63:48] do not count (log 17). -/
def State.edgeSrc (s : State) : Nat :=
  ((s.reg Reg.edgeCfgAddrLo).toNat / 64 * 64) + 2 ^ 32 * bits (s.reg Reg.edgeCfgAddrHi).toNat 15 0

/-- LOAD (07 R212). An engine without power does nothing (14 R386). -/
def State.edgeLoad (s : State) : State :=
  if !s.pwr.edgeOn then s
  else if s.edge.st == .unloaded || s.edge.st == .loaded || (s.edge.st == .running && !s.running) then
    let s := s.edgeHalt
    { s with edge := { s.edge with
        st := .loading
        load := some ⟨false, 0, s.edgeSrc, 0, false, 0, 0xFFFFFFFF, 0, 0, none⟩ } }
  else s.edgeRefuse

/-- RELOAD of bay b (07 R215). -/
def State.edgeReload (s : State) (b : Fin 8) (atTick : Bool) (src : Nat) : State :=
  if s.edge.st == .running && s.edge.load.isNone then
    { s with edge := { s.edge with load := some ⟨true, b, src, 0, atTick, 0, 0xFFFFFFFF, 0, 0, none⟩ } }
  else s.edgeRefuse

/-- START (07 R213). -/
def State.edgeStart (s : State) (atTick : Bool) : State :=
  if s.edge.st == .loaded && s.edge.startPend.isNone then
    { s with edge := { s.edge with startPend := some (atTick, s.dcyc + 8, none) } }
  else s.edgeRefuse

/-- STOP (07 R214). -/
def State.edgeStop (s : State) : State :=
  if s.edge.st == .loaded || s.edge.st == .running then
    (if s.edge.st == .running then s.edgeHalt else { s with edge := { s.edge with startPend := none } })
  else s.edgeRefuse

/-- The fabric is UNLOADED: its flip-flops are undefined (07 R211; log 55). -/
def State.edgeLost (s : State) : State :=
  { s with free := s.free + 1, edge := { s.edge with st := .unloaded, ff := Config.freeFf s.free } }

/-- Switching the EDGE domain off loses everything (07 R206, R211, R214). -/
def State.edgeUnload (s : State) : State :=
  let s := s.edgeHalt.edgeLost
  { s with edge := { s.edge with frames := [], quiet := Vector.replicate 8 0 } }

/-- A load or reload fails: kind, SEQ; a full load leaves the fabric unloaded, a reload past its isolation leaves the
bay isolated and dead; command-core line 2 (07 R208, R211, R216; 09 R276). -/
def State.edgeFail (s : State) (l : EdgeLoad) (kind : Nat) : State :=
  let s := (s.edgeErr kind l.seq).irq .cmd 2
  let s := { s with edge := { s.edge with load := none } }
  if !l.reload then s.edgeLost
  else if l.phase = 0 then s
  else { s with edge := { s.edge with bayDead := s.edge.bayDead ||| (1#8 <<< l.bay.val) } }

/-- The failure kind of a frame at its position, 0 when it passes (07 R208). -/
def frameKind (s : State) (l : EdgeLoad) (f : BitVec 2048) : Nat :=
  let w := frameNat f 0 4
  if !frameCrcOk f then 1
  else if bits w 31 18 != l.seq then 2
  else if bits w 17 0 != orderWord l.reload l.bay l.seq then 3
  else if l.seq = 0 then
    (if frameNat f 4 2 != 1 || frameNat f 6 1 != b2n l.reload || frameNat f 8 4 != imageLen l.reload ||
        s.fld Reg.edgeCfgLen 13 0 != frameNat f 8 4 then 4
    else if l.reload && (frameNat f 20 8 != s.edge.imageId.toNat || frameNat f 7 1 != l.bay) then 5 else 0)
  else if l.seq + 1 = imageLen l.reload ∧ frameNat f 4 4 ≠ (l.crc ^^^ 0xFFFFFFFF).toNat then 6
  else 0

/-- An accepted frame: kept, counted into the image CRC; a QUIET frame declares its bay's pins; END ends the load or
makes the release due, the flip-flops at their initial values (07 R206, R211, R212, R215). -/
def State.edgeAccept (s : State) (l : EdgeLoad) (f : BitVec 2048) : State :=
  let w := frameNat f 0 4
  let e := s.edge
  let isEnd := l.seq + 1 = imageLen l.reload
  let e := if l.seq = 0 ∨ isEnd then e
    else { e with frames := sset noFrame e.frames (keepAt l.reload l.bay l.seq) f }
  let e := if bits w 3 0 = 2 then
      { e with quiet := vset e.quiet ⟨bits w 6 4 % 8, Nat.mod_lt _ (by decide)⟩ (BitVec.ofNat 12 (frameNat f 4 2)) }
    else e
  let l := { l with
    crc := crcBytes l.crc ((List.range 256).map (frameByte f))
    imageId := if l.seq = 0 then BitVec.ofNat 64 (frameNat f 12 8) else l.imageId
    phase := if l.reload && l.seq == 1 then 1 else l.phase
    seq := l.seq + 1 }
  if isEnd then
    (if l.reload then
      ({ s with edge := { e with load := some { l with phase := 3, ready := s.dcyc + 8 } } }).edgeInit (1#8 <<< l.bay.val)
    else (({ s with edge := { e with st := .loaded, load := none, imageId := l.imageId } }).edgeInit 0xFF).irq .cmd 2)
  else { s with edge := { e with load := some l } }

/-- The engine takes the next frame: checks it, stores it or fails. -/
def State.edgeTake (s : State) (f : BitVec 2048) : State :=
  match s.edge.load with
  | none => s
  | some l =>
    if l.phase = 1 ∨ l.phase = 3 then s
    else match frameKind s l f with
      | 0 => s.edgeAccept l f
      | k => s.edgeFail l k

/-- The engine fetches the next frame from memory and takes it. okMem: the memory answers. -/
def State.edgeFrame (s : State) (okMem : Bool) : State :=
  match s.edge.load with
  | none => s
  | some l =>
    if l.phase = 1 ∨ l.phase = 3 then s
    else if !okMem then s.edgeFail l 7
    else s.edgeTake (BitVec.ofNat 2048 (s.memNat (l.src + 256 * l.seq) 256))

/-- The bays in which a transmit link has a lane. -/
def State.linkBays (s : State) (k : Fin 4) : List Nat :=
  let w := (s.reg (Reg.jesdTxcfg + 4 * k.val)).toNat
  (List.range (bits w 6 4 + 1)).map (fun i => (bits w 3 0 + i) / 2)

/-- The reloading bay is isolated: its VT_BURST is 0, and completions of port accesses it has had accepted are discarded
(07 R215, R216). -/
def State.bayIsolate (s : State) : State :=
  match s.edge.load with
  | none => s
  | some l => if l.phase ≠ 1 then s else
    let s := (s.dropPorts (1#8 <<< l.bay.val)).burstsEnd (fun k => (s.linkBays k).contains l.bay.val)
    { s with edge := { s.edge with
      isolated := s.edge.isolated ||| (1#8 <<< l.bay.val), load := some { l with phase := 2 } } }

/-- The reloaded bay is released; command-core line 2 (07 R215, R216; 09 R276). -/
def State.bayFree (s : State) : State :=
  match s.edge.load with
  | none => s
  | some l => if l.phase ≠ 3 then s else
    let b := ~~~(1#8 <<< l.bay.val)
    ({ s with edge := { s.edge with
        isolated := s.edge.isolated &&& b, bayDead := s.edge.bayDead &&& b, load := none } }).irq .cmd 2

/-- Firmware puts an image of n frames before the engine: EDGE_CFG_LEN; where it keeps the image the manual does not say,
so EDGE_CFG_ADDR is free (log 25). -/
def State.cfgImage (s : State) (n : Nat) : State :=
  let k := s.free
  (((s.useFree 2).setReg Reg.edgeCfgLen (BitVec.ofNat 32 (n % 16384))).setReg Reg.edgeCfgAddrLo
    (BitVec.ofNat 32 (Config.freeNat k))).setReg Reg.edgeCfgAddrHi (BitVec.ofNat 32 (Config.freeNat (k + 1)))

/-- What is left in the engine when its frames have run out is a failed fetch (07 R208). -/
def State.edgeRest (s : State) : State :=
  match s.edge.load with
  | none => s
  | some l => s.edgeFail l 7

/-- A bay image whole: reload, isolation, frames and release, as firmware has it done; the second part says whether it
succeeded (07 R215; 12 R335; log 26). -/
def State.bayImage (s : State) (b : Fin 8) (fs : List (BitVec 2048)) : State × Bool :=
  let s := (s.cfgImage fs.length).edgeReload b false 0
  if s.edge.load.isNone then (s, false)
  else
    let s := fs.foldl (fun s f => (s.edgeTake f).bayIsolate) s
    match s.edge.load with
    | some l => if l.phase = 3 then (s.bayFree, true) else (s.edgeRest, false)
    | none => (s, false)

/-- A full image whole: a load of every frame; the second part says whether the fabric is LOADED with it (07 R212). -/
def State.fullImage (s : State) (fs : List (BitVec 2048)) : State × Bool :=
  let s := (s.cfgImage fs.length).edgeLoad
  if s.edge.st ≠ .loading then (s, false)
  else
    let s := (fs.foldl State.edgeTake s).edgeRest
    (s, s.edge.st == .loaded)

/-! ### Commands -/

/-- LOAD: a write of EDGE_CFG_CMD with OP 1 (07 R212, R224). -/
def execLoad (q : Requester) (s : State) : Out := done s (regWrite q Reg.edgeCfgCmd s State.edgeLoad)

/-- RELOAD: a write of EDGE_CFG_CMD with OP 2 (07 R215, R224). -/
def execReload (q : Requester) (bay : Fin 8) (atTick : Bool) (s : State) : Out :=
  done s (regWrite q Reg.edgeCfgCmd s (fun s => s.edgeReload bay atTick s.edgeSrc))

/-- START: a write of EDGE_CFG_CMD with OP 3 (07 R213, R224). -/
def execStart (q : Requester) (atTick : Bool) (s : State) : Out :=
  done s (regWrite q Reg.edgeCfgCmd s (fun s => s.edgeStart atTick))

/-- STOP: a write of EDGE_CFG_CMD with OP 4 (07 R214, R224). -/
def execStop (q : Requester) (s : State) : Out := done s (regWrite q Reg.edgeCfgCmd s State.edgeStop)

/-- What a write of EDGE_CFG_CMD does (07 EDGE_CFG_CMD). -/
def State.edgeCmd (s : State) (v : Word) : State :=
  match bits v.toNat 2 0 with
  | 1 => s.edgeLoad
  | 2 => s.edgeReload ⟨bits v.toNat 5 3 % 8, Nat.mod_lt _ (by decide)⟩ (bit v 6) s.edgeSrc
  | 3 => s.edgeStart (bit v 6)
  | 4 => s.edgeStop
  | _ => s

/-- Is DEVCLK edge d the chosen edge of a start or release: 8 cycles or more after the command, whose own cycle is not
named, so that d − 8 is it (log 13); or the next tick boundary, the one it has met or that is to come next (07 R213)? -/
def State.edgeAt (s : State) (atTick : Bool) (ready : Nat) (met : Option Nat) (d : Nat) : Bool :=
  !s.wh.devLost &&
    (if atTick then match met with
      | some b => d == b
      | none => decide (ready ≤ d + 8) && (s.tick.run || s.tick.first) && d == s.tick.nextB
    else decide (ready ≤ d))

/-- A tick boundary falls in cycle d: a start or release that waits for the next one has met it, unless DEVCLK is lost
(07 R213, R215). -/
def Edge.meet (e : Edge) (d : Nat) : Edge :=
  { e with
    startPend := e.startPend.map (fun p => (p.1, p.2.1, match p.2.2 with
      | some b => some b
      | none => if p.1 then some d else none))
    load := e.load.map (fun l => if l.phase = 3 ∧ l.atTick ∧ l.met.isNone then { l with met := some d } else l) }

/-- FABRIC_RUNNING: at its chosen edge the fabric enters RUNNING (07 R213). -/
def execFabricRunning (d : Nat) (s : State) : Out :=
  done s (match s.edge.startPend with
    | none => s
    | some (atTick, ready, met) =>
      if s.edge.st == .loaded && s.edgeAt atTick ready met d then
        { s.atD d with edge := { s.edge with st := .running, startPend := none } }
      else s)

/-- BAY_ISOLATION: at the next DEVCLK edge the reloading bay is isolated (07 R215). -/
def execBayIsolation (d : Nat) (s : State) : Out :=
  done s (match s.edge.load with
    | none => s
    | some l => if l.phase = 1 ∧ s.wh.devLost = false then (s.atD d).bayIsolate else s)

/-- BAY_RELEASE: a successfully reloaded bay is released at its chosen edge (07 R215, R216). -/
def execBayRelease (d : Nat) (s : State) : Out :=
  done s (match s.edge.load with
    | none => s
    | some l => if l.phase = 3 ∧ s.edgeAt l.atTick l.ready l.met d = true then (s.atD d).bayFree else s)

/-- BACKGROUND_CHECK: the engine re-reads a loaded frame while the fabric runs; a CRC mismatch records the frame's own SEQ
and is fatal in Solo, Active and Shadow, contained otherwise (07 R210). seq: the frame's position in the full image; upset:
one of its payload bits has flipped before. -/
def execBackgroundCheck (seq : Nat) (upset : Bool) (s : State) : Out :=
  when (s.edge.st == .running && s.edge.frames.any (·.1 == seq)) s (fun s =>
    let f := sget noFrame s.edge.frames seq
    let g := if upset then f ^^^ (1#2048 <<< (32 + Config.freeNat s.free % 1984)) else f
    let s := if upset then { s.useFree 1 with edge := { s.edge with frames := sset noFrame s.edge.frames seq g } } else s
    if frameCrcOk g then s
    else
      let s := (s.setBit Reg.edgeStat 21).setFld Reg.edgeCfgErr 31 18 (bits (frameNat g 0 4) 31 18)
      if s.running then s.fatal 16 else s.contained 39)

/-- GCLK_FAST: the CLOCK block measures tree n; above 520 MHz it is gated and FAST is set (07 R199). -/
def execGclkFast (n : Fin 4) (mhz : BitVec 10) (s : State) : Out :=
  when (s.alive && s.pwr.edgeOn) s (fun s =>
    let s := s.setReg (Reg.clockGclkMhz + 4 * n.val) (mhz.setWidth 32)
    if 520 < mhz.toNat then s.setBit Reg.edgeStat (16 + n.val) else s)

/-! ### Serial controllers (07 R222) -/

/-- Replace serial controller i. -/
def State.setSer (s : State) (i : Fin 5) (x : Serial) : State :=
  { s with edge := { s.edge with ser := vset s.edge.ser i x } }

/-- Is controller i enabled? -/
def State.serEn (s : State) (i : Fin 5) : Bool := bit (s.reg (Reg.edgeSerCtl + 16 * i.val)) 0

/-- Is it an I²C controller? -/
def isI2c (i : Fin 5) : Bool := i.val == 2 || i.val == 3

/-- EDGE_SER_STAT.OVR of controller i. -/
def State.serOvr (s : State) (i : Fin 5) : State := s.setBit (Reg.edgeSerStat + 16 * i.val) 12

/-- A write of EDGE_SER_DATA: queue a byte with its I²C controls; a full FIFO loses it; a disabled controller's FIFOs
stay empty (07 R222). -/
def State.serWrite (s : State) (i : Fin 5) (v : Word) : State :=
  let x := s.edge.ser[i]
  if !s.serEn i then s
  else if 16 ≤ x.tx.length then s.serOvr i
  else s.setSer i { x with tx := x.tx ++ [(v.setWidth 8, if isI2c i then (v >>> 8).setWidth 4 else 0)] }

/-- A read of EDGE_SER_DATA removes the oldest received byte, unless it is quiet (07 R222; 16 R430). -/
def State.serPop (s : State) (i : Fin 5) (quiet : Bool) : State :=
  let x := s.edge.ser[i]
  if quiet then s else s.setSer i { x with rx := x.rx.tail }

/-- A write of EDGE_SER_CTL: MODE is 0 but for SPI; EN 0 empties the FIFOs (07 R222). -/
def State.serCtlWrite (s : State) (i : Fin 5) (v : Word) : State :=
  let s := s.setReg (Reg.edgeSerCtl + 16 * i.val) (v &&& if i.val = 4 then 0xFFFFF7#32 else 0xFFFFF1#32)
  if bit v 0 then s else s.setSer i { s.edge.ser[i] with tx := [], rx := [] }

/-- SER_DATA_WRITE (07 R222). -/
def execSerDataWrite (q : Requester) (i : Fin 5) (v : Word) (s : State) : Out :=
  done s (regWrite q (Reg.edgeSerData + 16 * i.val) s (fun s => s.serWrite i v))

/-- SER_DATA_READ (07 R222). -/
def execSerDataRead (q : Requester) (i : Fin 5) (s : State) : Out :=
  when s.alive s (fun s =>
    let a := Reg.edgeSerData + 16 * i.val
    let code := accessCode s q false a 4
    if code = 0 then s.serPop i q.quiet else refuse s q false a code)

/-- SER_CTL (07 R222). -/
def execSerCtl (q : Requester) (i : Fin 5) (v : Word) (s : State) : Out :=
  done s (regWrite q (Reg.edgeSerCtl + 16 * i.val) s (fun s => s.serCtlWrite i v))

/-- A byte as it goes over controller i's lines: with its conditions on I²C, with MODE and CS of the controller on SPI
(07 R222). -/
def State.serFrame (s : State) (i : Fin 5) (sent : Bool) (b : Byte) (ctl : BitVec 4) (nack : Bool) : SerFrame :=
  let w := s.reg (Reg.edgeSerCtl + 16 * i.val)
  let spi := i.val == 4
  ⟨sent, b, ctl.getLsbD 0, ctl.getLsbD 1, nack, if spi then BitVec.ofNat 4 (bits w.toNat 23 20) else 0,
    if spi then BitVec.ofNat 2 (bits w.toNat 2 1) else 0⟩

/-- SERIAL_BYTE_SENT: the oldest queued byte has gone out; an I²C byte that receives NACK discards the queue (07 R222). -/
def execSerialByteSent (i : Fin 5) (nack : Bool) (s : State) : Out :=
  done s (
    let x := s.edge.ser[i]
    match x.tx with
    | [] => s
    | e :: l =>
      if isI2c i && e.2.getLsbD 2 then s
      else
        let x := { x with wire := some (s.serFrame i true e.1 e.2 (nack && isI2c i)) }
        if nack && isI2c i then (s.setSer i { x with tx := [] }).setBit (Reg.edgeSerStat + 16 * i.val) 11
        else s.setSer i { x with tx := l })

/-- SERIAL_BYTE_RECEIVED: into the FIFO, or lost when it is full; an I²C byte answers the READ entry at the head of the
queue, with NACK where that asks for it (07 R222). -/
def execSerialByteReceived (i : Fin 5) (b : Byte) (s : State) : Out :=
  when (s.serEn i) s (fun s =>
    let x := s.edge.ser[i]
    let ctl : BitVec 4 := match x.tx with
      | e :: _ => e.2
      | [] => 0
    if isI2c i && !ctl.getLsbD 2 then s
    else
      let x := if isI2c i then { x with tx := x.tx.tail } else x
      let x := { x with wire := some (s.serFrame i false b (if isI2c i then ctl else 0) (isI2c i && ctl.getLsbD 3)) }
      if 16 ≤ x.rx.length then (s.setSer i x).serOvr i else s.setSer i { x with rx := x.rx ++ [b] })

end Sys2Proof.Machine
end

