-- ==== Sys2Proof/Machine/Cistern.lean ====
section
/-! DEFINITION. Cistern banks, the fabric's cistern ports, the secure cistern's wipe, ECC of the word memories, and the
configuration engine's fetch (06 R171 to R184; 07 R208, R220). -/
namespace Sys2Proof.Machine

/-! ### ECC (06 R173, R182) -/

/-- A read of the word at address a meets a corrected or an uncorrectable error: counted, recorded, a contained error. -/
def State.memEcc (s : State) (a : Nat) (ecc : Ecc) : State :=
  match ecc, regionOf a with
  | .clean, _ => s
  | .corrected, some (.bulk k) => (s.countEv (Reg.bulkCorr + 4 * k) 31 0 Reg.bulkStat (4 + k) 1).corrected 2
  | .corrected, _ => (s.countWord Reg.cisternCorr Reg.cisternStat 15 1).corrected 1
  | .lost, some (.bulk k) =>
    let s := if bit (s.reg Reg.bulkStat) 2 then s
      else (((s.setBit Reg.bulkStat 2).setFld Reg.bulkStat 3 3 k).setReg Reg.bulkUncLo
        (BitVec.ofNat 32 (a / 64 * 64))).setReg Reg.bulkUncHi (BitVec.ofNat 32 (a / 2 ^ 32))
    s.contained 33
  | .lost, r =>
    let s := if bit (s.reg Reg.cisternStat) 14 then s
      else (match r with
        | some (.cistern n) => s.setFld Reg.cisternStat 13 8 n
        | _ => s).setBit Reg.cisternStat 14
    s.contained 32

/-- How a read finds the i-th of its granules, by a list of those with an error. -/
def eccAt (bad : List (Nat × Ecc)) (i : Nat) : Ecc := match bad.find? (fun b => b.1 == i) with
  | some b => b.2
  | none => .clean

/-- Read the pieces of a range in order, up to the first that is answered with a code other than OK, which is logged: refused,
or with a data error (06 R173, R182; 11 R307, R323). Answers the code. -/
def State.readPieces (s : State) (q : Requester) (bad : List (Nat × Ecc)) : List ((Nat × Nat) × Nat) → State × Nat
  | [] => (s, 0)
  | ((a, n), i) :: l =>
    let code := accessCode s q false a n
    let ecc := eccAt bad i
    if code ≠ 0 then (logUntagged s q a code, code)
    else if ecc = .lost then (logUntagged (s.memEcc a ecc) q a 6, 6)
    else (s.memEcc a ecc).readPieces q bad l

/-- Read [a, a + n) granule by granule; bad: the granules, by number, whose check words show an error. -/
def State.readRange (s : State) (q : Requester) (bad : List (Nat × Ecc)) (a n : Nat) : State × Nat :=
  s.readPieces q bad (granules a n).zipIdx

/-- The configuration engine as a requester (11 R304). -/
def engineReq : Requester := ⟨31, false, false, false, false⟩

/-- The response to the fetch of a 256-byte frame at a: the first granule refused decides (07 R208, R209). -/
def frameCode (s : State) (a : Nat) : Nat × Nat :=
  (List.range 4).foldl (fun (r : Nat × Nat) i =>
    if r.2 ≠ 0 then r else (a + 64 * i, accessCode s engineReq false (a + 64 * i) 64)) (a, 0)

/-- CONFIGURATION_FRAME: the engine fetches, checks and stores the next frame, an ECC error befalling its granule g
(07 R202 to R208). What an isolated station 31 sends is discarded (11 R318). -/
def execConfigurationFrame (ecc : Ecc) (g : Fin 4) (s : State) : Out :=
  when (s.alive && s.mode != .faultHold && s.pwr.edgeOn && !s.ring.iso.getLsbD 31) s (fun s =>
    match s.edge.load with
    | none => s
    | some l =>
      if l.phase = 1 ∨ l.phase = 3 then s
      else
        let a := l.src + 256 * l.seq
        let r := frameCode s a
        if r.2 ≠ 0 then (logUntagged s engineReq r.1 r.2).edgeFrame false
        else
          let x := a + 64 * g.val
          if ecc = .lost then (logUntagged (s.memEcc x ecc) engineReq x 6).edgeFrame false
          else (s.memEcc x ecc).edgeFrame true)

/-! ### Bank states (06 R174, R175) -/

/-- The base address of bank n. -/
def bankBase (n : Nat) : Nat := 0x10000000 + n * 0x80000

/-- Begin a change of bank n, if it is one; off to retention is refused. -/
def State.bankTo (s : State) (n : Nat) (t : BankSt) : State :=
  let old := s.cist.st[n]?.getD .off
  if old = t then s
  else if old = .off ∧ t = .retention then s.setBit Reg.cisternStat 7
  else { s with cist := { s.cist with chg := s.cist.chg ++ [(n, t)] } }

/-- A request for bank n: during a change it waits for its end. -/
def State.bankReq (s : State) (n : Nat) (t : BankSt) : State :=
  if s.cist.chg.any (·.1 == n) then
    { s with cist := { s.cist with req := s.cist.req.filter (·.1 != n) ++ [(n, t)] } }
  else s.bankTo n t

/-- The state a code of CISTERN_PWR asks for; 3 asks for nothing. -/
def bankCode : Nat → Option BankSt
  | 0 => some .off
  | 1 => some .retention
  | 2 => some .on
  | _ => none

/-- A write of CISTERN_PWR[k] (06 R175, CISTERN_PWR). -/
def State.cisternPwrWrite (s : State) (k : Fin 4) (v : Word) : State :=
  (List.range 16).foldl (fun s i =>
    let c := bits v.toNat (2 * i + 1) (2 * i)
    match bankCode c with
    | none => s.setBit Reg.cisternStat 7
    | some t => (s.setFld (Reg.cisternPwr + 4 * k.val) (2 * i + 1) (2 * i) c).bankReq (16 * k.val + i) t) s

/-- CISTERN_PWR (06 R175, R178). -/
def execCisternPwr (q : Requester) (k : Fin 4) (v : Word) (s : State) : Out :=
  done s (regWrite q (Reg.cisternPwr + 4 * k.val) s (fun s => s.cisternPwrWrite k v))

/-- BANK_STATE_CHANGE_END: bank n reaches its new state; from off to on every word is 0, off loses the contents; a waiting
request begins (06 R175). -/
def State.bankEnd (s : State) (n : Fin 64) : State :=
  match s.cist.chg.find? (·.1 == n.val) with
  | none => s
  | some p =>
    let clear := p.2 = .off ∨ s.cist.st[n] = .off
    let s := if clear then s.clearMem (bankBase n.val) (bankBase n.val + 0x80000) else s
    let req := s.cist.req.find? (·.1 == n.val)
    let s := { s with cist := { s.cist with
      st := vset s.cist.st n p.2
      chg := s.cist.chg.filter (·.1 != n.val)
      req := s.cist.req.filter (·.1 != n.val) } }
    match req with
    | some r => s.bankTo n.val r.2
    | none => s

/-! ### Port B (06 R172, R176, R177; 07 R220) -/

/-- A write of one half of CISTERN_PORTB_OWNER. -/
def State.ownerWrite (s : State) (hi : Bool) (v : Word) : State :=
  let o := s.cist.owner
  { s with cist := { s.cist with owner := if hi then ofHalves v (loHalf o) else ofHalves (hiHalf o) v } }

/-- CISTERN_PORTB_OWNER (06 R177, R178). -/
def execCisternPortbOwner (q : Requester) (hi : Bool) (v : Word) (s : State) : Out :=
  done s (regWrite q (if hi then Reg.cisternPortbOwnerHi else Reg.cisternPortbOwnerLo) s (fun s => s.ownerWrite hi v))

/-- Does a fabric port still hold an accepted access to bank n? -/
def State.portBusy (s : State) (n : Nat) : Bool :=
  (List.finRange 8).any (fun p =>
    s.cist.cw[p].any (fun e => e.ok && e.a / 16384 == n) || s.cist.cr[p].any (fun e => e.ok && e.a / 16384 == n))

/-- BANK_STATE_CHANGE_END: the accesses that the bank accepted before have completed (06 R175). -/
def execBankStateChangeEnd (n : Fin 64) (s : State) : Out :=
  when (s.mode != .off && !s.portBusy n.val) s (fun s => s.bankEnd n)

/-- OWNER_CHANGE_EFFECTIVE: bank n's new owner becomes effective once the accepted accesses of the old one are done
(06 R177). -/
def execOwnerChangeEffective (n : Fin 64) (s : State) : Out :=
  when (s.alive && !s.portBusy n.val) s (fun s =>
    let b := 1#64 <<< n.val
    { s with cist := { s.cist with eff := (s.cist.eff &&& ~~~b) ||| (s.cist.owner &&& b) } })

/-- A refused port-B access of bank n (06 R177, CISTERN_STAT). -/
def State.portRefused (s : State) (n : Nat) : State := (s.setFld Reg.cisternStat 5 0 n).setBit Reg.cisternStat 6

/-- May the edge fabric access bank n through port B? -/
def State.fabricOwns (s : State) (n : Nat) : Bool :=
  s.cist.owner.getLsbD n && s.cist.eff.getLsbD n && s.bankOn n

/-- Is bay b of the running fabric active (07 R211, R216)? -/
def State.bayActive (s : State) (b : Nat) : Bool :=
  s.alive && s.mode != .faultHold && s.edge.st == .running && !s.edge.isolated.getLsbD b

/-- Write n bytes of v at a where the byte enable is set. -/
def State.putBe (s : State) (a n v be : Nat) : State :=
  (List.range n).foldl (fun s i => if be.testBit i then s.setByte (a + i) (BitVec.ofNat 8 (v / 256 ^ i)) else s) s

/-- CW_REQ: write port p accepts a write of 32 bytes; port A may write the same 64-byte word in the same ring cycle, and
then the bytes of port B win and the collision is counted (06 R176; 07 R220). -/
def execCwReq (p : Fin 8) (a : BitVec 20) (v : BitVec 256) (be : BitVec 32) (portA : Option (BitVec 512 × BitVec 64))
    (s : State) : Out :=
  when (s.bayActive p.val && decide (s.cist.cw[p].length < 16)) s (fun s =>
    let addr := 0x10000000 + 32 * a.toNat
    let n := a.toNat / 16384
    let ok := s.fabricOwns n
    let s := match portA with
      | some (w, wbe) =>
        if s.bankOn n then
          let s := s.putBe (addr / 64 * 64) 64 w.toNat wbe.toNat
          if ok then s.countEv (Reg.cisternColl + 4 * n) 15 0 (Reg.cisternColl + 4 * n) 16 1 else s
        else s
      | none => s
    let s := if ok then s.putBe addr 32 v.toNat be.toNat else s.portRefused n
    { s with cist := { s.cist with cw := vset s.cist.cw p (s.cist.cw[p] ++ [⟨a.toNat, v, be, ok, false⟩]) } })

/-- CW_DONE: the oldest write of port p completes, with CW_ERR where it was refused (07 R220); the completion of an access
accepted before the fabric stopped or the bay was isolated is discarded (07 R214, R216). -/
def execCwDone (p : Fin 8) (s : State) : Out :=
  when s.alive s (fun s =>
    match s.cist.cw[p] with
    | [] => s
    | e :: l => { s with cist := { s.cist with
        cw := vset s.cist.cw p l
        cwRsp := if s.bayActive p.val && !e.lost then vset s.cist.cwRsp p (s.cist.cwRsp[p].1 + 1, !e.ok)
          else s.cist.cwRsp } })

/-- CR_REQ: read port p accepts a read (07 R220). -/
def execCrReq (p : Fin 8) (a : BitVec 20) (s : State) : Out :=
  when (s.bayActive p.val) s (fun s =>
    let n := a.toNat / 16384
    let ok := s.fabricOwns n
    let s := if ok then s else s.portRefused n
    { s with cist := { s.cist with cr := vset s.cist.cr p (s.cist.cr[p] ++ [⟨a.toNat, ok, false⟩]) } })

/-- CR_DVALID: the oldest read of port p returns; a refused or uncorrectable one returns 0 with CR_ERR (07 R220;
06 R173); the completion of an access accepted before the fabric stopped or the bay was isolated is discarded (07 R214,
R216). -/
def execCrDvalid (p : Fin 8) (ecc : Ecc) (s : State) : Out :=
  when s.alive s (fun s =>
    match s.cist.cr[p] with
    | [] => s
    | e :: l =>
      let addr := 0x10000000 + 32 * e.a
      let s := if e.ok then s.memEcc addr ecc else s
      let good := e.ok && ecc != .lost
      let d : BitVec 256 := if good then BitVec.ofNat 256 (s.memNat addr 32) else 0
      { s with cist := { s.cist with
          cr := vset s.cist.cr p l
          crRsp := if s.bayActive p.val && !e.lost then vset s.cist.crRsp p (d, !good) else s.cist.crRsp } })

/-! ### The secure cistern (06 R179 to R181) -/

/-- A wipe is triggered: cause bit 3 tamper, 4 glitch, 5 life cycle, 6 command (06 R180). -/
def State.startWipe (s : State) (cause : Nat) : State :=
  { s.setBit Reg.cisternSecStat cause with cist := { s.cist with wiping := true } }

/-- A wipe ends: every word is 0 where it verifies; otherwise the secure cistern is closed until reset (06 R180, R181). -/
def State.wipeEnd (s : State) (ok : Bool) : State :=
  if !s.cist.wiping then s
  else
    let s := s.setBit Reg.cisternSecStat 0
    let s := if ok then s.clearMem 0x1F000000 0x1F020000 else s
    { s with cist := { s.cist with wiping := false, verifyFail := s.cist.verifyFail || !ok } }

/-- WIPE: a write of 1 to CISTERN_SEC_CTL.WIPE (06 R178, R180). -/
def execWipe (q : Requester) (s : State) : Out := done s (regWrite q Reg.cisternSecCtl s (fun s => s.startWipe 6))

/-- WIPE_COMPLETE: the wipe and its verification end; ok: a verification passed, at the latest the second (06 R181). -/
def execWipeComplete (ok : Bool) (s : State) : Out := when (s.mode != .off) s (fun s => s.wipeEnd ok)

end Sys2Proof.Machine
end

