-- ==== Sys2Proof/Machine/Pump.lean ====
section
/-! DEFINITION. The commands of the pumps (06 R185 to R194). -/
namespace Sys2Proof.Machine

/-- Entries of pump f's ring: 13 to 15 act as 12 (06 PUMP_RSIZE). -/
def State.pumpSize (s : State) (f : Fin 16) : Nat := 2 ^ min (s.fld (Reg.pumpRsize + 0x40 * f.val) 3 0) 12

/-- The address of the entry k places after the pump's head (06 R189). -/
def State.pumpEntry (s : State) (f : Fin 16) (k : Nat) : Nat :=
  (s.reg (Reg.pumpRbase + 0x40 * f.val)).toNat + 64 * ((s.pump[f].head + k) % s.pumpSize f)

/-- Replace pump f. -/
def State.setPump (s : State) (f : Fin 16) (p : Pump) : State := { s with pump := vset s.pump f p }

/-- Do the pumps run (14 R382)? -/
def State.pumpsRun (s : State) : Bool := s.alive && s.mode != .faultHold && s.mode != .quiescent

/-- PUMP_TAIL (06 R189). -/
def execPumpTail (q : Requester) (f : Fin 16) (v : Word) (s : State) : Out :=
  let a := Reg.pumpTail + 0x40 * f.val
  done s (regWrite q a s (fun s => s.setReg a (v &&& 0xFFF#32)))

/-- Is pump f enabled? -/
def State.pumpEn (s : State) (f : Fin 16) : Bool := bit (s.reg (Reg.pumpCtl + 0x40 * f.val)) 0

/-- Is there an entry to fetch k places after the head? -/
def State.pumpWork (s : State) (f : Fin 16) (k : Nat) : Bool :=
  let n := s.pumpSize f
  let tail := s.fld (Reg.pumpTail + 0x40 * f.val) 11 0
  decide (k < (tail + n - s.pump[f].head % n) % n)

/-- The control port of field f's pump as a requester: stations 5, 6, 21, 22 (11 R304). -/
def portReq (f : Fin 16) : Requester := ⟨#[5, 6, 21, 22].getD (f.val / 4) 5, false, false, false, false⟩

/-- Is the station of field f's control port isolated, so that what it sends is discarded (11 R318)? -/
def State.portIso (s : State) (f : Fin 16) : Bool := s.ring.iso.getLsbD (portReq f).src

/-- A failed fetch or status write is logged and sets FETCH_ERR (11 R323; 06 R189). -/
def State.portLog (s : State) (f : Fin 16) (a code : Nat) : State :=
  (logUntagged s (portReq f) a code).setBit (Reg.pumpStat + 0x40 * f.val) 27

/-- The pump stops; what it had fetched ahead is dropped. -/
def State.pumpStop (s : State) (f : Fin 16) : State := s.setPump f { s.pump[f] with st := .error, next := none }

/-- The pump begins a descriptor it has fetched: a dry field gives status 2, a format error 3, an address outside memory 8
(06 R190, R192, R193; 02 R74). -/
def State.pumpBegin (s : State) (f : Fin 16) (d : Desc) : State :=
  let res : Option Nat := if !s.arr.live.getLsbD f.val then some 2
    else if !d.formatOk then some 3
    else if !d.inMemory s then some 8
    else none
  let st : PumpSt := if res.isSome then .fetch else if d.op = 2 ∧ d.noWait = false then .wait else .shift
  s.setPump f { s.pump[f] with
    st := st, desc := some d, j := 0, rows := 0, emit := 0, result := res, turn := [], judged := false, ahead := []
    aheadEnd := none, next := none }

/-- The pump takes up what it fetched ahead: a failed fetch stops it (06 R189). -/
def State.pumpTake (s : State) (f : Fin 16) : State :=
  match s.pump[f].next with
  | none => s
  | some none => s.pumpStop f
  | some (some d) => if s.pumpEn f then s.pumpBegin f d else s

/-- The fetch of the entry k places after the head: the descriptor, or none where the fetch fails. -/
def State.pumpFetch (s : State) (f : Fin 16) (k : Nat) (ecc : Ecc) : State × Option Desc :=
  let a := s.pumpEntry f k
  let code := accessCode s (portReq f) false a 64
  if code ≠ 0 then (s.portLog f a code, none)
  else if ecc = .lost then ((s.memEcc a ecc).portLog f a 6, none)
  else (s.memEcc a ecc, some (readDesc s a))

/-- DESCRIPTOR_FETCH: an enabled pump without a descriptor fetches the entry at its head and begins it; one that carries out a
descriptor fetches the entry after it. A failed fetch stops the pump, at the latest when the current descriptor is done
(06 R189). -/
def execDescriptorFetch (f : Fin 16) (ecc : Ecc) (s : State) : Out :=
  when (s.pumpsRun && s.pumpEn f && s.pump[f].st != .error && !s.portIso f) s (fun s =>
    match s.pump[f].desc, s.pump[f].next with
    | none, some _ => s.pumpTake f
    | none, none =>
      if s.pumpWork f 0 then
        match s.pumpFetch f 0 ecc with
        | (s, some d) => s.pumpBegin f d
        | (s, none) => s.pumpStop f
      else s
    | some _, none =>
      if s.pumpWork f 1 then
        let r := s.pumpFetch f 1 ecc
        r.1.setPump f { r.1.pump[f] with next := some r.2 }
      else s
    | some _, some _ => s)

/-- A pump's write of a plane invalidates reservations of the granules it touches (09 R266). -/
def State.pumpBreak (s : State) (d : Desc) (j : Nat) : State :=
  let spans := d.spans j
  let hit (g : Nat) : Bool := spans.any (fun p => decide (p.1 / 64 ≤ g) && decide (g ≤ (p.1 + p.2 - 1) / 64))
  let clear (c : CoreId) (s : State) : State :=
    match (s.core c).rsv with
    | some g => if hit g then s.setCore c { s.core c with rsv := none } else s
    | none => s
  clear .cmd (clear .seq s)

/-- The status that refuses an access records the bank of a refused port-B access (06 R173, R177). -/
def State.pumpRefused (s : State) (d : Desc) (j : Nat) : State :=
  match (d.spans j).find? (fun p => pumpReach s p.1 p.2 != 1) with
  | some p => (match regionOf p.1 with
    | some (.cistern n) => s.portRefused n
    | _ => s)
  | none => s

/-- Does plane j's group address the granule of address a? -/
def Desc.touches (d : Desc) (j a : Nat) : Bool :=
  (d.group j).any (fun i => (d.spans i).any (fun p =>
    decide (p.1 / 64 ≤ a / 64) && decide (a / 64 ≤ (p.1 + p.2 - 1) / 64)))

/-- The reads of plane j's group: the granules that hold an error are counted and recorded; the status that ends the
descriptor, if one does (06 R173, R182, R193). -/
def State.groupRead (s : State) (d : Desc) (j : Nat) (bad : List (BitVec 48 × Ecc)) : State × Option Nat :=
  match d.groupFail s j with
  | some i => (s.pumpRefused d i, some (d.reach s i))
  | none =>
    let mine := bad.filter (fun b => d.touches j b.1.toNat)
    (mine.foldl (fun s b => s.memEcc b.1.toNat b.2) s, if mine.any (fun b => b.2 == .lost) then some 6 else none)

/-- The reads of the next group follow those of the group in progress: they fill the other half of the turn buffer
(06 R194). -/
def State.readAhead (s : State) (f : Fin 16) (d : Desc) (bad : List (BitVec 48 × Ecc)) : State :=
  let p := s.pump[f]
  let j := 8 * (p.j / 8 + 1)
  if p.j % 8 ≠ 0 ∨ d.npl ≤ j then s
  else
    let r := s.groupRead d j bad
    r.1.setPump f { p with
      aheadEnd := r.2
      ahead := if r.2.isSome then [] else (d.group j).map (fun i => inPlane r.1 f.val d i) }

/-- Port A writes the same words in the same ring cycle as the pump's write of plane j's group: each coincidence counts, and
port B's bytes, written afterwards, win (06 R176). -/
def State.portAWrites (s : State) (d : Desc) (j : Nat) (l : List (BitVec 48 × BitVec 512 × BitVec 64)) : State :=
  (l.filter (fun x => d.touches j x.1.toNat)).foldl (fun s x =>
    match regionOf x.1.toNat with
    | some (.cistern n) =>
      let s := s.putBe (x.1.toNat / 64 * 64) 64 x.2.1.toNat x.2.2.toNat
      s.countEv (Reg.cisternColl + 4 * n) 15 0 (Reg.cisternColl + 4 * n) 16 1
    | _ => s) s

/-- An IN plane has been shifted: it stands in IO and the pump waits for a swap; the first plane of a group of eight needs the
group read, unless it was read ahead, and the next group's reads follow (06 R185 to R187, R191, R194). -/
def State.shiftedIn (s : State) (f : Fin 16) (d : Desc) (bad : List (BitVec 48 × Ecc)) : State :=
  let p := s.pump[f]
  let r := if p.j % 8 = 0 ∧ p.judged = false then s.groupRead d p.j bad else (s, none)
  let s := r.1
  if r.2.isSome then s.setPump f { p with result := r.2 }
  else
    let io := shiftRows f.val p.rows (512 - p.rows) (p.supplied s f.val) s.arr.io
    let s := { s with arr := { s.arr with io := io } }
    (s.setPump f { p with st := .wait, turn := p.filled s f.val d, judged := true }).readAhead f d bad

/-- An OUT plane has been shifted out: IO is 0 and the next plane waits for its swap; the last plane of a group writes the
group (06 R185 to R187, R191, R194). -/
def State.shiftedOut (s : State) (f : Fin 16) (d : Desc) (portA : List (BitVec 48 × BitVec 512 × BitVec 64)) : State :=
  let p := s.pump[f]
  let turn := p.turn ++ [p.emitted f.val 512 s.arr.io]
  let s := { s with arr := { s.arr with io := shiftRows f.val p.rows (512 - p.rows) 0 s.arr.io } }
  let last := p.j + 1 = d.npl
  let p' := { p with j := p.j + 1, rows := 0, emit := 0, st := if last then PumpSt.shift else .wait, turn := turn }
  if last ∨ (p.j + 1) % 8 = 0 then
    match d.groupFail s p.j with
    | some i => (s.pumpRefused d i).setPump f { p' with st := .shift, result := some (d.reach s i) }
    | none =>
      let s := outGroup (s.portAWrites d p.j portA) f.val d p.j turn
      let s := (d.group p.j).foldl (fun s i => s.pumpBreak d i) s
      s.setPump f { p' with turn := [], result := if last then some 1 else none }
  else s.setPump f p'

/-- PUMP_PLANE_SHIFTED: the plane in progress has had its 512 shift cycles. bad: the granules in which a read meets an ECC
error; portA: the writes that port A makes in the ring cycles of the pump's own (06 R173, R176, R185 to R194). A refused or
uncorrectable access ends the descriptor. -/
def execPumpPlaneShifted (f : Fin 16) (bad : List (BitVec 48 × Ecc)) (portA : List (BitVec 48 × BitVec 512 × BitVec 64))
    (s : State) : Out :=
  when (s.pumpsRun && s.pwr.bcast) s (fun s =>
    let p := s.pump[f]
    match p.st, p.desc, p.result with
    | .shift, some d, none => if d.op = 1 then s.shiftedIn f d bad else s.shiftedOut f d portA
    | _, _, _ => s)

/-- Planes completed: an OUT plane that has not left the turn buffer is not (06 R190, R194). -/
def Pump.done (p : Pump) : Nat :=
  match p.desc with
  | some d => if d.op = 2 then p.j - p.turn.length else p.j
  | none => 0

/-- The pump completes its descriptor with a status: STATUS and DONE are written through port A, HEAD and PUMP_DONE
advance, LAST and the interrupt follow; statuses 3 to 6 and 8 stop the pump with a contained error (06 R193). -/
def State.pumpFinish (s : State) (f : Fin 16) (status : Nat) : State :=
  let p := s.pump[f]
  match p.desc with
  | none => s
  | some d =>
    let a := s.pumpEntry f 0
    let code := if s.portIso f then 0 else accessCode s (portReq f) true (a + 40) 2
    let s := if code = 0 ∧ s.portIso f = false then s.memStore (portReq f).src (a + 40) 2 (status + 256 * p.done) else s
    let stop := status == 3 || status == 4 || status == 5 || status == 6 || status == 8
    let s := s.setPump f { p with
      st := .idle, desc := none, result := none, rows := 0, emit := 0, turn := [], judged := false, ahead := []
      aheadEnd := none, last := status, j := 0, head := (p.head + 1) % s.pumpSize f }
    let s := s.countWord (Reg.pumpDone + 0x40 * f.val) (Reg.pumpStat + 0x40 * f.val) 28 1
    let s := if d.irq then
        let s := s.setBit Reg.pumpIrq f.val
        if bit (s.reg (Reg.pumpCtl + 0x40 * f.val)) 1 then s.irq .seq 3 else s
      else s
    let s := if stop then (s.pumpStop f).contained 40 else s
    if code = 0 then s else (s.portLog f (a + 40) code).pumpStop f

/-- DESCRIPTOR_COMPLETE: the descriptor ends, and the pump takes up the entry it fetched meanwhile (06 R189, R193). The status
write of an isolated control port is never answered (11 R318). -/
def execDescriptorComplete (f : Fin 16) (s : State) : Out :=
  when (s.pumpsRun && !s.portIso f) s (fun s =>
    match s.pump[f].result with
    | some st => (s.pumpFinish f st).pumpTake f
    | none => s)

/-- RESUME: the pump leaves the error state (06 R193). -/
def State.pumpResume (s : State) (f : Fin 16) : State :=
  if s.pump[f].st = .error then s.setPump f { s.pump[f] with st := .idle } else s

/-- FLUSH: the descriptor in progress ends with status 7, and HEAD becomes TAIL; what was fetched ahead is dropped
(06 R193). -/
def State.pumpFlush (s : State) (f : Fin 16) : State :=
  let s := s.pumpFinish f 7
  s.setPump f { s.pump[f] with next := none, head := s.fld (Reg.pumpTail + 0x40 * f.val) 11 0 % s.pumpSize f }

/-- A write of PUMP_CTL[f]: EN and IRQ_EN are stored, RESUME and FLUSH act. -/
def State.pumpCtlWrite (s : State) (f : Fin 16) (v : Word) : State :=
  let s := s.setReg (Reg.pumpCtl + 0x40 * f.val) (v &&& 3#32)
  let s := if bit v 3 then s.pumpFlush f else s
  if bit v 2 then s.pumpResume f else s

/-- PUMP_RESUME: PUMP_CTL.RESUME written 1, EN and IRQ_EN as they stand (06 R193). -/
def execPumpResume (q : Requester) (f : Fin 16) (s : State) : Out :=
  done s (regWrite q (Reg.pumpCtl + 0x40 * f.val) s (fun s => s.pumpResume f))

/-- PUMP_FLUSH: PUMP_CTL.FLUSH written 1, EN and IRQ_EN as they stand (06 R193). -/
def execPumpFlush (q : Requester) (f : Fin 16) (s : State) : Out :=
  done s (regWrite q (Reg.pumpCtl + 0x40 * f.val) s (fun s => s.pumpFlush f))

end Sys2Proof.Machine
end

