-- ==== Sys2Proof/Machine/Valve.lean ====
section
/-! DEFINITION. The valve: closing conditions, limits, bursts, duty window, energy gate (08 R233 to R243). -/
namespace Sys2Proof.Machine

/-! ### Link configuration words (08 R225, R226) -/

/-- L, M, N', S, FPC, E of a configuration word. -/
def cfgL (w : Word) : Nat := bits w.toNat 6 4 + 1
/-- Converters. -/
def cfgM (w : Word) : Nat := bits w.toNat 11 7 + 1
/-- Sample size: 8, 12, 16; the reserved code gives 0. -/
def cfgN (w : Word) : Nat := match bits w.toNat 13 12 with
  | 0 => 8 | 1 => 12 | 2 => 16 | _ => 0
/-- Samples per converter per frame. -/
def cfgS (w : Word) : Nat := 2 ^ bits w.toNat 16 14
/-- Frames per DEVCLK cycle. -/
def cfgFpc (w : Word) : Nat := 2 ^ bits w.toNat 18 17
/-- Multiblocks per extended multiblock. -/
def cfgE (w : Word) : Nat := bits w.toNat 22 19 + 1
/-- Octets per lane per frame. -/
def cfgF (w : Word) : Nat := cfgM w * cfgS w * cfgN w / (8 * cfgL w)
/-- The lanes of a link. -/
def cfgLanes (w : Word) : List Nat := (List.range (cfgL w)).map (bits w.toNat 3 0 + ·)
/-- The LEMC period in DEVCLK cycles (08 R226). -/
def cfgLemc (w : Word) : Nat := 256 * cfgE w / (cfgFpc w * cfgF w)

/-- The transmit configuration of link k. -/
def State.txCfg (s : State) (k : Nat) : Word := s.reg (Reg.jesdTxcfg + 4 * k)
/-- The receive configuration of link k. -/
def State.rxCfg (s : State) (k : Nat) : Word := s.reg (Reg.jesdRxcfg + 4 * k)

/-! ### Conditions (08 R234) -/

/-- Is the sequencer core halted? -/
def State.seqHalted (s : State) : Bool := s.seq.halted || s.mode == .halted

/-- VALVE_STAT.COND, bit i the i-th condition of 08 R234. -/
def State.valveCond (s : State) : BitVec 8 :=
  let l : List Bool := [!(s.mode == .solo || s.mode == .active), s.seqHalted, s.edge.st != .running,
    !(s.valve.lim.set && decide (100 ≤ s.valve.lim.slot.toNat) && decide (s.valve.lim.slot.toNat ≤ 750)),
    !s.tick.run, s.wh.devLost, s.valve.shut, s.fatalSeen]
  (List.range 8).foldl (fun c i => if l.getD i false then c ||| (1#8 <<< i) else c) 0

/-- After a change, the valve closes where a closing condition holds now (08 R234, R235). -/
def State.checkClose (s : State) : State := if s.valveCond = 0 then s else s.closing

/-! ### Duty window (08 R239) -/

/-- The slot in progress ends on every link. -/
def State.slotEnd (s : State) : State :=
  { s with valve := { s.valve with link := s.valve.link.map (fun l =>
      { l with slots := (l.slotNow :: l.slots).take 999, slotNow := 0 }) } }

/-- Do f n times. -/
def repeatN (f : State → State) : Nat → State → State
  | 0, s => s
  | n + 1, s => repeatN f n (f s)

/-- The slot grid goes on to DEVCLK cycle d: every boundary up to it ends a slot; after 1,000 of them the window holds
nothing more (08 R239). -/
def State.slotsTo (s : State) (d : Nat) : State :=
  let w := s.valve.lim.slot.toNat
  if !s.tick.run || w = 0 || d < s.valve.slotNext then s
  else
    let n := (d - s.valve.slotNext) / w + 1
    let s := repeatN State.slotEnd (min n 1000) s
    { s with valve := { s.valve with slotNext := s.valve.slotNext + n * w } }

/-- The duty count: the current slot and the 999 before it. -/
def VLink.duty (l : VLink) : Nat := l.slotNow + l.slots.foldl (· + ·) 0

/-! ### Limits (08 R242) -/

/-- Put these limits in force; a new slot length restarts the slot grid in this cycle (08 R239, R242). -/
def State.putLimits (s : State) (m : Limits) : State :=
  let s' := if m.slot = s.valve.lim.slot || !s.tick.run then s
    else { s.slotEnd with valve := { s.slotEnd.valve with slotNext := s.dcyc + m.slot.toNat } }
  ({ s' with valve := { s'.valve with lim := m, pend := none } }).checkClose

/-- The limits with one register written: off is the register's offset in the VALVE block. -/
def Limits.write (m : Limits) (off : Nat) (v : Word) : Limits :=
  if off = 0 then { m with set := bit v 0 }
  else if off = 0x0C then { m with slot := v.setWidth 10 }
  else if 0x40 ≤ off ∧ off < 0xC0 then
    let k : Fin 4 := ⟨(off - 0x40) / 0x20 % 4, Nat.mod_lt _ (by decide)⟩
    let l := m.link[k]
    let l := match (off - 0x40) % 0x20 with
      | 0x00 => { l with burstMax := v.setWidth 24 }
      | 0x04 => { l with gapMin := v.setWidth 24 }
      | 0x08 => { l with duty := v.setWidth 20 }
      | 0x0C => { l with egCtl := v &&& 0xFFFFFF7F#32 }
      | 0x10 => { l with egThr := ofHalves (hiHalf l.egThr) v }
      | 0x14 => { l with egThr := ofHalves v (loHalf l.egThr) }
      | _ => l
    { m with link := vset m.link k l }
  else if 0x200 ≤ off ∧ off < 0x400 then
    { m with mag := sset (fun _ => 0) m.mag ((off - 0x200) / 4) (v.setWidth 16) }
  else m

/-- Is it a limit register's offset? -/
def isLimit (off : Nat) : Bool :=
  off % 4 == 0 && (off == 0 || off == 0x0C || (decide (0x40 ≤ off) && decide (off < 0xC0) && decide (off % 0x20 < 0x18)) ||
    (decide (0x200 ≤ off) && decide (off < 0x400)))

/-- A limit register is written: at once while the valve is closed, with the pending ones; pending while it is open;
ignored once locked (08 R242). -/
def State.limitWrite (s : State) (off : Nat) (v : Word) : State :=
  if s.valve.lock || !isLimit off then s
  else
    let m := (match s.valve.pend with
      | some p => p
      | none => s.valve.lim).write off v
    let s := { s with valve := { s.valve with lock := decide (off = 0) && bit v 1 } }
    if s.valve.open_ then { s with valve := { s.valve with pend := some m } } else s.putLimits m

/-! ### Bursts (08 R237, R238, R240) -/

/-- Replace link k of the valve. -/
def State.setVLink (s : State) (k : Fin 4) (l : VLink) : State :=
  { s with valve := { s.valve with link := vset s.valve.link k l } }

/-- Was the valve open in DEVCLK cycle c, as far as it is known? A condition that has arisen closes it at the latest in
closeBy (08 R235). -/
def Valve.openIn (v : Valve) (c : Nat) : Bool :=
  decide (v.openAt ≤ c) && (if v.open_ then (match v.closeBy with
    | some b => decide (c < b)
    | none => true) else decide (c < v.closedAt))

/-- The synchronised TX_PERMIT in cycle c (08 R241). -/
def Valve.permitIn (v : Valve) (c : Nat) : Bool := match v.permits.find? (fun p => decide (p.1 ≤ c)) with
  | some p => p.2
  | none => v.permitOld

/-- TX_PERMIT at the land changes in DEVCLK cycle d: the first stage takes the level at the first or, where late, the second
rising edge after that, and it is the synchronised value from the edge after (08 R241). The last four changes are kept. -/
def Valve.permitTo (v : Valve) (level : Bool) (d : Nat) (late : Bool) : Valve :=
  let at_ := d + 2 + b2n late
  let l := (at_, level) :: v.permits.filter (fun p => decide (p.1 < at_))
  { v with
    permitPin := level
    permits := l.take 4
    permitOld := match l[4]? with
      | some p => p.2
      | none => v.permitOld }

/-- e(u) of one cycle's samples (08 R240). -/
def energy (n : Nat) (l : List (BitVec 16)) : Nat :=
  l.foldl (fun e v => e + ((v.toInt * 2 ^ (16 - n)).natAbs) ^ 2) 0

/-- E(u): the sum over the last 2^a cycles. -/
def EgHist.sum (h : EgHist) (a u : Nat) : Nat :=
  (h.e.filter (fun p => decide (p.1 ≤ u) && decide (u < p.1 + 2 ^ a))).foldl (fun t p => t + p.2) 0

/-- Does the energy gate of link k forbid a burst start in cycle t (08 R240)? -/
def Valve.gateForbids (v : Valve) (k : Fin 4) (t : Nat) : Bool :=
  let l := v.lim.link[k]
  let ctl := l.egCtl.toNat
  let h := v.eg[(⟨ctl % 4, Nat.mod_lt _ (by decide)⟩ : Fin 4)]
  let a := min (bits ctl 5 2) 10
  let lo := t - bits ctl 31 8
  l.egCtl.getLsbD 6 && decide (lo < t) &&
    ((match h.since with
      | none => true
      | some b => decide (lo < b)) ||
     (lo :: (h.e.map (·.1)).filter (fun u => decide (lo ≤ u) && decide (u < t))).any (fun u => decide (l.egThr.toNat < h.sum a u)))

/-- One sample clipped to its magnitude limit (08 R237). -/
def clip (lim : Nat) (v : BitVec 16) : BitVec 16 × Bool :=
  if v.toInt > lim then (BitVec.ofNat 16 lim, true)
  else if v.toInt < -(lim : Int) then (BitVec.ofInt 16 (-(lim : Int)), true)
  else (v, false)

/-- The samples of one granted cycle, clipped: position m·S + s of each frame is converter m (08 R227, R237). -/
def clipCycle (s : State) (k : Fin 4) (l : List (BitVec 16)) : List (BitVec 16) × Nat :=
  let w := s.txCfg k.val
  let per := cfgM w * cfgS w
  let f (i : Nat) (v : BitVec 16) := clip (sget (fun _ => 0#16) s.valve.lim.mag (32 * k.val + i % per / cfgS w)).toNat v
  let r := (List.range l.length).map (fun i => f i (l.getD i 0))
  (r.map (·.1), (r.filter (·.2)).length)

/-- Count in a VALVE counter of link k: 0 clips, 1 suppressed, 2 truncated. -/
def State.valveCount (s : State) (k : Fin 4) (which n : Nat) : State :=
  s.countWord (Reg.valveClips + 16 * k.val + 4 * which) Reg.valveStat 11 n

/-- May cycle c of a burst go on (08 R238)? -/
def Valve.goesOn (v : Valve) (k : Fin 4) (c : Nat) : Bool :=
  let l := v.link[k]
  decide (l.burst < v.lim.link[k].burstMax.toNat) && decide (l.duty < v.lim.link[k].duty.toNat) && v.permitIn c && v.openIn c

/-- The remainder of a burst is not granted: VT_SUPP pulses in cycle c (08 R238). -/
def State.truncate (s : State) (k : Fin 4) (c : Nat) : State :=
  (s.setVLink k { s.valve.link[k] with granting := false, suppAt := some c }).valveCount k 2 1

/-- One cycle of a request: granted while the burst goes on; a cycle that is not granted passes zero samples; a link that
is not in data sends nothing (08 R231, R233, R234, R237, R238). The samples presented are kept for the digest in Active and
Shadow (13 R361). -/
def State.burstCycle (k : Fin 4) (s : State) (x : List (BitVec 16)) : State :=
  let c := s.valve.link[k].start + s.valve.link[k].seen
  let s := if s.mode == .active || s.mode == .shadow then
      { s with twin := { s.twin with vt := s.twin.vt ++ [(k.val, c, x)] } } else s
  let s := s.slotsTo c
  let s := s.setVLink k { s.valve.link[k] with seen := s.valve.link[k].seen + 1 }
  let send (s : State) (y : List (BitVec 16)) : State :=
    if s.jesd.txSt[k] = 2 then s.setVLink k { s.valve.link[k] with out := s.valve.link[k].out ++ [y] } else s
  if s.valve.link[k].granting && s.valve.goesOn k c then
    let (y, n) := clipCycle s k x
    let l := s.valve.link[k]
    (send (s.setVLink k { l with
      burst := l.burst + 1, lastGrant := some c, slotNow := l.slotNow + 1
      clipAt := if 0 < n then some c else l.clipAt }) y).valveCount k 0 n
  else
    let s := if s.valve.link[k].granting then s.truncate k c else s
    send s (List.replicate x.length 0)

/-- VT_GRANT[k] in DEVCLK cycle c, the cycle of a request that has been presented last: outside a request no cycle is
granted, and zero samples are passed (08 R231, R233). -/
def State.vtGrant (s : State) (k : Fin 4) (c : Nat) : Bool :=
  let l := s.valve.link[k]
  l.req && l.granting && c + 1 == l.start + l.seen && s.valve.openIn c

/-- The cycles of a request that have been presented, in order. -/
def State.burstCycles (s : State) (k : Fin 4) (l : List (List (BitVec 16))) : State := l.foldl (State.burstCycle k) s

/-- May a burst start in cycle t (08 R238)? -/
def State.burstStarts (s : State) (k : Fin 4) (t : Nat) : Bool :=
  let v := s.valve
  let l := v.link[k]
  v.openIn t && v.permitIn t && decide (l.duty < v.lim.link[k].duty.toNat) && v.lim.link[k].burstMax != 0 &&
    !v.gateForbids k t && (match l.lastGrant with
      | none => true
      | some g => decide (v.lim.link[k].gapMin.toNat ≤ t - 1 - g))

/-- Can link k have a burst request: the link is enabled, the fabric runs, and no bay of its lanes is isolated, since an
isolated bay's VT_BURST is 0 (07 R211, R216; 08 R238; log 79). -/
def State.burstAble (s : State) (k : Fin 4) : Bool :=
  s.jesd.txEn.getLsbD k.val && s.edge.st == .running && s.mode != .faultHold &&
    !(cfgLanes (s.txCfg k.val)).any (fun l => s.edge.isolated.getLsbD (l / 2))

/-- BURST_REQUEST: VT_BURST[k] rises in cycle d and presents these cycles of samples; the whole request is granted or
suppressed (08 R238). -/
def execBurstRequest (k : Fin 4) (d : Nat) (samples : List (List (BitVec 16))) (s : State) : Out :=
  when (s.burstAble k && !s.valve.link[k].req) s (fun s =>
    let s := (s.atD d).slotsTo d
    let go := s.burstStarts k d
    let s := s.setVLink k { s.valve.link[k] with
      req := true, start := d, seen := 0, granting := go, burst := 0, out := []
      suppAt := if go then s.valve.link[k].suppAt else some d }
    let s := if go then s else s.valveCount k 1 1
    s.burstCycles k samples)

/-- BURST_TRUNCATION: after these further cycles the burst has reached its length, duty or permit limit, or the valve has
closed, and its remainder is not granted (08 R238). -/
def execBurstTruncation (k : Fin 4) (samples : List (List (BitVec 16))) (s : State) : Out :=
  when s.valve.link[k].req s (fun s =>
    let s := s.burstCycles k samples
    let l := s.valve.link[k]
    if l.granting && !s.valve.goesOn k (l.start + l.seen) then s.truncate k (l.start + l.seen) else s)

/-- BURST_REQUEST_END: after these further cycles VT_BURST[k] returns to 0 (08 R238). -/
def execBurstRequestEnd (k : Fin 4) (samples : List (List (BitVec 16))) (s : State) : Out :=
  when s.valve.link[k].req s (fun s =>
    let s := s.burstCycles k samples
    s.setVLink k { s.valve.link[k] with req := false, granting := false })

/-! ### Closing, opening, boundaries -/

/-- VALVE_CLOSE: a closing condition has arisen and the valve closes, cycle d being the first ungranted one, at the latest
3 DEVCLK cycles and 8 ns after it; bursts in progress are cut off there and pending limits take effect (08 R234, R235,
R242). -/
def execValveClose (d : Nat) (s : State) : Out :=
  when (s.valve.open_ && (s.valveCond != 0 || s.valve.closeBy.isSome)) s (fun s =>
    let s := s.atD d
    let c := match s.valve.closeBy with
      | some b => min d b
      | none => d
    let s := { s with valve := { s.valve with open_ := false, closedAt := c, closeBy := none } }
    let s := (List.finRange 4).foldl (fun (s : State) (k : Fin 4) =>
      let l := s.valve.link[k]
      if l.granting && decide (c ≤ l.start + l.seen) then s.truncate k c else s) s
    match s.valve.pend with
    | some m => s.putLimits m
    | none => s)

/-- The position of DEVCLK cycle d on the tick grid (08 R236). -/
def State.position (s : State) (d : Nat) : Nat := s.tick.count.toNat * s.tick.period + (d - s.tick.lastB)

/-- Is d a valve block boundary (08 R236)? -/
def State.blockBoundary (s : State) (d : Nat) : Bool :=
  s.tick.run && s.valve.block != 0 && decide (s.tick.lastB ≤ d) && s.position d % s.valve.block == 0

/-- VALVE_OPEN: with every closing condition clear the valve opens at a block boundary (08 R236). A member that has taken
over counts its failover there (13 R365, R374). -/
def State.valveOpen (s : State) (d : Nat) : State :=
  let s := s.atD d
  { s with valve := { s.valve with open_ := true, openAt := d, closeBy := none } }

/-- VALVE_BLOCK_BOUNDARY: limits written while the valve was open take effect together (08 R242). -/
def execValveBlockBoundary (d : Nat) (s : State) : Out :=
  when (s.blockBoundary d) s (fun s =>
    let s := s.atD d
    match s.valve.pend with
    | some m => s.putLimits m
    | none => s)

/-- SLOT_BOUNDARY: the slot grid goes on to DEVCLK cycle d: boundaries fall every VALVE_SLOT cycles from position 0 or from
the grid's restart, and only while the tick generator makes boundaries (08 R239). -/
def execSlotBoundary (d : Nat) (s : State) : Out :=
  when (s.tick.run && s.valve.lim.slot != 0) s (fun s => (s.atD d).slotsTo d)

/-- TX_PERMIT: the level at the land changes in cycle d; late: the first stage takes it at the second rising edge after that
(08 R241). -/
def execTxPermit (level : Bool) (d : Nat) (late : Bool) (s : State) : Out :=
  when s.alive s (fun s =>
    if s.valve.permitPin = level then s.atD d
    else { s.atD d with valve := s.valve.permitTo level d late })

/-- The requester behind a host write through window B (11 R317; 12 R328). -/
def hostB : Requester := ⟨15, false, true, false, false⟩

end Sys2Proof.Machine
end

