-- ==== Sys2Proof/Machine/Jesd.lean ====
section
/-! DEFINITION. The JESD204C link layers: configuration, lane lock, LEMC alignment, release (08 R225 to R232, R245). -/
namespace Sys2Proof.Machine

/-! ### Enabling links (08 R226, R245) -/

/-- Is a configuration word valid at a DEVCLK frequency in kHz, its lanes overlapping none of used (08 R225, R226)? -/
def cfgValid (w : Word) (khz : Nat) (used : List Nat) : Bool :=
  let n := cfgN w
  let f := cfgF w
  let rate := cfgFpc w * f * 8 * khz * 66
  n != 0 && decide (bits w.toNat 16 14 < 6) && cfgM w * cfgS w * n % (8 * cfgL w) == 0 && decide (1 ≤ f) && decide (f ≤ 256) &&
  256 * cfgE w % (cfgFpc w * f) == 0 && decide (8000000 * 64 ≤ rate) && decide (rate ≤ 32500000 * 64) &&
  decide (bits w.toNat 3 0 + cfgL w ≤ 16) && (cfgLanes w).all (fun l => !used.contains l)

/-- Lanes of the links of a mask. -/
def lanesOf (en : BitVec 4) (cfg : Nat → Word) : List Nat :=
  (List.range 4).flatMap (fun k => if en.getLsbD k then cfgLanes (cfg k) else [])

/-- The enables after a request: links that stay enabled, then each newly requested link that is valid, in ascending
order; and whether one was invalid (08 R226). -/
def enables (old want : BitVec 4) (cfg : Nat → Word) (khz : Nat) : BitVec 4 × Bool :=
  (List.range 4).foldl (fun (r : BitVec 4 × Bool) k =>
    if want.getLsbD k && !old.getLsbD k then
      (if cfgValid (cfg k) khz (lanesOf r.1 cfg) then (r.1 ||| (1#4 <<< k), r.2) else (r.1, true))
    else r) (old &&& want, false)

/-- Link states after the enables changed: a link disabled is off, a link newly enabled starts at 1. -/
def startLinks (old new : BitVec 4) (st : Vector Nat 4) : Vector Nat 4 :=
  Vector.ofFn (fun k : Fin 4 => if !new.getLsbD k.val then 0 else if !old.getLsbD k.val then 1 else st[k])

/-- Lane bits of a list of lanes. -/
def laneBits (l : List Nat) : BitVec 16 := l.foldl (fun m i => m ||| (1#16 <<< i)) 0

/-- A receive link that is no longer in data has had no data without a gap (08 R240). -/
def State.dropEg (s : State) : State :=
  { s with valve := { s.valve with eg := Vector.ofFn (fun k : Fin 4 =>
      if s.jesd.rxSt[k] = 3 then s.valve.eg[k] else { s.valve.eg[k] with since := none }) } }

/-- Put new enables in force. SR_SEEN clears when the last enabled link is disabled (08 R228). A transmit link that is
disabled ends its request (08 R238). -/
def State.jesdEnable (s : State) (rx tx : BitVec 4) : State :=
  let j := s.jesd
  let fresh := laneBits (lanesOf (rx &&& ~~~j.rxEn) s.rxCfg)
  let some_ := j.rxEn != 0 || j.txEn != 0
  let none_ := rx == 0 && tx == 0
  let j' := { j with
    rxEn := rx, txEn := tx
    rxSt := startLinks j.rxEn rx j.rxSt
    txSt := startLinks j.txEn tx j.txSt
    lock := j.lock &&& ~~~fresh
    marker := j.marker &&& ~~~fresh
    srSeen := j.srSeen && !(some_ && none_) }
  let s := { s with jesd := j' }
  (s.burstsEnd (fun k => !tx.getLsbD k.val)).dropEg

/-- A write of JESD_CTL (08 R226, JESD_CTL). -/
def State.jesdCtlWrite (s : State) (v : Word) : State :=
  let (rx, e1) := enables s.jesd.rxEn (v.setWidth 4) s.rxCfg s.wh.khz
  let (tx, e2) := enables s.jesd.txEn ((v >>> 4).setWidth 4) s.txCfg s.wh.khz
  let s := s.jesdEnable rx tx
  let s := { s with jesd := { s.jesd with srTrack := bit v 8 } }
  if e1 || e2 then s.setBit Reg.jesdStat 16 else s

/-- A write to a configuration word or RBD of an enabled link is ignored with CFG_ERR (08 R245). -/
def State.jesdCfgWrite (s : State) (a : Nat) (v : Word) : State :=
  let k := (a - Reg.jesdRxcfg) / 4 % 4
  let en := if Reg.jesdTxcfg ≤ a ∧ a < Reg.jesdRxRbd then s.jesd.txEn.getLsbD k else s.jesd.rxEn.getLsbD k
  if en then s.setBit Reg.jesdStat 16
  else s.setReg a (v &&& if Reg.jesdRxRbd ≤ a then 0xFFF#32 else 0x7FFFFF#32)

/-- JESD_CTL (08 R226, R245). -/
def execJesdCtl (q : Requester) (v : Word) (s : State) : Out :=
  done s (regWrite q Reg.jesdCtl s (fun s => s.jesdCtlWrite v))

/-! ### Lanes (08 R230) -/

/-- Do all lanes of link k have their bit? -/
def State.rxAll (s : State) (k : Fin 4) (m : BitVec 16) : Bool :=
  (cfgLanes (s.rxCfg k.val)).all (fun l => m.getLsbD l)

/-- CRC-12 mismatches in multiblocks of these lanes: each counts, in a lane of an enabled link that has header lock (08
R230). -/
def State.crcCount (s : State) (l : List (Fin 16)) : State :=
  l.foldl (fun (s : State) (l : Fin 16) =>
    if s.jesd.lock.getLsbD l.val && (s.rxLinkOf l.val).isSome then
      let a := Reg.jesdLaneErr + 4 * l.val
      (s.countEv a 15 0 a 24 1).corrected 5
    else s) s

/-- The number of invalid sync headers among the last 64, of which bit i says whether the i-th was valid. -/
def badHeaders (h : BitVec 64) : Nat := ((List.range 64).filter (fun i => !h.getLsbD i)).length

/-- RX_LANE_LOCK: lane l has seen 64 consecutive valid sync headers and locks; when every lane of its link in search has
locked, the link goes to align (08 R230). -/
def execRxLaneLock (l : Fin 16) (headers : BitVec 64) (crcBad : List (Fin 16)) (s : State) : Out :=
  done s (
    let s := s.crcCount crcBad
    match s.rxLinkOf l.val with
    | none => s
    | some k =>
      if s.wh.devLost || badHeaders headers != 0 then s
      else
        let j : Jesd := { s.jesd with lock := s.jesd.lock ||| (1#16 <<< l.val) }
        let s := { s with jesd := j }
        if j.rxSt[k] = 1 ∧ s.rxAll k j.lock = true then
          { s with jesd := { j with
              rxSt := vset j.rxSt k 2, marker := j.marker &&& ~~~(laneBits (cfgLanes (s.rxCfg k.val))) } }
        else s)

/-- No word stands at the lane interfaces of these lanes. -/
def Jesd.dropWords (j : Jesd) (lanes : BitVec 16) : Jesd :=
  { j with rxWord := Vector.ofFn (fun l : Fin 16 => if lanes.getLsbD l.val then [] else j.rxWord[l]) }

/-- LOSS_OF_LOCK: 16 of 64 consecutive sync headers were invalid: the loss counts and the whole link returns to search
(08 R230). -/
def execLossOfLock (l : Fin 16) (headers : BitVec 64) (crcBad : List (Fin 16)) (s : State) : Out :=
  done s (
    let s := s.crcCount crcBad
    match s.rxLinkOf l.val with
    | none => s
    | some k =>
      if !s.jesd.lock.getLsbD l.val || decide (badHeaders headers < 16) then s
      else
        let j := s.jesd
        let lanes := laneBits (cfgLanes (s.rxCfg k.val))
        let s := { s with jesd := ({ j with
          lock := j.lock &&& ~~~(1#16 <<< l.val)
          marker := j.marker &&& ~~~lanes
          rxSt := vset j.rxSt k 1, rxOut := vset j.rxOut k [] }).dropWords lanes }
        let a := Reg.jesdLaneErr + 4 * l.val
        ((s.countEv a 23 16 a 24 1).corrected 5).dropEg)

/-- END_OF_EXTENDED_MULTIBLOCK_MARKER: in align, lane l has located its marker (08 R230). -/
def execEndOfExtendedMultiblockMarker (l : Fin 16) (crcBad : List (Fin 16)) (s : State) : Out :=
  done s (
    let s := s.crcCount crcBad
    match s.rxLinkOf l.val with
    | none => s
    | some k =>
      if s.jesd.rxSt[k] = 2 then { s with jesd := { s.jesd with marker := s.jesd.marker ||| (1#16 <<< l.val) } } else s)

/-- Is DEVCLK cycle d a LEMC boundary of a link with this configuration (08 R228)? -/
def State.lemcAt (s : State) (w : Word) (d : Nat) : Bool :=
  s.jesd.srSeen && decide (s.jesd.lemc0 ≤ d) && cfgLemc w != 0 && (d - s.jesd.lemc0) % cfgLemc w == 0

/-- At their own boundaries receive links that have located every marker, and waiting transmit links, enter data
(08 R228 to R231). -/
def State.lemcStep (s : State) (d : Nat) : State :=
    let s := s.atD d
    let j := s.jesd
    let enter (k : Fin 4) : Bool := decide (j.rxSt[k] = 2) && s.rxAll k j.marker && s.lemcAt (s.rxCfg k.val) d
    { s with
      jesd := { j with
        rxSt := Vector.ofFn (fun k : Fin 4 => if enter k then 3 else j.rxSt[k])
        txSt := Vector.ofFn (fun k : Fin 4 =>
          if j.txSt[k] = 1 ∧ s.lemcAt (s.txCfg k.val) d = true then 2 else j.txSt[k]) }
      valve := { s.valve with eg := Vector.ofFn (fun k : Fin 4 =>
        if enter k then { s.valve.eg[k] with since := some d } else s.valve.eg[k]) } }

/-- Is every enabled link in data (08 R230, R231)? -/
def State.linksInData (s : State) : Bool :=
  (List.finRange 4).all (fun k => (!s.jesd.rxEn.getLsbD k.val || s.jesd.rxSt[k] == 3) &&
    (!s.jesd.txEn.getLsbD k.val || s.jesd.txSt[k] == 2))

/-- JESD_STAT as it reads (08 R245). -/
def State.jesdStatus (s : State) : Word :=
  let pair (v : Vector Nat 4) : Nat := v[0] % 4 + 4 * (v[1] % 4) + 16 * (v[2] % 4) + 64 * (v[3] % 4)
  (s.reg Reg.jesdStat &&& 0x30000#32) |||
    BitVec.ofNat 32 (pair s.jesd.rxSt + 256 * pair s.jesd.txSt + 2 ^ 18 * b2n s.jesd.srSeen)

/-! ### Frames on lanes (08 R227) -/

/-- The N' bits of a sample, the most significant first. -/
def sampleBits (n : Nat) (v : BitVec 16) : List Bool := (List.range n).map (fun i => v.getLsbD (n - 1 - i))

/-- A bit list cut into octets, the first bit the most significant. -/
def octetsOf (l : List Bool) : List Byte :=
  (List.range (l.length / 8)).map (fun i =>
    BitVec.ofNat 8 (((l.drop (8 * i)).take 8).foldl (fun v b => 2 * v + b2n b) 0))

/-- The samples of one DEVCLK cycle as frames of M·S samples in position order. -/
def framesOf (w : Word) (cycle : List (BitVec 16)) : List (List (BitVec 16)) :=
  (List.range (cfgFpc w)).map (fun f => (cycle.drop (f * (cfgM w * cfgS w))).take (cfgM w * cfgS w))

/-- The octets of lane j of a link for a run of DEVCLK cycles: octets j·F to j·F + F − 1 of each frame, without gaps. -/
def laneOctets (w : Word) (cycles : List (List (BitVec 16))) (j : Nat) : List Byte :=
  (cycles.flatMap (framesOf w)).flatMap (fun f =>
    ((octetsOf (f.flatMap (sampleBits (cfgN w)))).drop (j * cfgF w)).take (cfgF w))

/-- A 64-bit block: its first octet on the line in bits [63:56]. -/
def blockOf (l : List Byte) : Nat := (l.take 8).foldl (fun v b => 256 * v + b.toNat) 0

/-- The 128-bit words of lane j's interface: two blocks, the earlier in [63:0] (07 R218). -/
def laneData (w : Word) (cycles : List (List (BitVec 16))) (j : Nat) : List (BitVec 128) :=
  let o := laneOctets w cycles j
  (List.range (o.length / 16)).map (fun i =>
    BitVec.ofNat 128 (blockOf (o.drop (16 * i)) + 2 ^ 64 * blockOf (o.drop (16 * i + 8))))

/-- The words of a receive lane for a released extended multiblock: 16 words, 256 octets, a multiblock; RX_ERR on the last
word of a multiblock with a CRC-12 mismatch and on words with a bad sync header (07 R218; 08 R230). -/
def laneWords (data : List (BitVec 128)) (l : Nat) (crcBad : List (Fin 16 × Fin 16)) (headBad : List (Fin 16 × Fin 256)) :
    List LaneWord :=
  data.zipIdx.map (fun p => ⟨p.1, p.2 % 16 == 0,
    (p.2 % 16 == 15 && crcBad.any (fun b => b.1.val == l && b.2.val == p.2 / 16)) ||
      headBad.any (fun b => b.1.val == l && b.2.val == p.2)⟩)

/-- TX_DATA of lane j of transmit link k as it leaves the valve: the words of the samples passed in a request's cycles
(07 R218; 08 R227, R233). Word i begins a multiblock, TX_MBSTART, where i is a multiple of 16 and the request began with an
extended multiblock. -/
def State.txData (s : State) (k : Fin 4) (j : Nat) : List (BitVec 128) := laneData (s.txCfg k.val) s.valve.link[k].out j

/-- The blocks of lane j of transmit link k as they go out, each with the bit its sync header carries: the 32 of a multiblock
carry its CRC-12 and, the last of an extended multiblock, the end marker, as the standard defines them (08 R231; log 97). -/
def State.txLine (s : State) (k : Fin 4) (j : Nat) : List (Bool × BitVec 64) :=
  let blocks : List (BitVec 64) := (s.txData k j).flatMap (fun (w : BitVec 128) => [w.setWidth 64, (w >>> 64).setWidth 64])
  blocks.zipIdx.map (fun p =>
    let mb := p.2 / 32
    ((Config.syncWord ((blocks.drop (32 * mb)).take 32) ((mb + 1) % max (cfgE (s.txCfg k.val)) 1 == 0)).getLsbD (p.2 % 32),
      p.1))

/-- The samples that transmit link k sends in a cycle without a request: zero samples while it is in data, else nothing
(08 R231, R234). -/
def State.txIdle (s : State) (k : Fin 4) : Option (List (BitVec 16)) :=
  let w := s.txCfg k.val
  if s.jesd.txSt[k] = 2 then some (List.replicate (cfgFpc w * cfgM w * cfgS w) 0) else none

/-- RX_RELEASE: an extended multiblock of link k reaches the fabric, its first cycle being d, JESD_RX_RBD cycles after a
LEMC boundary; a CRC-12 mismatch of a multiblock counts in its lane (08 R227, R230, R240). -/
def execRxRelease (k : Fin 4) (d : Nat) (samples : List (List (BitVec 16))) (crcBad : List (Fin 16 × Fin 16))
    (headBad : List (Fin 16 × Fin 256)) (s : State) : Out :=
  let w := s.rxCfg k.val
  let rbd := s.fld (Reg.jesdRxRbd + 4 * k.val) 11 0
  when (decide (s.jesd.rxSt[k] = 3) && !s.wh.devLost && decide (rbd ≤ d) && s.lemcAt w (d - rbd)) s (fun s =>
    let s := s.atD d
    let bad := (crcBad.filter (fun b => (cfgLanes w).contains b.1.val)).eraseDups
    let s := s.crcCount (bad.map (·.1))
    let es := (List.range samples.length).map (fun i => (d + i, energy (cfgN w) (samples.getD i [])))
    let h := s.valve.eg[k]
    { s with
      jesd := { s.jesd with
        rxOut := vset s.jesd.rxOut k samples
        rxWord := Vector.ofFn (fun l : Fin 16 =>
          if (cfgLanes w).contains l.val then laneWords (laneData w samples (l.val - bits w.toNat 3 0)) l.val bad headBad
          else s.jesd.rxWord[l]) }
      valve := { s.valve with eg := vset s.valve.eg k { h with e := h.e ++ es.filter (fun p => p.2 != 0) } } })

/-! ### SYSREF (08 R228, R229) -/

/-- Is a capture in cycle d out of phase with the LEMC of an enabled link? -/
def State.srBad (s : State) (d : Nat) : Bool :=
  let off := (d : Int) + (s.fld Reg.jesdSysrefDly 11 0 : Int) - (s.jesd.lemc0 : Int)
  let bad (w : Word) : Bool := cfgLemc w != 0 && off % (cfgLemc w : Int) != 0
  (List.range 4).any (fun k => (s.jesd.rxEn.getLsbD k && bad (s.rxCfg k)) || (s.jesd.txEn.getLsbD k && bad (s.txCfg k)))

/-- A capture aligns the LEMC, or is checked against it; a realignment returns every receive link that is not off to align
and every transmit link that is not off to waiting (08 R228, R229; log 18). -/
def State.srCapture (s : State) (d : Nat) : State :=
  let lem := d + s.fld Reg.jesdSysrefDly 11 0
  if !s.jesd.srSeen then { s with jesd := { s.jesd with srSeen := true, lemc0 := lem } }
  else if s.srBad d then
    let s := (s.countEv Reg.jesdSrErr 15 0 Reg.jesdSrErr 16 1).setBit Reg.jesdStat 17
    if s.jesd.srTrack && !s.running then
      let j := s.jesd
      ({ s with jesd := { j with
          lemc0 := lem
          marker := 0
          rxSt := j.rxSt.map (fun x => if x = 0 then 0 else 2)
          txSt := j.txSt.map (fun x => if x = 0 then 0 else 1) } }).dropEg
    else s
  else s

/-- Loss of DEVCLK returns every link to off (08 R231); the enables keep their values (log 18). -/
def State.jesdOff (s : State) : State :=
  ({ s with jesd := { s.jesd with
      rxSt := Vector.replicate 4 0, txSt := Vector.replicate 4 0, lock := 0, marker := 0
      rxWord := Vector.replicate 16 [] } }).dropEg

/-- DEVCLK is present again: the links that are still enabled leave off (08 R230, R231; log 18). -/
def Jesd.resume (j : Jesd) : Jesd :=
  { j with
    rxSt := Vector.ofFn (fun k : Fin 4 => if j.rxEn.getLsbD k.val ∧ j.rxSt[k] = 0 then 1 else j.rxSt[k])
    txSt := Vector.ofFn (fun k : Fin 4 => if j.txEn.getLsbD k.val ∧ j.txSt[k] = 0 then 1 else j.txSt[k]) }

end Sys2Proof.Machine
end

