-- ==== Sys2Proof/Machine/Twin.lean ====
section
/-! DEFINITION. What the twin block and the firmware do for a pair: messages, ownership, digests, mirrored inputs,
leaving lockstep (13). -/
namespace Sys2Proof.Machine

/-! ### Levels and messages (13 R351 to R353) -/

/-- TX_OWN (13 R351). -/
def State.txOwn (s : State) : Bool :=
  !s.fatalSeen && (((s.mode == .solo || s.mode == .active) && !s.twin.ownDrop) || (s.mode == .shadow && s.twin.ownForce))

/-- Does the own heartbeat toggle (13 R351)? -/
def State.heartbeat (s : State) : Bool :=
  !s.fatalSeen && bit (s.reg Reg.twinCtl) 0 &&
    (s.mode == .ready || s.mode == .solo || s.mode == .active || s.mode == .shadow || s.mode == .selfTest)

/-- Send a message on the twin link, which carries it while it is up (13 R352). -/
def State.send (s : State) (m : Sent) : State :=
  if s.twin.link then { s with twin := { s.twin with sent := s.twin.sent ++ [m] } } else s

/-- Count in a TWIN counter (13 R377). -/
def State.twinCount (s : State) (a n : Nat) : State := s.countWord a Reg.twinStat 12 n

/-- Put TWIN_STAT.STATE. -/
def State.pairState (s : State) (n : Nat) : State := { s with twin := { s.twin with state := BitVec.ofNat 3 n } }

/-- TWIN_LOSS.CAUSE. -/
def State.lossCause (s : State) (n : Nat) : State := s.setFld Reg.twinLoss 3 0 n

/-- Is the shadow in lockstep, or in the checkpoint state? -/
def State.lockstep (s : State) : Bool := s.mode == .shadow && s.twin.state == 3
/-- The checkpoint state of a shadow. -/
def State.ckptState (s : State) : Bool := s.mode == .shadow && s.twin.state == 2

/-! ### Events to the host (12 R334)

An event waits in evQ until the host interface writes it, which EVENT says (log 94). -/

/-- Entries of a ring of size code n (12 R331). -/
def ringEntries (size : BitVec 4) : Nat := 2 ^ size.toNat

/-- A word of the MSI-X table at reset: every vector masked (12 R327; log 33). -/
def msixDefault (i : Nat) : Word := if i % 4 = 3 then 1 else 0

/-- Is vector v masked by its table entry? -/
def State.msixMasked (s : State) (v : Nat) : Bool := bit (sget msixDefault s.host.msixTab (4 * v + 3)) 0

/-- Raise an MSI-X vector: sent, or pending while its table entry masks it (12 R327, R334). -/
def State.msix (s : State) (v : Nat) : State :=
  if s.msixMasked v then { s with host := { s.host with pba := s.host.pba ||| (1#64 <<< v) } }
  else { s with host := { s.host with msix := s.host.msix ++ [v] } }

/-- Does the event ring take an entry (12 R331, R334)? -/
def State.evRoom (s : State) : Bool :=
  let r := s.host.ev
  r.en && !r.stopped && decide ((r.tail + 1) % ringEntries r.size ≠ r.head)

/-- Write one entry, cur being TICK_CUR at the event; PHASE is 1 on the first pass and changes at every wrap; vector 1
signals it (12 R334). -/
def State.putEvent (s : State) (code : BitVec 16) (cur v : Dbl) : State :=
  let h := s.host
  let r := h.ev
  let t := (r.tail + 1) % ringEntries r.size
  let e : Evt := ⟨code, cur, v, !(r.seq.getLsbD 0)⟩
  ({ s with host := { h with
      events := h.events ++ [e], ev := { r with tail := t, seq := if t = 0 then r.seq ^^^ 1 else r.seq } } }).msix 1

/-- An event is discarded and counted (12 R334). -/
def State.loseEvent (s : State) : State :=
  ({ s with host := { s.host with lost := true } }).countWord Reg.hostifEvLost Reg.hostifErrlog 8 1

/-- An event arises. -/
def State.event (s : State) (code : BitVec 16) (v : Dbl) : State :=
  { s with host := { s.host with evQ := s.host.evQ ++ [(code, s.tick.cur, v)] } }

/-- The event ring stops: the third attempt to write an entry has failed, which AER records (12 R334). -/
def State.stopEvents (s : State) : State :=
  ({ s with host := { s.host with
      ev := { s.host.ev with stopped := true, why := 3 }, aer := s.host.aer ++ [AerErr.entryWrite 1] } }).msix 3

/-- The host interface writes an event: discarded and counted where the ring does not take it; after a loss CODE 4 is
written first (12 R334). -/
def State.writeEvent (s : State) (x : BitVec 16 × Dbl × Dbl) : State :=
  let s := if s.host.lost && s.evRoom then
      { s.putEvent 4 s.tick.cur 0 with host := { (s.putEvent 4 s.tick.cur 0).host with lost := false } }
    else s
  if s.evRoom then s.putEvent x.1 x.2.1 x.2.2 else s.loseEvent

/-- The events that wait are written in order; written: the first entry is, else the ring stops (12 R334). -/
def State.writeEvents (s : State) (written : Bool) : State :=
  let q := s.host.evQ
  let s := { s with host := { s.host with evQ := [] } }
  let s := if !written && s.evRoom && !q.isEmpty then s.stopEvents else s
  q.foldl State.writeEvent s

/-- The pair event, CODE 3, and the twin link event on command-core line 3 (12 R334; 13; 09 R276). f and g: the frames
of a takeover from a checkpoint (13 R374). -/
def State.pairEvent (s : State) (cause : Nat) (f : Nat := 0) (g : Nat := 0) : State :=
  (s.event 3 (Config.pairData cause f g)).irq .cmd 3

/-! ### Leaving lockstep (13 R363) -/

/-- Does the member take part in a pair in lockstep, from either side (13 R357)? -/
def State.digesting (s : State) : Bool := (s.mode == .active && s.twin.state == 3) || s.lockstep

/-- Does the member form digests: Active, or Shadow in lockstep (13 R361)? They are exchanged in lockstep only. -/
def State.digestOn (s : State) : Bool := s.mode == .active || s.lockstep

/-- The pair leaves lockstep for a cause, as both members see it: the shadow goes back to checkpoint, or out; on a
divergence with DIV_HOLD it enters Fault-hold instead (13 R363). -/
def State.leaveLockstep (s : State) (cause : Nat) : State :=
  if !s.digesting then s
  else
    let ctl := s.reg Reg.twinCtl
    let hold := cause == 5 && bit ctl 2
    let shadow := s.lockstep
    let s := (s.lossCause cause).pairState (if bit ctl 1 && !hold then 2 else 4)
    let s := { s with twin := { s.twin with
      ownDig := [], peerDig := []
      digTicks := if shadow then [] else s.twin.digTicks
      vt := if shadow then [] else s.twin.vt } }
    if hold && shadow then s.fatal 18 else s

/-! ### Digests (13 R361, R362) -/

/-- One byte of CRC-64/ECMA-182 (13 R361). -/
def crc64Byte (c : Dbl) (b : Byte) : Dbl :=
  (List.range 8).foldl (fun (c : Dbl) _ =>
    if c.getLsbD 63 then (c <<< 1) ^^^ 0x42F0E1EBA9EA3693#64 else c <<< 1) (c ^^^ (b.setWidth 64 <<< 56))

/-- The CRC-64 of a byte list. -/
def crc64 (l : List Byte) : Dbl := l.foldl crc64Byte 0

/-- n little-endian bytes of a number. -/
def leBytes (n v : Nat) : List Byte := (List.range n).map (fun i => BitVec.ofNat 8 (v / 256 ^ i))

/-- The byte stream of a tick's digest (13 R361). -/
def digestBytes (n : Nat) (res : List (Bool × Nat × Nat × Dbl)) (vt : List (Nat × Nat × List (BitVec 16))) : List Byte :=
  let rs (u : Bool) := (res.filter (fun r => r.1 == u)).mergeSort (fun a b => decide (a.2.1 ≤ b.2.1))
  let one (r : Bool × Nat × Nat × Dbl) : List Byte := BitVec.ofNat 8 r.2.2.1 :: leBytes 8 r.2.2.2.toNat
  let link (k : Nat) := (vt.filter (fun p => p.1 == k)).mergeSort (fun a b => decide (a.2.1 ≤ b.2.1))
  leBytes 8 n ++ (rs false).flatMap one ++ (rs true).flatMap one ++
    (List.range 4).flatMap (fun k => (link k).flatMap (fun p => p.2.2.flatMap (fun v => leBytes 2 v.toNat)))

/-- A divergence or a late digest: TWIN_DIVERGE and the pair event on both members; lockstep ends (13 R362). -/
def State.diverge (s : State) (cause tick : Nat) : State :=
  let s := s.twinCount Reg.twinDiverge 1
  let s := if cause = 5 then
      (s.setReg Reg.twinDivtickLo (BitVec.ofNat 32 tick)).setReg Reg.twinDivtickHi (BitVec.ofNat 32 (tick / 2 ^ 32))
    else s
  (s.leaveLockstep cause).pairEvent cause

/-- Compare the digests that both members have given for a tick (13 R362). -/
def State.compareDigests (s : State) : State :=
  match s.twin.ownDig.find? (fun p => s.twin.peerDig.any (fun q => q.1 == p.1)) with
  | none => s
  | some p =>
    let q := s.twin.peerDig.find? (fun q => q.1 == p.1)
    let s := { s with twin := { s.twin with
      ownDig := s.twin.ownDig.filter (fun x => x.1 != p.1)
      peerDig := s.twin.peerDig.filter (fun x => x.1 != p.1) } }
    if s.digesting && q != some p then s.diverge 5 p.1 else s

/-- Is every request cycle of tick t presented: no request in progress began before its end without having reached it? -/
def State.vtKnown (s : State) (b1 : Nat) : Bool :=
  (List.finRange 4).all (fun k =>
    let l := s.valve.link[k]
    !l.req || decide (b1 ≤ l.start + l.seen))

/-- Form and send the digest of the oldest tick whose boundary has passed and whose TEND has retired, once its samples
are known (13 R361, R362). -/
def State.sendDigest (s : State) : State :=
  match s.twin.digTicks with
  | [] => s
  | t :: l => match t.b1 with
    | none => s
    | some b1 =>
      if t.ended && s.vtKnown b1 then
        let inT (p : Nat × Nat × List (BitVec 16)) : Bool := decide (t.b0 ≤ p.2.1) && decide (p.2.1 < b1)
        let v := crc64 (digestBytes t.n t.res (s.twin.vt.filter inT))
        let s := { s with twin := { s.twin with
          digTicks := l
          vt := s.twin.vt.filter (fun p => decide (b1 ≤ p.2.1))
          ownDig := if s.digesting then s.twin.ownDig ++ [(t.n, v)] else [] } }
        let s := (s.setReg Reg.twinDigLo (loHalf v)).setReg Reg.twinDigHi (hiHalf v)
        let s := (s.setReg Reg.twinDigtickLo (BitVec.ofNat 32 t.n)).setReg Reg.twinDigtickHi (BitVec.ofNat 32 (t.n / 2 ^ 32))
        if s.digesting then (s.send (.digest t.n v)).compareDigests else s
      else s

/-- A result delivered to an s register enters the digest of the tick whose program issued it (13 R361). -/
def State.digestResult (s : State) (urgent : Bool) (issue reg : Nat) (v : Dbl) : State :=
  match s.twin.digTicks.reverse with
  | [] => s
  | t :: l =>
    if t.ended then s
    else { s with twin := { s.twin with digTicks := (l.reverse) ++ [{ t with res := t.res ++ [(urgent, issue, reg, v)] }] } }

/-! ### Out, loss (13 R364, R368) -/

/-- The member is in a pair no more (13 R357: off). -/
def State.leavePair (s : State) : State :=
  { s with twin := { s.twin with
      state := 0, role := 0, ownForce := false, ownDrop := false, handF := none, lossAt := none, peer := none
      join := false, joinCap := none, armStep := 0, inputs := [], digTicks := [], vt := [], ownDig := [], peerDig := []
      ckptSend := none } }

/-- Enter out with a cause (13 R357). -/
def State.goOut (s : State) (cause : Nat) : State := (s.lossCause cause).pairState 4

end Sys2Proof.Machine
end

