-- ==== Sys2Proof/Machine/Image.lean ====
section
/-! DEFINITION. The layout of firmware and workload images (12 R338, R339). -/
namespace Sys2Proof.Machine

/-- The little-endian number of n bytes of an image from offset o. -/
def imgNat (raw : List Byte) (o n : Nat) : Nat :=
  ((raw.drop o).take n).foldr (fun b v => b.toNat + 256 * v) 0

/-- IMAGE_LEN. -/
def imgLen (raw : List Byte) : Nat := imgNat raw 8 4

/-- A section entry (12 R338). -/
structure Sect where
  ty : Nat
  dest : Nat
  off : Nat
  len : Nat
  deriving DecidableEq, Repr

/-- Section entry i. -/
def sectAt (raw : List Byte) (i : Nat) : Sect :=
  let o := 64 + 16 * i
  ⟨imgNat raw o 2, imgNat raw (o + 2) 6, imgNat raw (o + 8) 4, imgNat raw (o + 12) 4⟩

/-- The sections of an image. -/
def sections (raw : List Byte) : List Sect := (List.range (imgNat raw 6 2)).map (sectAt raw)

/-- Two sections share no byte. -/
def Sect.apart (a b : Sect) : Bool := decide (a.off + a.len ≤ b.off) || decide (b.off + b.len ≤ a.off)

/-- The content of a section. -/
def Sect.bytes (raw : List Byte) (x : Sect) : List Byte := (raw.drop x.off).take x.len

/-- Pieces of n bytes, as numbers. -/
def Sect.words (raw : List Byte) (x : Sect) (n : Nat) : List Nat :=
  (List.range (x.len / n)).map (fun i => imgNat raw (x.off + n * i) n)

/-- The firmware range of bulk stack 0 (12 R339). -/
def firmStart : Nat := 0x1000000000
/-- Its end. -/
def firmEnd : Nat := 0x1040000000

/-- Does [a, a + n) meet the firmware range? -/
def inFirm (a n : Nat) : Bool := decide (a < firmEnd) && decide (firmStart < a + n)

/-- Is [a, a + n) in bulk memory? -/
def inBulk (a n : Nat) : Bool := decide (firmStart ≤ a) && decide (a + n ≤ 0x1800000000)

/-- Is [a, a + n) in the cisterns? -/
def inCist (a n : Nat) : Bool := decide (0x10000000 ≤ a) && decide (a + n ≤ 0x12000000)

/-- Does a section type belong to firmware images, to workload images (12 R339)? -/
def firmType (ty : Nat) : Bool := decide (1 ≤ ty) && decide (ty ≤ 4)
/-- The workload types. -/
def workType (ty : Nat) : Bool := decide (16 ≤ ty) && decide (ty ≤ 21)

/-- Does a section keep to its row of 12 R339: destination and length? -/
def Sect.destOk (x : Sect) : Bool :=
  match x.ty with
  | 1 => decide (firmStart ≤ x.dest) && decide (x.dest + x.len ≤ firmEnd)
  | 2 => decide (firmStart ≤ x.dest) && decide (x.dest + x.len ≤ firmEnd)
  | 3 => x.len % 16 == 0 && decide (x.dest + x.len / 16 ≤ 8192)
  | 4 => x.len % 8 == 0 && decide (x.dest + x.len / 8 ≤ 512)
  | 16 => inBulk x.dest x.len && !inFirm x.dest x.len
  | 17 => x.len % 16 == 0 && decide (8192 ≤ x.dest) && decide (x.dest + x.len / 16 ≤ 16384)
  | 18 => x.len % 8 == 0 && decide (512 ≤ x.dest) && decide (x.dest + x.len / 8 ≤ 1024)
  | 19 => x.dest == 0 && x.len % 256 == 0
  | 20 => x.dest == 0
  | 21 => inCist x.dest x.len || (inBulk x.dest x.len && !inFirm x.dest x.len)
  | _ => false

/-- MAGIC, FORMAT, NSECT and the section table (12 R338): magic "SVTF" or "SVTW", trailer bytes at the end; unused entries
are 0. A type of the other kind of image is a format error too (12 R339). -/
def formatOk (fw : Bool) (raw : List Byte) : Bool :=
  let trailer := if fw then 96 else 48
  let ss := sections raw
  let n := imgNat raw 6 2
  imgNat raw 0 4 == (if fw then 0x46545653 else 0x57545653) && imgNat raw 4 2 == 1 && decide (1 ≤ n) && decide (n ≤ 12) &&
  decide (imgLen raw ≤ 24 * 2 ^ 20) && imgLen raw == raw.length &&
  ss.all (fun x => x.off % 64 == 0 && decide (256 ≤ x.off) && decide (x.off + x.len + trailer ≤ imgLen raw)) &&
  (List.range n).all (fun i => (List.range i).all (fun j => (sectAt raw i).apart (sectAt raw j))) &&
  (List.range 12).all (fun i => decide (i < n) || imgNat raw (64 + 16 * i) 16 == 0) &&
  ss.all (fun x => !(if fw then workType x.ty else firmType x.ty))

/-- The 48 bytes of an image from offset o, first byte highest. -/
def imgWide (raw : List Byte) (o : Nat) : BitVec 384 := BitVec.ofNat 384 (beNat ((raw.drop o).take 48))

/-- The image digest: SHA-384 of a workload image without its trailer (12 R338). -/
def imgDigest (raw : List Byte) : BitVec 384 := sha384 (raw.take (raw.length - 48))

/-- Does a workload image's trailer hold its digest (12 R338)? -/
def digestOk (raw : List Byte) : Bool := imgWide raw (raw.length - 48) == imgDigest raw

/-- Is a firmware image's trailer a signature of what stands before it, r and then s, by this key (12 R338)? -/
def signatureOk (key : PubKey) (raw : List Byte) : Bool :=
  let n := raw.length - 96
  ecdsaOk key (sha384 (raw.take n)) (imgWide raw n) (imgWide raw (n + 48))

end Sys2Proof.Machine
end

