-- ==== Sys2Proof/Machine/HostOps.lean ====
section
/-! DEFINITION. Replies, rings and firmware errors that the command rows share (12 R331 to R336). -/
namespace Sys2Proof.Machine

/-! ### Status codes (12 R336) -/

namespace Status
/-- OK. -/
def ok : Nat := 0
/-- BAD_OPCODE. -/
def badOpcode : Nat := 1
/-- BAD_PARAM. -/
def badParam : Nat := 2
/-- BAD_MODE. -/
def badMode : Nat := 3
/-- BUSY_RUNNING. -/
def busyRunning : Nat := 4
/-- SIGNATURE. -/
def signature : Nat := 5
/-- VERSION. -/
def version : Nat := 6
/-- FORMAT. -/
def format : Nat := 7
/-- VERIFY_FAIL. -/
def verifyFail : Nat := 8
/-- DMA_ERROR. -/
def dmaError : Nat := 9
/-- SEQ_ERROR. -/
def seqError : Nat := 10
/-- LIFE_CYCLE. -/
def lifeCycle : Nat := 11
/-- TIMEOUT. -/
def timeout : Nat := 12
/-- EDGE_FAIL. -/
def edgeFail : Nat := 13
/-- DEVICE_ERROR. -/
def deviceError : Nat := 14
/-- PAIR_REFUSED. -/
def pairRefused : Nat := 15
end Status

/-! ### The reply ring (12 R331, R333, R334) -/

/-- Has the reply ring room for one entry? A held reply leaves no room (12 R334). -/
def State.rpRoom (s : State) : Bool :=
  let r := s.host.rp
  r.en && !r.stopped && s.host.held.isNone && decide ((r.tail + 1) % ringEntries r.size ≠ r.head)

/-- Write one reply at the ring's tail; PHASE is 1 on the first pass and changes at every wrap; vector 0 signals a reply
flagged IRQ. -/
def State.putReply (s : State) (x : Reply) : State :=
  let h := s.host
  let r := h.rp
  let t := (r.tail + 1) % ringEntries r.size
  let s := { s with host := { h with
    replies := h.replies ++ [{ x with phase := !(r.seq.getLsbD 0) }]
    rp := { r with tail := t, seq := if t = 0 then r.seq ^^^ 1 else r.seq } } }
  if x.irq then s.msix 0 else s

/-- The reply ring stops with reason 3: vector 3, AER records the failure, and the reply that could not be written is held
(12 R334). -/
def State.holdReply (s : State) (x : Reply) : State :=
  ({ s with host := { s.host with
      held := some x, rp := { s.host.rp with stopped := true, why := 3 }, aer := s.host.aer ++ [AerErr.entryWrite 0] } }).msix 3

/-- The one reply of the command in execution (12 R333, R334). -/
def State.reply (s : State) (status : Nat) (res0 res1 : Dbl) : State :=
  match s.host.cur with
  | none => s
  | some c =>
    let x : Reply := ⟨c.slot.tag, c.slot.opcode, BitVec.ofNat 16 status, c.slot.seq, res0, res1, c.ring,
      c.slot.flags.getLsbD 1, false⟩
    let s := { s with host := { s.host with cur := none } }
    if c.slot.replyOk then s.putReply x else s.holdReply x

/-- A reply whose results the manual does not name: they are free (log 2). -/
def State.reply0 (s : State) (status : Nat) : State :=
  (s.useFree 2).reply status (BitVec.ofNat 64 (Config.freeNat s.free)) (BitVec.ofNat 64 (Config.freeNat (s.free + 1)))

/-- A reply with RESULT0 only. -/
def State.reply1 (s : State) (status : Nat) (res0 : Dbl) : State :=
  (s.useFree 1).reply status res0 (BitVec.ofNat 64 (Config.freeNat s.free))

/-- A command ring stops with a reason; vector 3 (12 R331, R332, R334). -/
def State.stopRing (s : State) (r : Fin 4) (why : BitVec 2) : State :=
  ({ s with host := { s.host with
      cr := vset s.host.cr r { s.host.cr[r] with stopped := true, why := why } } }).msix 3

/-- May the firmware serve a command with this opcode now: the command in execution carries it, and the device is in
neither Off nor Reset? -/
def State.serving (s : State) (opcode : Nat) : Bool :=
  s.alive && (match s.host.cur with
    | some c => c.slot.opcode.toNat == opcode
    | none => false)

/-- A fatal error in the command core leaves every command without a reply (14 R382). -/
def State.cmdDead (s : State) : Bool := s.fld (Reg.seqcoreFatal + 0x10000) 2 0 != 0

/-! ### Mirrored inputs (13 R358, R359) -/

/-- The twin link as the requester of a forwarded write (11 R304, R323). -/
def twinReq : Requester := ⟨16, false, false, false, false⟩

/-- Apply one input: data to memory, a seed or a USER command to the workload, a bay image to its bay: the state, the status
and RESULT0 of a failure (12 R335). A shadow's writes come from its twin link. -/
def State.applyInput (s : State) (x : Mirrored) : State × Nat × Dbl :=
  match x with
  | .data dst l =>
    let r := s.putRange (if s.mode = .shadow then twinReq else supReq .cmd) dst.toNat l
    (r.1, if r.2 = 0 then Status.ok else Status.deviceError, BitVec.ofNat 64 r.2)
  | .seed v => ({ s with host := { s.host with seedVal := v } }, Status.ok, 0)
  | .user op ps => ({ s with host := { s.host with user := s.host.user ++ [(op, ps)] } }, Status.ok, 0)
  | .bay b fs =>
    let r := s.bayImage b fs
    (r.1, if r.2 then Status.ok else Status.edgeFail, (r.1.reg Reg.edgeCfgErr).setWidth 64)

/-- A mirrored input takes effect: a shadow whose write fails leaves lockstep; the command that brought it is replied to, with
T in RESULT1 (12 R335; 13 R358, R359). -/
def State.applyMirror (s : State) (m : MirIn) : State :=
  let r := s.applyInput m.x
  let s := if r.2.1 = Status.deviceError ∧ s.lockstep = true then r.1.leaveLockstep 7 else r.1
  match m.own with
  | none => s
  | some res =>
    let t := BitVec.ofNat 64 m.t
    if r.2.1 ≠ Status.ok then s.reply r.2.1 r.2.2 t
    else match res with
      | some v => s.reply Status.ok v t
      | none => (s.useFree 1).reply Status.ok (BitVec.ofNat 64 (Config.freeNat s.free)) t

/-- Apply every input of effective tick T at most n, in order (13 R359). -/
def State.applyInputs (s : State) (n : Nat) : State :=
  let due := s.twin.inputs.filter (fun m => decide (m.t ≤ n))
  let s := { s with twin := { s.twin with inputs := s.twin.inputs.filter (fun m => decide (n < m.t)) } }
  due.foldl State.applyMirror s

/-- Is an input due for tick n? -/
def State.inputsDue (s : State) (n : Nat) : Bool := s.twin.inputs.any (fun m => decide (m.t ≤ n))

/-- Does the command in execution wait for its mirrored input's tick? -/
def State.mirrorWaits (s : State) : Bool := s.twin.inputs.any (fun m => m.own.isSome)

/-- A command whose mirrored input will not be applied any more, since the member has left the run, gets BAD_MODE (12 R333;
log 94). -/
def State.dropMirror (s : State) : State := if s.mirrorWaits then s.reply0 Status.badMode else s

/-- Modes served by the firmware (12 R335, "every firmware mode"). -/
def State.firmware (s : State) : Bool :=
  s.alive && s.mode != .bare && s.mode != .priming

end Sys2Proof.Machine
end

