-- ==== Sys2Proof/Machine/Tick.lean ====
section
/-! DEFINITION. The tick generator: arming, boundaries, tick starts, overruns, late warnings, loss of DEVCLK
(05 R157 to R165; 13 R355, R356, R359, R375; 14 R401). -/
namespace Sys2Proof.Machine

/-- Do the clocks derived from DEVCLK run (14 R384, R401)? -/
def State.devRuns (s : State) : Bool :=
  s.alive && s.mode != .bare && s.mode != .priming && s.mode != .quiescent && !s.wh.devLost

/-! ### Enabling and stopping (05 R157, R159 to R161) -/

/-- The generator stops: no further boundary or start; a pending period or frame length takes effect; a tick program in
progress is judged no more. -/
def Tick.stop (t : Tick) (d : Nat) : Tick :=
  { t with
    run := false, armed := false, first := false, join := none, held := none, judged := true
    heldPhase := if t.run then d - t.lastB else t.heldPhase
    period := t.pendPeriod.getD t.period, pendPeriod := none
    frameLen := t.pendFrame.getD t.frameLen, pendFrame := none }

/-- Stop the generator; the duty slot in progress ends, and the valve closes (08 R234, R239). -/
def State.tickStop (s : State) : State :=
  let s := if s.tick.run then s.slotEnd.closing else s
  { s with tick := s.tick.stop s.dcyc }

/-- Arm the generator (05 R157). -/
def Tick.arm (t : Tick) : Tick :=
  { t with
    count := 0, cur := 0, frame := 0, inframe := 0, armed := true, run := false, first := false, join := none
    held := none, heldPhase := 0 }

/-- Put TICK_CTL.EN: 0 to 1 arms, 1 to 0 stops. -/
def State.tickEn (s : State) (on : Bool) : State :=
  let was := s.tick.en
  let s := if was && !on then s.tickStop else s
  { s with tick := { (if !was && on then s.tick.arm else s.tick) with en := on } }

/-- A write was ignored (05 R159). -/
def State.tickCfgErr (s : State) : State := s.setBit Reg.tickStat 5

/-- A write of TICK_CTL: the reserved policy is ignored as a whole (05 R159). -/
def State.tickCtlWrite (s : State) (v : Word) : State :=
  if bits v.toNat 2 1 = 3 then s.tickCfgErr
  else
    let s := s.tickEn (bit v 0)
    { s with tick := { s.tick with policy := (v >>> 1).setWidth 2, warnEn := bit v 3 } }

/-- A write of TICK_PERIOD (05 R159). -/
def State.tickPeriodWrite (s : State) (v : Word) : State :=
  let n := bits v.toNat 24 0
  if 64 ≤ n ∧ n ≤ 16777216 then
    { s with tick := if s.tick.en then { s.tick with pendPeriod := some n } else { s.tick with period := n } }
  else s.tickCfgErr

/-- A write of TICK_FRAME_LEN (05 R159). -/
def State.tickFrameWrite (s : State) (v : Word) : State :=
  let n := bits v.toNat 16 0
  if 1 ≤ n ∧ n ≤ 65536 then
    { s with tick := if s.tick.en then { s.tick with pendFrame := some n } else { s.tick with frameLen := n } }
  else s.tickCfgErr

/-- TICK_CTL (05 R157, R159, R160, R170). -/
def execTickCtl (q : Requester) (v : Word) (s : State) : Out :=
  done s (regWrite q Reg.tickCtl s (fun s => s.tickCtlWrite v))

/-- TICK_PERIOD (05 R159, R170). -/
def execTickPeriod (q : Requester) (v : Word) (s : State) : Out :=
  done s (regWrite q Reg.tickPeriod s (fun s => s.tickPeriodWrite v))

/-- TICK_FRAME_LEN (05 R159, R170). -/
def execTickFrameLen (q : Requester) (v : Word) (s : State) : Out :=
  done s (regWrite q Reg.tickFrameLen s (fun s => s.tickFrameWrite v))

/-! ### LINK_UP (12 R335) -/

/-- LINK_UP succeeds: the generator is re-armed by clearing and setting EN; RESULT0 is JESD_STAT. -/
def State.linkUpDone (s : State) : State :=
  let s := { s with host := { s.host with linkUp := none } }
  let s := (s.tickEn false).tickEn true
  s.reply1 Status.ok (s.jesdStatus.setWidth 64)

/-- LEMC_BOUNDARY: the CRC-12 mismatches found since the last lane event count (08 R228 to R231); a LINK_UP that waits
succeeds once every enabled link is in data. -/
def execLemcBoundary (d : Nat) (crcBad : List (Fin 16)) (s : State) : Out :=
  when (s.jesd.srSeen && !s.wh.devLost) s (fun s =>
    let s := (s.crcCount crcBad).lemcStep d
    if s.host.linkUp.isSome && s.linksInData then s.linkUpDone else s)

/-! ### Captures (05 R157; 08 R228, R236; 13 R355, R356) -/

/-- The valve block that the enabled transmit links give (08 R236). -/
def State.blockLen (s : State) : Nat :=
  match (List.range 4).find? (fun k => s.jesd.txEn.getLsbD k) with
  | none => 256
  | some k => 256 / (cfgFpc (s.txCfg k) * cfgS (s.txCfg k))

/-- A capture arms a waiting generator: tick 0 follows TICK_OFFSET cycles later; in join mode the generator counts from
here and waits for JOIN. The valve block is latched, and the DEVCLK dividers are reset (07 R199). -/
def State.tickCapture (s : State) (d : Nat) : State :=
  let t := s.tick
  if !t.armed || t.first || t.join.isSome || s.twin.joinCap.isSome then s
  else
    let s := { s with valve := { s.valve with block := s.blockLen }, tick := { t with divAt := d } }
    if s.twin.join && s.twin.role == 2 then { s with twin := { s.twin with joinCap := some d } }
    else { s with tick := { s.tick with first := true, nextB := d + s.fld Reg.tickOffset 24 0 % t.period } }

/-- The steps of pair formation and of a join at captures c, c + 1 and c + 2: the active side sends ARM at c; those whose
generator is to be armed set EN after c + 1 and command START at the tick; an active member that accepts a joiner sends
JOIN at c + 2. -/
def State.twinCapture (s : State) (d : Nat) : State :=
  let step (n : Nat) (s : State) : State := { s with twin := { s.twin with armStep := n } }
  match s.twin.armStep with
  | 1 => step 2 (s.send .arm)
  | 2 => if s.mode == .active then step 3 s else step 3 ((s.tickEn true).edgeStart true)
  | 3 =>
    if s.mode == .active then
      step 0 (s.send (.join s.tick.count.toNat (d - s.tick.lastB) s.tick.frame.toNat s.tick.inframe))
    else step 0 s
  | _ => s

/-- SYSREF_CAPTURE: cycle d captures a SYSREF edge (05 R157; 08 R228, R229; 13 R355, R356). -/
def execSysrefCapture (d : Nat) (s : State) : Out :=
  when s.devRuns s (fun s => (((s.atD d).srCapture d).tickCapture d).twinCapture d)

/-! ### Tick starts (05 R162 to R164; 13 R359) -/

/-- Has a fatal error stopped the tick programs (05 R162; 14 R382)? -/
def State.stopped (s : State) : Bool := s.mode == .faultHold || s.fatalSeen

/-- Does HOLD act as HOLD here: it acts as LOG in Ready and in Halted (05 R163; 16 R425)? -/
def State.holdActs (s : State) : Bool := s.tick.policy == 2 && s.mode != .ready && s.mode != .halted

/-- Deliver the start of tick n: mirrored inputs due by then are applied first and hold it; TICK_CUR takes n and
sequencer-core line 0 is raised. -/
def State.startTick (s : State) (n : Dbl) : State :=
  let s := if s.inputsDue n.toNat then (s.twinCount Reg.twinMirHold 1).applyInputs n.toNat else s
  let s := if s.digestOn then
      { s with twin := { s.twin with digTicks := s.twin.digTicks ++ [⟨n.toNat, s.tick.lastB, none, false, []⟩] } }
    else s
  ({ s with tick := { s.tick with cur := n, inTick := true, judged := false, startAt := s.tick.lastB } }).irq .seq 0

/-- Judge the tick that ends: a program whose TEND has not retired has overrun, once (05 R162). -/
def State.judge (s : State) : State :=
  if s.tick.inTick && !s.tick.judged then
    let s := { s with tick := { s.tick with isOver := true, judged := true } }
    let s := (s.countWord Reg.tickOverruns Reg.tickStat 7 1).irq .seq 1
    if s.holdActs then s.fatal 15 else s.contained 36
  else s

/-- The start of tick n at its boundary: delivered, withheld, or held until the late TEND (05 R163). A shadow in the
checkpoint state runs no tick program (13 R357). -/
def State.offerStart (s : State) (n : Dbl) : State :=
  if s.stopped || s.ckptState then s
  else if !s.tick.inTick then s.startTick n
  else
    let skip (s : State) : State := s.countWord Reg.tickSkips Reg.tickStat 8 1
    if s.tick.policy = 1 then skip s
    else
      let s := if s.tick.held.isSome then skip s else s
      { s with tick := { s.tick with held := some n } }

/-! ### Boundaries (05 R158; 13 R355, R356, R374, R375) -/

/-- The first boundary of a forming pair or a join: the candidate enters its mode, in the checkpoint state, and replies
to RUN with the tick's number. -/
def State.formPair (s : State) : State :=
  if s.twin.state = 1 ∧ s.mode = .ready then
    match s.host.runReq with
    | none => s
    | some role =>
      let n := s.tick.count
      let s := s.goMode (if role = 1 then .active else .shadow)
      let s := { s with
        host := { s.host with runReq := none }
        twin := { s.twin with state := 2, join := false, joinCap := none, armStep := 0 } }
      s.reply1 Status.ok n
  else s

/-- A shadow in the checkpoint state enters Active at frame boundary G, from the state of the last checkpoint (13 R374). -/
def State.resume (s : State) : State :=
  let f := s.twin.ckptDone.getD 0
  let g := s.tick.frame.toNat
  let s := (s.goMode .active).setBit Reg.twinStat 10
  ({ s with twin := { s.twin with role := 1, ownForce := false, handF := none, lossAt := some s.tick.lastB } }).pairEvent
    (s.fld Reg.twinLoss 3 0) f g

/-- The active member's view of a joiner that has entered Shadow at this boundary (13 R356). -/
def State.joined (s : State) : State :=
  if s.mode == .active && s.twin.join && s.twin.armStep == 0 then
    (({ s with twin := { s.twin with join := false } }).pairState 2).pairEvent 0
  else s

/-- What a frame boundary ends: a commanded stop, or a planned handover named for this frame; a shadow enters Active only
with OWN_IN 0 (13 R366), and from the checkpoint state at the first boundary after F that 13 R374 lets it take (13 R375). -/
def State.frameEnd (s : State) : State :=
  let frame := s.tick.frame.toNat
  let s := match s.twin.handF with
    | some f =>
      if s.mode == .active && f == frame then
        ({ (s.goMode .ready).leavePair with host := { s.host with stopReq := false } }).reply0 Status.ok
      else if s.lockstep && decide (f ≤ frame) && !s.twin.peerOwn then
        let s := (s.goMode .active).pairState 4
        { s with twin := { s.twin with role := 1, ownForce := false, handF := none } }
      else if s.ckptState && decide (f < frame) && !s.twin.peerOwn && s.twin.ckptRx.isNone &&
          decide (s.twin.copyAt + 64 ≤ s.tick.lastB) then s.resume
      else s
    | none => s
  if s.host.stopReq && s.twin.handF.isNone && s.running then
    ({ (s.goMode .ready).leavePair with host := { s.host with stopReq := false } }).reply0 Status.ok
  else s

/-- The numbers of the tick that a boundary begins: tick, frame, tick in frame. -/
def Tick.numbers (t : Tick) : Dbl × Dbl × Nat :=
  match t.join with
  | some (n, f, i) => (BitVec.ofNat 64 n, BitVec.ofNat 64 f, i)
  | none =>
    if t.first then (0, 0, 0)
    else if t.frameLen ≤ t.inframe + 1 then (t.count + 1, t.frame + 1, 0)
    else (t.count + 1, t.frame, t.inframe + 1)

/-- The divider D of the pulse tree, which the image names; a tree that does not come from DEVCLK has none, and D is then
free (07 R199, R221; log 55). -/
def Edge.pulseDiv (e : Edge) : Nat :=
  (treeDivider (Config.treeCode e.frames (Config.pulseTree e.frames)).val).getD (2 ^ (Config.pulseOdd e.frames).toNat)

/-- The first cycle of the pulse of a boundary: the first edge of the pulse tree at or after it, the dividers having been
reset by the capture that armed the generator (07 R199, R221). -/
def Tick.pulseAt (t : Tick) (div : Nat) : Nat :=
  let late := (t.nextB - t.divAt) % div
  if late = 0 then t.nextB else t.nextB + (div - late)

/-- The generator's own part of a boundary: numbers, pending settings, pulses of one period of a tree that divides DEVCLK
by div (05 R158, R159; 07 R221). -/
def Tick.boundary (t : Tick) (div : Nat) : Tick :=
  let (n, f, i) := t.numbers
  let period := if i = 0 then t.pendPeriod.getD t.period else t.period
  { t with
    count := n, frame := f, inframe := i
    period := period
    pendPeriod := if i = 0 then none else t.pendPeriod
    frameLen := if i = 0 then t.pendFrame.getD t.frameLen else t.frameLen
    pendFrame := if i = 0 then none else t.pendFrame
    lastB := t.nextB, nextB := t.nextB + period
    run := true, armed := false, first := false, join := none, lateDone := false
    pulse := t.pulseAt div
    framePulse := if i = 0 then t.pulseAt div else t.framePulse
    pulseLen := div }

/-- Is a boundary coming? -/
def Tick.coming (t : Tick) : Bool := t.run || t.first || t.join.isSome

/-- The slot grid starts with the generator, at position 0; a boundary that joins a running grid finds its place on it
(08 R239; 13 R356). -/
def State.slotStart (s : State) (d : Nat) : State :=
  let w := s.valve.lim.slot.toNat
  { s with valve := { s.valve with slotNext := d + w - s.position d % w } }

/-- One boundary. -/
def State.boundary (s : State) : State :=
  let starting := s.tick.first || s.tick.join.isSome
  let d := s.tick.nextB
  let s := { s.atD d with tick := s.tick.boundary s.edge.pulseDiv, edge := s.edge.meet d }
  let s := if starting then s.slotStart d else s
  let s := if s.stopped then s else s.judge
  let s : State := { s with twin := { s.twin with digTicks := s.twin.digTicks.map (fun (t : DigTick) =>
    { t with b1 := match t.b1 with
      | some b => some b
      | none => some d }) } }
  let s := s.sendDigest
  let s : State := if starting then s.formPair else s.joined
  let s := if s.tick.inframe = 0 then s.frameEnd else s
  s.offerStart s.tick.count

/-- The lead of the late warning in force (05 R165). -/
def State.warnLead (s : State) : Nat := min (s.fld Reg.tickWarnLead 24 0) (s.tick.period - 1)

/-- The late warning of the coming boundary: counted, line 2 raised (05 R165). -/
def State.late (s : State) : State :=
  let s := s.atD (s.tick.nextB - s.warnLead)
  let s := { s with tick := { s.tick with lateDone := true } }
  (s.countWord Reg.tickLates Reg.tickStat 9 1).irq .seq 2

/-! ### The end of a tick program (05 R156, R162, R163) -/

/-- TEND retires in DEVCLK cycle d: TICK_TEND records it, the program ends, mirrored inputs of the next tick are applied,
a held start is delivered, and the digest may go out (05 R156; 13 R359, R362). While DEVCLK is lost its cycles stand still
(05 R161). -/
def State.tickEnd (s : State) (d : Nat) : State :=
  if !s.tick.inTick then s
  else
    let d := if s.wh.devLost then s.dcyc else d
    let s := s.atD d
    let t := s.tick
    let v := min (d - t.startAt) 0x1FFFFFF
    let s := s.setReg Reg.tickTend (BitVec.ofNat 32 (v + 2 ^ 31 * b2n t.isOver))
    let s := s.setReg Reg.tickTendMax (BitVec.ofNat 32 (max (s.reg Reg.tickTendMax).toNat v))
    let s := { s with
      tick := { t with inTick := false, isOver := false, held := none }
      twin := { s.twin with digTicks := s.twin.digTicks.map (fun (x : DigTick) =>
        if x.n = t.cur.toNat then { x with ended := true } else x) } }
    let s := (s.applyInputs (max (t.cur.toNat + 1) (match t.held with
      | some n => n.toNat
      | none => 0))).sendDigest
    match t.held with
    | some n => if s.stopped then s else s.startTick n
    | none => s

/-! ### DEVCLK (05 R161; 08 R231; 14 R401, R442) -/

/-- DEVCLK_LOST: the CLOCK block reports DEVCLK lost: the generator stops with EN kept, every link is off, and the loss is
a fatal error in Solo, Active and Shadow and contained otherwise. -/
def execDevclkLost (s : State) : Out :=
  when (s.alive && s.mode != .quiescent && !s.wh.devLost) s (fun s =>
    let s := (s.tickStop).jesdOff
    let s := { s with wh := { s.wh with devLost := true, devOk := false, conv := false } }
    let s := s.setBit Reg.clockStat 5
    if s.running then s.fatal 14 else s.contained 38)

/-- DEVCLK_PRESENT: after 1 ms within 100 to 750 MHz DEVCLK is reported present, with its frequency;
enabled links start again. -/
def execDevclkPresent (khz : Nat) (s : State) : Out :=
  when (s.alive && s.mode != .quiescent && decide (100000 ≤ khz) && decide (khz ≤ 750000)) s (fun s =>
    { s with
      jesd := s.jesd.resume
      wh := { s.wh with
        devLost := false, devOk := true, khz := khz, conv := s.mode != .bare && s.mode != .priming } })

end Sys2Proof.Machine
end

