-- ==== Sys2Proof/Machine/Issue.lean ====
section
/-! DEFINITION. The array-group instructions of the sequencer core and the delivery of results to its s registers
(05 R143 to R156). -/
namespace Sys2Proof.Machine

/-! ### Plane pointers (05 R143, R144) -/

/-- The layout of a pointer in a general register (05 R143). -/
def Ptr.toDbl (p : Ptr) : Dbl := BitVec.ofNat 64 (p.base + 2 ^ 12 * p.width + 2 ^ 19 * p.fmt)

/-- The pointer that a general register spells, unless it is faulty (05 R144). -/
def Ptr.ofDbl (v : Dbl) : Option Ptr :=
  let n := v.toNat
  let w := bits n 18 12
  let f := bits n 22 19
  let need : Option Nat := match f with
    | 2 => some 1
    | 3 => some 16
    | 4 => some 16
    | 5 => some 32
    | _ => none
  if w = 0 ∨ 64 < w ∨ 5 < f ∨ bits n 63 23 ≠ 0 ∨ (need.isSome ∧ need ≠ some w) then none
  else some ⟨bits n 11 0, w, f⟩

/-! ### Issue (05 R145 to R152) -/

/-- Entries of a queue, reserved ones included (05 R148). -/
def Mseq.used (m : Mseq) (urgent : Bool) : Nat :=
  (if urgent then m.uq else m.nq).length + (m.accept.filter (fun e => e.urgent == urgent)).length

/-- Is the queue full: 32 normal entries, 8 urgent ones (05 R149)? -/
def Mseq.full (m : Mseq) (urgent : Bool) : Bool := decide ((if urgent then 8 else 32) ≤ m.used urgent)

/-- The acceptance cycle of an issue that retires in cycle r: two cycles later, one entry of a queue a cycle (05 R148). -/
def Mseq.acceptAt (m : Mseq) (urgent : Bool) (r : Nat) : Nat :=
  ((if urgent then m.uq else m.nq) ++ m.accept.filter (fun e => e.urgent == urgent)).foldl
    (fun a e => max a (e.acc + 1)) (r + 2)

/-- An issue retires: its entry is reserved, and with SV its s register has a new owner (05 R148, R151, R152). -/
def State.issueEntry (s : State) (e : Entry) : State :=
  let n := s.iss.issueNo + 1
  let e := { e with issue := n, acc := s.mseq.acceptAt e.urgent s.acyc }
  let sreg := match e.sreg with
    | some r => vset s.iss.sreg r ⟨s.iss.sreg[r].val, false, n, true⟩
    | none => s.iss.sreg
  { s with
    iss := { s.iss with issueNo := n, sreg := sreg }
    mseq := { s.mseq with accept := s.mseq.accept ++ [e] } }

/-- Put the sequencer core's wait. -/
def State.seqWait (s : State) (w : Option Wait) : State := { s with seq := { s.seq with wait := w } }

/-- Issue to a queue: retires when the queue has a free entry, else it waits (05 R148, R149). Illegal on the command
core, and where SV is 0 and an s register is named (05 R146). -/
def issueInstr (u : Bool) (c : CoreId) (rtn : BitVec 10) (pd ps1 ps2 : Fin 16) (r : Fin 8) (sv : Bool) (s : State) : Act :=
  if c = .cmd ∨ (sv = false ∧ r ≠ 0) then illegal c s
  else
    let e : Entry := ⟨rtn.toNat, s.iss.ptr[pd], s.iss.ptr[ps1], s.iss.ptr[ps2], if sv then some r else none, 0, 0, u⟩
    if s.mseq.full u then .stay (s.seqWait (some (.issue e))) else .next (s.issueEntry e)

/-- ISSN (05 R145 to R152). -/
def execIssn (c : CoreId) (rtn : BitVec 10) (pd ps1 ps2 : Fin 16) (r : Fin 8) (sv : Bool) (s : State) : Out :=
  runInstr c false s (issueInstr false c rtn pd ps1 ps2 r sv)

/-- ISSU (05 R145 to R152). -/
def execIssu (c : CoreId) (rtn : BitVec 10) (pd ps1 ps2 : Fin 16) (r : Fin 8) (sv : Bool) (s : State) : Out :=
  runInstr c false s (issueInstr true c rtn pd ps1 ps2 r sv)

/-! ### Retirement of a waiting instruction (05 R149) -/

/-- May the sequencer core's waiting instruction retire: the core runs, is not to halt and takes no interrupt first? -/
def State.waitFree (s : State) : Bool :=
  !s.coreDown .seq && s.seq.run && !s.seq.halted && s.seq.haltReq == 0 && !s.intDue .seq

/-- The waiting instruction retires after f. -/
def State.endWait (s : State) : State := (s.seqWait none).retire .seq

/-- ISSUE_RETIRE: an entry has left the full queue and the waiting issue retires (05 R149). -/
def execIssueRetire (s : State) : Out :=
  when s.waitFree s (fun s =>
    match s.seq.wait with
    | some (.issue e) => if s.mseq.full e.urgent then s else (s.issueEntry e).endWait
    | _ => s)

/-! ### Idleness (05 R154) -/

/-- The first array cycle at whose start a stream is idle, when no event of its own is still to come: queues, routine,
restart slot and deliveries are done, and its last write commits in the cycle before. -/
def State.idleFrom (s : State) (urgent : Bool) : Option Nat :=
  let m := s.mseq
  let busy := m.used urgent != 0 || (!urgent && m.restart.isSome) || s.sump.deliver.any (fun d => d.urgent == urgent) ||
    (match m.run with
      | some r => r.entry.urgent == urgent
      | none => false)
  if busy then none
  else
    let w := s.arr.flight.filter (fun w => w.urgent == urgent && w.scrub.isNone)
    let d := if urgent then s.sump.doneU else s.sump.doneN
    some (w.foldl (fun a w => max a (w.due + 1)) (match m.lastP with
      | some (p, u) => if u = urgent then max (p + 1) (d + 1) else d + 1
      | none => if d = 0 then 0 else d + 1))

/-- The same for the normal stream, or for both. -/
def State.idleBoth (s : State) (both : Bool) : Option Nat :=
  match s.idleFrom false, (if both then s.idleFrom true else some 0) with
  | some a, some b => some (max a b)
  | _, _ => none

/-- Is the array's clock already at cycle c, or free to move there (log 13)? -/
def State.canReach (s : State) (c : Nat) : Bool := s.mseq.run.isNone || decide (c ≤ s.acyc)

/-- A wait for idleness ends now where the streams are idle at the present cycle. -/
def State.idleNow (s : State) (both : Bool) : Bool :=
  match s.idleBoth both with
  | some c => decide (c ≤ s.acyc)
  | none => false

/-- A waiting instruction for idleness retires in the first idle cycle. -/
def State.idleRetire (s : State) (both : Bool) (f : State → State) : State :=
  match s.idleBoth both with
  | some c => if s.canReach c then (f (s.settle c |>.reach c)).endWait else s
  | none => s

/-- AWAIT: blocks until the normal stream, or both streams, are idle (05 R147, R154). -/
def execAwait (c : CoreId) (u : Bool) (s : State) : Out :=
  runInstr c false s (fun s =>
    if c = .cmd then illegal c s
    else if s.idleNow u then .next s
    else .stay (s.seqWait (some (.await u))))

/-- AWAIT_RETIRE (05 R154). -/
def execAwaitRetire (s : State) : Out :=
  when s.waitFree s (fun s =>
    match s.seq.wait with
    | some (.await u) => s.idleRetire u id
    | _ => s)

/-- SREAD: blocks until the s register is valid, then copies it to gd; 0 where no issue has named it (05 R147, R155). -/
def execSread (c : CoreId) (gd : Fin 32) (r : Fin 8) (s : State) : Out :=
  runInstr c false s (fun s =>
    let x := s.iss.sreg[r]
    if c = .cmd then illegal c s
    else if !x.named then .next (s.gw c gd 0)
    else if x.valid then .next (s.gw c gd x.val)
    else .stay (s.seqWait (some (.sread gd r))))

/-- SREAD_RETIRE (05 R155). -/
def execSreadRetire (s : State) : Out :=
  when s.waitFree s (fun s =>
    match s.seq.wait with
    | some (.sread gd r) =>
      let x := s.iss.sreg[r]
      if x.valid then (s.gw .seq gd x.val).endWait else s
    | _ => s)

/-- TEND: ends the current tick program once both streams are idle; d is the DEVCLK cycle of its retirement where it
retires at once (05 R147, R156). -/
def execTend (c : CoreId) (d : Nat) (s : State) : Out :=
  runInstr c false s (fun s =>
    if c = .cmd then illegal c s
    else if s.idleNow true then .next (s.tickEnd d)
    else .stay (s.seqWait (some .tend)))

/-- TEND_RETIRE: the waiting TEND retires in DEVCLK cycle d (05 R156). -/
def execTendRetire (d : Nat) (s : State) : Out :=
  when s.waitFree s (fun s =>
    match s.seq.wait with
    | some .tend => s.idleRetire true (fun s => s.tickEnd d)
    | _ => s)

/-! ### The end of a tick (05 R158, R165; 01 R27) -/

/-- A TEND that retires in the very core cycle of a synchronised boundary counts as retired before it (01 R27): where the
tie holds, the waiting TEND retires first, in DEVCLK cycle d. -/
def State.tieEnd (s : State) (tie : Bool) (d : Nat) : State :=
  match tie && s.waitFree, s.seq.wait with
  | true, some .tend => s.idleRetire true (fun s => s.tickEnd d)
  | _, _ => s

/-- TICK_BOUNDARY: the next boundary of the tick generator (05 R158). tie: a waiting TEND retires in the core cycle of the
synchronised boundary (01 R27). -/
def execTickBoundary (tie : Bool) (s : State) : Out :=
  when (s.devRuns && s.tick.coming) s (fun s => (s.tieEnd tie s.tick.nextB).boundary)

/-- LATE_WARNING: TICK_WARN_LEAD cycles before a boundary, with the current program's TEND not retired; with a lead of 0 a
TEND in the same core cycle counts as retired before it (05 R165; 01 R27). -/
def execLateWarning (tie : Bool) (s : State) : Out :=
  when (s.devRuns && s.tick.coming && s.tick.warnEn && s.tick.inTick && !s.tick.lateDone && !s.stopped) s (fun s =>
    let s := s.tieEnd (tie && s.warnLead == 0) s.tick.nextB
    if s.tick.inTick then s.late else s)

/-! ### Pointer instructions (05 R143, R144, R147) -/

/-- Replace pointer p. -/
def State.setPtr (s : State) (p : Fin 16) (x : Ptr) : State :=
  { s with iss := { s.iss with ptr := vset s.iss.ptr p x } }

/-- PPSET (05 R144): a faulty value raises the array pointer fault and changes nothing. -/
def execPpset (c : CoreId) (gs : Fin 32) (p : Fin 16) (s : State) : Out :=
  runInstr c false s (fun s =>
    if c = .cmd then illegal c s
    else match Ptr.ofDbl ((s.core c).gr gs) with
      | some x => .next (s.setPtr p x)
      | none => .fault s 4 (s.core c).pc.toNat none)

/-- PPGET (05 R147). -/
def execPpget (c : CoreId) (gd : Fin 32) (p : Fin 16) (s : State) : Out :=
  runInstr c false s (fun s => if c = .cmd then illegal c s else .next (s.gw c gd s.iss.ptr[p].toDbl))

/-- PPADD: BASE := BASE + the signed immediate, modulo 4,096 (05 R144). -/
def execPpadd (c : CoreId) (p : Fin 16) (imm : BitVec 12) (s : State) : Out :=
  runInstr c false s (fun s =>
    if c = .cmd then illegal c s
    else
      let x := s.iss.ptr[p]
      .next (s.setPtr p { x with base := (x.base + imm.toNat) % 4096 }))

/-! ### Delivery (05 R151 to R153; 02 R79) -/

/-- S_REGISTER_VALID: the earliest due delivery whose result has left the sump reaches its s register; a sump result
enters the digest of the tick that issued it (05 R151 to R153; 02 R79; 13 R361). -/
def execSRegisterValid (s : State) : Out :=
  done s (match argMin (·.due) (s.sump.deliver.filter (fun d => match d.needs with
      | none => true
      | some i => !(s.sump.flight.any (·.id == i)))) with
    | none => s
    | some d =>
      let s := { s with sump := { s.sump with
        deliver := removeFirst (fun x => x == d) s.sump.deliver
        doneN := if d.urgent then s.sump.doneN else max s.sump.doneN d.due
        doneU := if d.urgent then max s.sump.doneU d.due else s.sump.doneU } }
      let x := s.iss.sreg[d.sreg]
      let s := s.reach d.due
      let s := if s.digestOn && d.needs.isSome && x.owner == d.issue && !x.valid && s.mode != .faultHold then
          s.digestResult d.urgent d.issue d.sreg.val d.value
        else s
      s.sValid d.sreg d.issue d.value)

end Sys2Proof.Machine
end

