-- ==== Sys2Proof/Machine/TwinCmd.lean ====
section
/-! DEFINITION. The commands of paired operation: messages, formation, checkpoints, loss, takeover, handover; and the
valve's opening, which completes a takeover (13; 08 R236). -/
namespace Sys2Proof.Machine

/-! ### What HELLO compares (13 R354) -/

/-- EDGE_STAT.STATE (07 R211). -/
def edgeCode : EdgeSt → Nat
  | .unloaded => 0 | .loading => 1 | .loaded => 2 | .running => 3

/-- JESD_CTL as it reads (08). -/
def State.jesdCtl (s : State) : Word :=
  BitVec.ofNat 32 (s.jesd.rxEn.toNat + 16 * s.jesd.txEn.toNat + 256 * b2n s.jesd.srTrack)

/-- The link settings that a pair compares. -/
def State.linkWords (s : State) : List Word :=
  s.jesdCtl :: (List.range 12).map (fun i => s.reg (Reg.jesdRxcfg + 4 * i)) ++ [s.reg Reg.jesdSysrefDly]

/-- The 48-bit value of a TWIN address pair. -/
def State.twinAddr (s : State) (a : Nat) : Nat := (s.reg a).toNat + 2 ^ 32 * (s.reg (a + 4)).toNat

/-- Regions of the checkpoint table, at most 64 (13 R369). -/
def State.ckptTable (s : State) : List (Nat × Nat) :=
  let b := s.twinAddr Reg.twinCkptBaseLo
  (List.range (min (s.fld Reg.twinCkptN 6 0) 64)).map (fun i => (s.memNat (b + 16 * i) 8, s.memNat (b + 16 * i + 8) 4))

/-- The total length of the regions. -/
def State.ckptLen (s : State) : Nat := s.ckptTable.foldl (fun n r => n + r.2) 0

/-- The checks of pair formation; in a join the active member's fabric runs and the joiner's is loaded (13 R354, R356).
own: this member's role. -/
def State.pairChecks (s : State) (own : Nat) (h : Hello) (join : Bool) : Bool :=
  let mine := edgeCode s.edge.st
  let peer := h.edgeSt.toNat
  let fabric := if join then (if own = 1 then mine == 3 && peer == 2 else mine == 2 && peer == 3)
    else mine == 2 && peer == 2
  own + h.role.toNat == 3 && h.role != 0 && h.sel != s.twin.sel && s.host.wl == some h.digest && h.live == s.arr.live &&
  h.period == s.tick.period && h.frameLen == s.tick.frameLen && h.offset == s.fld Reg.tickOffset 24 0 &&
  h.policy == s.tick.policy && h.links == s.linkWords && h.linksInData && s.linksInData && fabric &&
  h.imageId == s.edge.imageId && h.ckptN == s.fld Reg.twinCkptN 6 0 && h.ckptTable == s.ckptTable

/-- Pair formation fails: RUN replies PAIR_REFUSED and the member stays in Ready (13 R354). -/
def State.refusePair (s : State) : State :=
  ({ s.leavePair with host := { s.host with runReq := none } }).reply0 Status.pairRefused

/-- The HELLO that this member sends (13 R353, R354). -/
def State.helloOut (s : State) : Hello where
  digest := s.host.wl.getD 0
  level := s.host.fwLevel
  verA := s.host.fwVer.setWidth 8
  verB := (s.host.fwVer >>> 8).setWidth 8
  verC := (s.host.fwVer >>> 16).setWidth 16
  live := s.arr.live
  period := s.tick.period
  frameLen := s.tick.frameLen
  offset := s.fld Reg.tickOffset 24 0
  policy := s.tick.policy
  links := s.linkWords
  linksInData := s.linksInData
  imageId := s.edge.imageId
  edgeSt := BitVec.ofNat 2 (edgeCode s.edge.st)
  ckptN := s.fld Reg.twinCkptN 6 0
  ckptTable := s.ckptTable
  role := s.twin.role
  out := s.mode == .active && s.twin.state == 4
  sel := s.twin.sel

/-- A message arrives on the twin link, which is up; retx: how often it was retransmitted, because it had failed its CRC,
before it arrived. Each retransmission counts in TWIN_LINK_ERR and is a corrected error of the twin link (13 R352; 15 R403);
it counts at the member that receives the message (log 75). -/
def State.message (s : State) (retx : Nat) (f : State → State) : Out :=
  when (s.alive && s.twin.link) s (fun s =>
    f (if retx = 0 then s else (s.twinCount Reg.twinLinkErr retx).corrected 4))

/-- A received HELLO shows the peer's level and version, and its heartbeat (13 TWIN_PEER; log 20). -/
def State.seePeer (s : State) (h : Hello) : State :=
  let s := s.setReg Reg.twinPeer (BitVec.ofNat 32 (h.level.toNat + 2 ^ 16 * h.verB.toNat + 2 ^ 24 * h.verA.toNat))
  { s with twin := { s.twin with peer := some h, hb := true } }

/-- HELLO: the checks of formation or of a join (13 R354 to R356). -/
def execHello (h : Hello) (retx : Nat) (s : State) : Out :=
  s.message retx (fun s =>
    let role := s.twin.role.toNat
    if s.mode = .ready ∧ s.twin.state = 1 ∧ s.twin.peer.isNone ∧ s.host.runReq.isSome then
      let join := role == 2 && h.role == 1 && h.out
      let ok := s.pairChecks role h join
      let s := s.seePeer h
      if ok then
        let s := s.tickEn false
        { s with twin := { s.twin with join := join, armStep := if role = 1 then 1 else 0 } }
      else s.refusePair
    else if s.mode = .active ∧ s.twin.state = 4 ∧ h.role = 2 ∧ s.twin.join = false then
      let ok := s.pairChecks 1 h true
      let s := s.seePeer h
      let s := s.send (.hello s.helloOut)
      if ok then { s with twin := { s.twin with join := true, armStep := 1 } } else s.pairEvent 0
    else s.seePeer h)

/-- HELLO_TIMEOUT: no HELLO within 100 ms (13 R354). -/
def execHelloTimeout (s : State) : Out :=
  when (s.mode == .ready && s.twin.state == 1 && s.twin.peer.isNone && s.host.runReq.isSome) s State.refusePair

/-- ARM: the shadow candidate sets its EN after the next capture (13 R355, R356). -/
def execArm (retx : Nat) (s : State) : Out :=
  s.message retx (fun s =>
    if s.mode == .ready && s.twin.state == 1 && s.twin.role == 2 && s.twin.peer.isSome && s.twin.armStep == 0 &&
      s.twin.joinCap.isNone && !s.tick.en then { s with twin := { s.twin with armStep := 2 } } else s)

/-- JOIN: the joiner learns the active member's tick position at its own arming capture, and makes its first boundary at
the next cycle whose phase is 0 (13 R356). -/
def execJoinMsg (n phase frame inframe : Nat) (retx : Nat) (s : State) : Out :=
  s.message retx (fun s => match s.twin.joinCap with
    | none => s
    | some c =>
      if s.tick.armed && s.tick.join.isNone && s.devRuns then
        let m := (s.dcyc - c + phase) / s.tick.period + 1
        let total := inframe + m
        { s with tick := { s.tick with
            nextB := c + m * s.tick.period - phase
            join := some (n + m, frame + total / s.tick.frameLen, total % s.tick.frameLen) } }
      else s)

/-! ### The link (13 R352, R368) -/

/-- TWIN_LINK_UP: the link is up; the twin link event (13 R352; 09 R276). -/
def execTwinLinkUp (s : State) : Out :=
  when (s.alive && bit (s.reg Reg.twinCtl) 0 && !s.twin.link) s (fun s =>
    ({ s with twin := { s.twin with link := true } }).irq .cmd 3)

/-- An active member loses its shadow: it enters out and serves on (13 R367, R368). -/
def State.loseShadow (s : State) (cause : Nat) : State :=
  if s.mode == .active && (s.twin.state == 2 || s.twin.state == 3) then
    let s := s.goOut cause
    { s with twin := { s.twin with ownDig := [], peerDig := [], ckptSend := none } }
  else s

/-- TWIN_LINK_DOWN: no valid message for 10 µs: an active member enters out, a shadow in lockstep leaves it (13 R352,
R368). -/
def execTwinLinkDown (s : State) : Out :=
  when s.twin.link s (fun s =>
    let s := ({ s with twin := { s.twin with link := false } }).irq .cmd 3
    if s.mode == .active then s.loseShadow 4 else s.leaveLockstep 4)

/-! ### Loss of the active member, takeover (13 R364 to R367, R374) -/

/-- The loss of the peer, detected in cycle d: an active member enters out; a shadow records the cause and, with OWN_IN 0,
takes over (13 R364, R365, R368). -/
def State.peerLost (s : State) (cause d : Nat) : State :=
  if s.mode == .active then s.loseShadow cause
  else if s.mode == .shadow && (s.twin.state == 2 || s.twin.state == 3) && s.twin.lossAt.isNone then
    let s := (s.atD d).lossCause cause
    { s with twin := { s.twin with
        lossAt := some d, handF := none, ownForce := s.lockstep && !s.twin.peerOwn } }
  else s

/-- FAULT: the peer has raised a fatal error (13 R353, R364). -/
def execFaultMsg (d : Nat) (retx : Nat) (s : State) : Out := s.message retx (fun s => s.peerLost 2 d)

/-- STEPDOWN: without a boundary a loss; with one a planned handover (13 R364, R375). -/
def execStepdown (boundary : Option Nat) (d : Nat) (retx : Nat) (s : State) : Out :=
  s.message retx (fun s =>
    if s.mode == .shadow then
      match boundary with
      | none => s.peerLost 3 d
      | some f => { s with twin := { s.twin with handF := some f } }
    else s)

/-- HEARTBEAT_SILENCE: 64 ns without a heartbeat transition (13 R364, R368). -/
def execHeartbeatSilence (d : Nat) (s : State) : Out :=
  when s.alive s (fun s => ({ s with twin := { s.twin with hb := false } }).peerLost 1 d)

/-- OWN_IN_CHANGE: the synchronised OWN_IN becomes level in cycle d; when it falls, a shadow that waits for it takes
TX_OWN (13 R364, R365, R375). -/
def execOwnInChange (level : Bool) (d : Nat) (s : State) : Out :=
  when s.alive s (fun s =>
    let s := { s.atD d with twin := { s.twin with peerOwn := level } }
    if level || !(s.mode == .shadow) then s
    else if s.twin.handF.isSome then { s with twin := { s.twin with ownForce := s.lockstep } }
    else if s.twin.lossAt.isSome && !s.twin.ownForce then
      { s with twin := { s.twin with lossAt := some d, ownForce := s.lockstep } }
    else s)

/-- OWN_IN_TIMEOUT: OWN_IN is still 1 one microsecond after the loss: the shadow enters out with cause "heartbeat"
(13 R364). -/
def execOwnInTimeout (s : State) : Out :=
  when (s.mode == .shadow && s.twin.lossAt.isSome && s.twin.peerOwn) s (fun s =>
    let s := s.goOut 1
    ({ s with twin := { s.twin with lossAt := none, ownForce := false } }).pairEvent 1)

/-- TAKEOVER: a shadow in lockstep enters Active 66 cycles after the loss; one in the checkpoint state at the first frame
boundary at least 64 cycles after its copy ended, and its tick program starts there (13 R365, R374). -/
def execTakeover (d : Nat) (s : State) : Out :=
  done s (match s.twin.lossAt with
    | none => s
    | some c =>
      if s.twin.peerOwn || s.wh.devLost || s.fatalSeen then s
      else if s.lockstep && s.twin.ownForce && d == c + 66 then
        let s := (s.atD d).goMode .active
        { s with twin := { s.twin with role := 1, ownForce := false } }
      else if s.ckptState && s.twin.ckptRx.isNone && s.tick.run && s.tick.inframe == 0 && d == s.tick.lastB &&
          decide (s.twin.copyAt + 64 ≤ d) then
        let s := (s.atD d).resume
        s.offerStart s.tick.count
      else s)

/-- VALVE_OPEN: with every closing condition clear the valve opens at a block boundary; that opening completes a takeover
(08 R236; 13 R365, R374). -/
def execValveOpen (d : Nat) (s : State) : Out :=
  when (!s.valve.open_ && s.valveCond == 0 && s.blockBoundary d) s (fun s =>
    let s := s.valveOpen d
    if s.mode == .active && s.twin.lossAt.isSome then
      let s := s.twinCount Reg.twinFailover 1
      let event := s.twin.state != 2
      let s := { s.pairState 4 with twin := { (s.pairState 4).twin with lossAt := none } }
      if event then s.pairEvent (s.fld Reg.twinLoss 3 0) else s
    else s)

/-- OWNERSHIP_CONFLICT: TX_OWN and OWN_IN have both been 1 for 8 cycles: member B raises the fatal error, member A keeps
the medium (13 R366). -/
def execOwnershipConflict (s : State) : Out :=
  when (s.alive && s.txOwn && s.twin.peerOwn && s.twin.sel) s (fun s => (s.lossCause 8).fatal 17)

/-- The cycle of the boundary that begins frame f, seen from now: pending settings hold from the next frame on (05 R159). -/
def Tick.frameAt (t : Tick) (f : Nat) : Nat :=
  t.nextB + (t.frameLen - t.inframe - 1) * t.period +
    (f - t.frame.toNat - 1) * (t.pendFrame.getD t.frameLen * t.pendPeriod.getD t.period)

/-- HANDOVER: at F − 128 the active member drops TX_OWN (13 R375). -/
def execHandover (d : Nat) (s : State) : Out :=
  done s (match s.twin.handF with
    | none => s
    | some f =>
      if s.mode == .active && s.tick.run && decide (s.tick.frame.toNat < f) && d + 128 == s.tick.frameAt f then
        { s.atD d with twin := { s.twin with ownDrop := true } }
      else s)

/-! ### Mirrored inputs and digests (13 R358 to R363) -/

/-- The address that a mirrored input writes first. -/
def mirroredAddr : Mirrored → Nat
  | .data dst _ => dst.toNat
  | _ => 0

/-- FWD: a mirrored input arrives at the shadow and is acknowledged; code: the ring's response to the twin link's write of
the received message; other than OK it is logged, and the shadow leaves lockstep (11 R323; 13 R358, R359). -/
def execFwd (t : Nat) (x : Mirrored) (code : BitVec 4) (retx : Nat) (s : State) : Out :=
  s.message retx (fun s =>
    if !s.lockstep then s
    else
    let s := s.send (.ack t)
    if code = 0 then { s with twin := { s.twin with inputs := s.twin.inputs ++ [⟨t, x, true, none⟩] } }
    else (logUntagged s twinReq (mirroredAddr x) code.toNat).leaveLockstep 7)

/-- Mark the first unacknowledged input of tick t. -/
def ackFirst (t : Nat) : List MirIn → List MirIn
  | [] => []
  | m :: l => if m.t = t ∧ m.acked = false then { m with acked := true } :: l else m :: ackFirst t l

/-- ACK: the shadow has received an input (13 R353, R359). -/
def execAck (t : Nat) (retx : Nat) (s : State) : Out :=
  s.message retx (fun s =>
    if s.mode == .active then { s with twin := { s.twin with inputs := ackFirst t s.twin.inputs } } else s)

/-- MIRROR_DEADLINE: an input is not acknowledged by the boundary of tick T − 1: lockstep ends with cause "mirror"
(13 R359). -/
def execMirrorDeadline (s : State) : Out :=
  when (s.lockstep || (s.digesting && s.twin.inputs.any (fun m => !m.acked && decide (m.t ≤ s.tick.count.toNat + 1)))) s
    (fun s => s.leaveLockstep 7)

/-- DIGEST: the peer's digest of a tick arrives and is compared with the own one (13 R361, R362). -/
def execDigest (tick : Nat) (value : Dbl) (retx : Nat) (s : State) : Out :=
  s.message retx (fun s =>
    if s.digesting then ({ s with twin := { s.twin with peerDig := s.twin.peerDig ++ [(tick, value)] } }).compareDigests
    else s)

/-- Is a digest of the peer overdue: tick n + DIG_LAG has ended without it (13 R362)? -/
def State.digestOverdue (s : State) : Bool :=
  let lag := s.fld Reg.twinLead 15 8
  (s.twin.ownDig.map (·.1) ++ s.twin.digTicks.map (·.n)).any (fun n =>
    decide (n + lag < s.tick.count.toNat) && !(s.twin.peerDig.any (·.1 == n)))

/-- DIGEST_LATE: the shadow leaves lockstep with cause "digest late"; an active member whose shadow's digests have stopped
enters out (13 R362, R367). -/
def execDigestLate (s : State) : Out :=
  when (s.digesting && s.digestOverdue) s (fun s =>
    if s.mode == .active then ((s.twinCount Reg.twinDiverge 1).loseShadow 6).pairEvent 6 else s.diverge 6 0)

/-! ### Checkpoints (13 R369 to R373) -/

/-- TWIN_CKPT_GO: in Active with a shadow in the checkpoint state, a checkpoint for the next frame boundary is sent; ignored
while one is in progress (13 R371). -/
def State.ckptGo (s : State) : State :=
  if s.mode == .active && s.twin.state == 2 && s.twin.ckptSend.isNone then
    let f := s.tick.frame.toNat + 1
    let regions := s.ckptTable.map (fun r => s.bytes r.1 r.2)
    ({ s with twin := { s.twin with ckptSend := some (f, false) } }).send (.ckpt f regions (regions.map crc64))
  else s

/-- TWIN_CKPT_GO (13 R371, R377). -/
def execTwinCkptGo (q : Requester) (s : State) : Out := done s (regWrite q Reg.twinCkptCtl s State.ckptGo)

/-- CHECKPOINT_COMPLETE: at frame boundary F the checkpoint is complete, or abandoned and counted where its transfer has not
ended (13 R371). -/
def execCheckpointComplete (ended : Bool) (s : State) : Out :=
  done s (match s.twin.ckptSend with
    | none => s
    | some (f, _) =>
      if s.tick.frame.toNat < f then s
      else
        let s := { s with twin := { s.twin with ckptSend := none } }
        if ended then { s with twin := { s.twin with ckptDone := some f } } else s.twinCount Reg.twinCkptLate 1)

/-- CKPT: the shadow receives a checkpoint of frame boundary f into the next of its two buffers. It is complete where the
transfer ended in time and every region of the table came with the CRC that its bytes have (13 R371, R372). -/
def execCkpt (f : Nat) (regions : List (List Byte)) (crcs : List Dbl) (ended : Bool) (retx : Nat) (s : State) : Out :=
  s.message retx (fun s =>
    if !s.ckptState then s
    else
    let intact := ended && regions.map List.length == s.ckptTable.map (·.2) && regions.map crc64 == crcs
    let b := s.twinAddr Reg.twinCkptRxLo + (if s.twin.ckptBuf then s.ckptLen else 0)
    let l := regions.flatten
    let s := if inMem b (max l.length 1) then s.memPut 29 b l else s
    if intact then { s with twin := { s.twin with ckptRx := some (f, regions), ckptBuf := !s.twin.ckptBuf } } else s)

/-- CHECKPOINT_COPY_END: the firmware has copied the buffer to the regions' own addresses; TWIN_CKPT_FRAME records F
(13 R372). -/
def execCheckpointCopyEnd (s : State) : Out :=
  when (s.mode == .shadow) s (fun s =>
    match s.twin.ckptRx with
    | none => s
    | some (f, regions) =>
      let s := (s.ckptTable.zip regions).foldl (fun s r =>
        if inMem r.1.1 (max r.1.2 1) then s.memPut 8 r.1.1 (r.2.take r.1.2) else s) s
      let s := (s.setReg Reg.twinCkptFrameLo (BitVec.ofNat 32 f)).setReg Reg.twinCkptFrameHi (BitVec.ofNat 32 (f / 2 ^ 32))
      { s with twin := { s.twin with ckptRx := none, ckptDone := some f, copyAt := s.dcyc } })

/-- Are the twin protocol levels equal (13 R376)? -/
def State.levelsEqual (s : State) : Bool :=
  match s.twin.peer with
  | some h => h.level == s.host.fwLevel
  | none => false

/-- ENTER_LOCKSTEP: at a frame boundary F whose checkpoint was copied in full before, with equal levels, the pair is in
lockstep; the shadow's tick program starts (13 R373). -/
def execEnterLockstep (s : State) : Out :=
  when ((s.ckptState || (s.mode == .active && s.twin.state == 2)) && s.levelsEqual && s.tick.run && s.tick.inframe == 0 &&
      s.twin.ckptDone == some s.tick.frame.toNat && s.twin.lossAt.isNone &&
      (s.mode == .active || decide (s.twin.copyAt < s.tick.lastB))) s (fun s =>
    let shadow := s.mode == .shadow
    let s := s.pairState 3
    if shadow then s.offerStart s.tick.count else s)

/-- RESYNC_FAIL: two seconds without lockstep (13 R373). -/
def execResyncFail (s : State) : Out := when s.ckptState s (fun s => s.setBit Reg.twinStat 11)

end Sys2Proof.Machine
end

