-- ==== Sys2Proof/Machine/Power.lean ====
section
/-! DEFINITION. Fields and switched domains, resets and the start-up sequence, rails, temperature, the wellhead watchdog,
Quiescent and wake (02 R67 to R74; 14 R378 to R402; 12 R341 to R345). -/
namespace Sys2Proof.Machine

/-! ### The repair map (02 R65 to R71) -/

/-- The field that holds a segment row (02 R65). -/
def fieldOfRow (r : Nat) : Nat := fieldOfTile (r / 512)

/-- A row without a fault holds 8 (02 R66). -/
def rowDefault (_ : Nat) : BitVec 4 := 8

/-- The rows that a byte of a map copy holds: 2n in its low nibble, 2n + 1 in its high one (02 R65). -/
def mapRows (p : Nat × Byte) : List (Nat × BitVec 4) :=
  [(2 * p.1, p.2.setWidth 4), (2 * p.1 + 1, (p.2 >>> 4).setWidth 4)]

/-- Put each of the rows into a map, in order. -/
def putRows (m : List (Nat × BitVec 4)) (l : List (Nat × BitVec 4)) : List (Nat × BitVec 4) :=
  l.foldl (fun m p => sset rowDefault m p.1 (mapValue p.2)) m

/-- The effective map that the next power-up of a field applies: the map of the last load and the overlay (02 R69). -/
def State.effMap (s : State) : List (Nat × BitVec 4) := putRows s.arr.map s.arr.overlay

/-- Is field f dead: by that map (02 R68), as one whose pump or status path has failed (01 R18), or, without a good copy, like
every field (02 R67)? -/
def State.fieldDead (s : State) (f : Nat) : Bool :=
  !s.arr.mapOk || s.arr.pathBad.getLsbD f || s.effMap.any (fun p => fieldOfRow p.1 == f && p.2 == 15)

/-- The wellhead builds the effective map: copy 0, else copy 1, then the log in order; ARRAY_DEAD_FIELDS follows
(02 R67, R68). -/
def State.loadMap (s : State) : State :=
  let fl := s.wh.flash
  let copy : Option (List (Nat × Byte)) := match fl.copy0 with
    | some m => some m
    | none => fl.copy1
  let s := { s with arr := { s.arr with
    mapOk := copy.isSome
    mapCopy := fl.copy0.isNone && copy.isSome
    map := putRows (putRows [] ((copy.getD []).flatMap mapRows)) fl.log
    mapLog := (fl.log.map (fun (p : Nat × BitVec 4) => p.1)).eraseDups
    overlay := [] } }
  { s with arr := { s.arr with
    dead := (List.range 16).foldl (fun (d : BitVec 16) f => if s.fieldDead f then d ||| (1#16 <<< f) else d) 0 } }

/-- A field that is switched on applies the effective map to its cells (02 R71); TILE_REPAIR.CHANGED names the rows that
came from the log or the overlay. -/
def State.applyMap (s : State) (f : Nat) : State :=
  let rows := (s.arr.mapLog ++ s.arr.overlay.map (fun p => p.1)).eraseDups.filter (fun r => fieldOfRow r == f)
  { s with arr := { s.arr with
    force := putRows (s.arr.force.filter (fun p => fieldOfRow p.1 != f)) (s.effMap.filter (fun p => fieldOfRow p.1 == f))
    changed := s.arr.changed.filter (fun r => fieldOfRow r != f) ++ rows } }

/-! ### Field domains (14 R385) -/

/-- The code of a field's state in POWER_FLD_REQ and POWER_FLD_STAT (14 R400). -/
def FldSt.code : FldSt → Nat
  | .off => 0 | .retain => 1 | .on => 2

/-- The state that a code asks for; 3 asks for nothing. -/
def fldCode : Nat → Option FldSt
  | 0 => some .off
  | 1 => some .retain
  | 2 => some .on
  | _ => none

/-- The state a field has, or is changing to. -/
def State.fldGoal (s : State) (f : Fin 16) : FldSt :=
  match s.pwr.chg.find? (·.1 == f.val) with
  | some p => p.2
  | none => s.pwr.fld[f]

/-- Put field f's request. -/
def State.putFldReq (s : State) (f : Fin 16) (c : Nat) : State :=
  { s with pwr := { s.pwr with req := setBits s.pwr.req (2 * f.val + 1) (2 * f.val) c } }

/-- Begin a change of field f to t, if it is one. A dead field stays off (DEAD_REF); off to retain is refused
(REQ_ERR); a refused request leaves the request as the field is. -/
def State.fieldBegin (s : State) (f : Fin 16) (t : FldSt) : State :=
  let old := s.pwr.fld[f]
  if old = t then s
  else
    let go (s : State) : State := { s with pwr := { s.pwr with chg := s.pwr.chg ++ [(f.val, t)] } }
    if old = .off then
      let b := 1#16 <<< f.val
      let dead := s.fieldDead f.val
      let s := { s with arr := { s.arr with dead := if dead then s.arr.dead ||| b else s.arr.dead &&& ~~~b } }
      if dead then (s.setBit Reg.powerStat 17).putFldReq f 0
      else if t = .retain then (s.setBit Reg.powerStat 16).putFldReq f 0
      else go s
    else go s

/-- One field of a POWER_FLD_REQ write: during a change it waits for its end. -/
def State.fieldReq (s : State) (f : Fin 16) (c : Nat) : State :=
  match fldCode c with
  | none => s.setBit Reg.powerStat 16
  | some t =>
    let s := s.putFldReq f c
    if s.pwr.chg.any (·.1 == f.val) then s else s.fieldBegin f t

/-- A write of POWER_FLD_REQ: in Active and Shadow one that would change a field is refused as a whole (14 R385). -/
def State.fldReqWrite (s : State) (v : Word) : State :=
  let code (f : Fin 16) : Nat := bits v.toNat (2 * f.val + 1) (2 * f.val)
  let changes := (List.finRange 16).any (fun f => match fldCode (code f) with
    | some t => t != s.fldGoal f
    | none => false)
  if (s.mode == .active || s.mode == .shadow) && changes then s.setBit Reg.powerStat 18
  else (List.finRange 16).foldl (fun s f => s.fieldReq f (code f)) s

/-- POWER_FLD_REQ (14 R385, R400). -/
def execPowerFldReq (q : Requester) (v : Word) (s : State) : Out :=
  done s (regWrite q Reg.powerFldReq s (fun s => s.fldReqWrite v))

/-- Field f leaves the array: not live, its pump's descriptor ends with status 2, its injections are cancelled
(02 R72, R86; 06 R193). -/
def State.dryField (s : State) (f : Fin 16) : State :=
  let b := 1#16 <<< f.val
  let p := s.pump[f]
  let p := if p.desc.isSome && p.result.isNone && s.arr.live.getLsbD f.val then { p with result := some 2 } else p
  { s with
    pump := vset s.pump f p
    arr := ({ s.arr with live := s.arr.live &&& ~~~b }).cancelInj f.val }

/-- Field f, not live, reaches state t. Off to on: the map is applied and the clear begins; retain to on: contents kept,
ready to be live; to retain: CY, TG, LK and IO are lost (02 R71, R73; 14 R385). -/
def State.putField (s : State) (f : Fin 16) (t : FldSt) : State :=
  let b := 1#16 <<< f.val
  let old := s.pwr.fld[f]
  let keep (p : Plane) : Plane := p &&& ~~~(fieldMask f.val)
  let a := s.arr
  let s : State := match t with
    | .on => if old = .off then { s.applyMap f.val with arr := { (s.applyMap f.val).arr with clearing := a.clearing ||| b } }
      else { s with arr := { a with cleared := a.cleared ||| b } }
    | .retain => { s with arr := { a with
        cy := keep a.cy, tg := keep a.tg, lk := keep a.lk, io := keep a.io, cleared := a.cleared &&& ~~~b } }
    | .off => { s with arr := { a with clearing := a.clearing &&& ~~~b, cleared := a.cleared &&& ~~~b } }
  { s with pwr := { s.pwr with fld := vset s.pwr.fld f t } }

/-- FIELD_SWITCH_END: the change of field f ends, once the field is not live; a request that waited begins (14 R385). -/
def State.switchEnd (s : State) (f : Fin 16) : State :=
  match s.pwr.chg.find? (·.1 == f.val) with
  | none => s
  | some p =>
    if s.arr.live.getLsbD f.val then s
    else
      let s := s.putField f p.2
      let s := { s with pwr := { s.pwr with chg := s.pwr.chg.filter (·.1 != f.val) } }
      match fldCode (bits s.pwr.req.toNat (2 * f.val + 1) (2 * f.val)) with
      | some t => s.fieldBegin f t
      | none => s

/-- FIELD_SWITCH_END (14 R385). -/
def execFieldSwitchEnd (f : Fin 16) (s : State) : Out := when s.alive s (fun s => s.switchEnd f)

/-! ### BCAST and EDGE (14 R386) -/

/-- A refusal under R385 or R386. -/
def State.orderErr (s : State) : State := s.setBit Reg.powerStat 18

/-- POWER_DOM.BCAST_REQ: refused off while a field is on. -/
def State.bcastWrite (s : State) (on : Bool) : State :=
  if !on && (s.pwr.fld.any (· == .on) || s.pwr.chg.any (·.2 == .on)) then (if s.pwr.bcast then s.orderErr else s)
  else { s with pwr := { s.pwr with bcastReq := on, bcast := on } }

/-- EDGE is switched off: the fabric is unloaded, and station 31 is dry (07 R214; 11 R320). -/
def State.edgeOff (s : State) : State :=
  { s.edgeUnload with
    pwr := { s.pwr with edgeOn := false }
    ring := { s.ring with
      drain := s.ring.drain &&& ~~~(1#32 <<< 31)
      dry := s.ring.dry ||| (1#32 <<< 31) } }

/-- Station 31 reports ready after its domain's power-up (11 R320). -/
def State.edgeReady (s : State) : State := { s with ring := { s.ring with dry := s.ring.dry &&& ~~~(1#32 <<< 31) } }

/-- EDGE is switched on: the fabric is UNLOADED, station 31 not isolated, and dry until it reports ready (07 R211; 11 R319,
R320). -/
def State.edgeOnNow (s : State) : State :=
  { s.edgeUnload with
    pwr := { s.pwr with edgeOn := true }
    ring := { s.ring with
      dry := s.ring.dry ||| (1#32 <<< 31)
      iso := s.ring.iso &&& ~~~(1#32 <<< 31) } }

/-- POWER_DOM.EDGE_REQ: refused off in Solo, Active and Shadow; otherwise station 31 drains first. ready: the station reports
ready with it (11 R320; log 94). -/
def State.edgeWrite (s : State) (on ready : Bool) : State :=
  if !on && s.running then (if s.pwr.edgeReq || s.pwr.edgeOn then s.orderErr else s)
  else
    let s := { s with pwr := { s.pwr with edgeReq := on } }
    if on then
      let s := if s.pwr.edgeOn then s else s.edgeOnNow
      if ready then s.edgeReady else s
    else if s.pwr.edgeOn then { s with ring := { s.ring with drain := s.ring.drain ||| (1#32 <<< 31) } }
    else s

/-- A write of POWER_DOM. -/
def State.powerDomWrite (s : State) (v : Word) : State := (s.bcastWrite (bit v 0)).edgeWrite (bit v 1) false

/-- BCAST_REQ (14 R386, R400). -/
def execBcastReq (q : Requester) (on : Bool) (s : State) : Out :=
  done s (regWrite q Reg.powerDom s (fun s => s.bcastWrite on))

/-- EDGE_REQ (14 R386, R400). -/
def execEdgeReq (q : Requester) (on ready : Bool) (s : State) : Out :=
  done s (regWrite q Reg.powerDom s (fun s => s.edgeWrite on ready))

/-! ### Resets (14 R390, R391) -/

/-- Registers that a reset keeps: CISTERN_SEC_STAT's causes, WELLHEAD_STAT's records, ERROR_PREV_FATAL, whose RST takes
the cause of the reset that follows a Fault-hold (06; 14 R400; 15 R406, R417). -/
def State.keptRegs (s : State) (cause : Nat) : List (Nat × Word) :=
  let r (a : Nat) (m : Word) : Nat × Word := (a, s.reg a &&& m)
  let prev := s.reg Reg.errorPrevFatal
  let prev := if s.mode = .faultHold then setBits prev 11 8 cause else prev
  [r Reg.cisternSecStat 0x79#32, r Reg.wellheadStat 0x3FF12#32, (Reg.errorPrevFatal, prev)].foldl
    (fun m p => sset regDefault m p.1 p.2) []

/-- The valve after a reset: the level at TX_PERMIT stays, and its synchroniser, cleared, passes it from the second DEVCLK
edge on (08 R241). -/
def Valve.afterReset (v : Valve) : Valve :=
  { Valve.reset with permitPin := v.permitPin, permits := if v.permitPin then [(2, true)] else [] }

/-- A reset of cause 1 to 8: every domain but WELLHEAD; what the wellhead holds stays, and what comes in on pins. A
register's Reset column says what it holds next; CTL memory is lost, bulk memory is left as it was (log 21); a cause 1
resets the PCI Express link and configuration space too (12 R343). A LOG append in progress is dropped: the manual does not
say whether it ends (DESIGN CHOICE, log 21). A failed wipe is repeated (06 R181). -/
def State.resetTo (s : State) (cause : Nat) : State :=
  if s.mode = .off then s
  else
    let z := State.reset
    let keepMem (c : Host.Cell) : Bool := decide (0x1F000000 ≤ c.1)
    { z with
      pending := s.pending
      free := s.free
      regs := s.keptRegs cause
      mem := s.mem.filter keepMem
      ring := { z.ring with iso := s.ring.iso &&& (1#32 <<< 24) }
      cist := { z.cist with wiping := s.cist.wiping || s.cist.verifyFail }
      valve := s.valve.afterReset
      twin := { z.twin with peerOwn := s.twin.peerOwn }
      host := { z.host with
        lgen := if cause = 1 then 0 else s.host.lgen
        lwidth := if cause = 1 then 0 else s.host.lwidth
        bar := if cause = 1 then z.host.bar else s.host.bar
        aer := if cause = 1 then [] else s.host.aer
        lcPend := if cause = 5 then none else s.host.lcPend }
      wh := { z.wh with
        cause := cause
        left := if s.mode = .reset then 0 else s.mode.code
        seqRun := cause != 1 && !s.wh.perstLow
        perstLow := s.wh.perstLow || cause == 1
        temps := s.wh.temps
        hot := s.wh.hot
        trip := s.wh.trip
        alert := s.wh.alert
        tamper := s.wh.tamper
        secs := s.wh.secs
        flash := s.wh.flash }
      dbg := { z.dbg with tapData := s.dbg.tapData, tapIr := s.dbg.tapIr, drive := none } }

/-- Everything is unpowered; the flash and the level of PERST_N and of the other pins remain (14 R378, R390). -/
def State.powerOff (s : State) : State :=
  let z := State.reset
  { z with
    mode := .off
    pending := s.pending
    free := s.free
    valve := s.valve.afterReset
    twin := { z.twin with peerOwn := s.twin.peerOwn }
    wh := { z.wh with
      seqRun := false, perstLow := s.wh.perstLow, tamper := s.wh.tamper, flash := s.wh.flash } }

/-- POWER_ON: VDD_AON has been within tolerance for 1 ms: Reset, cause 0; the sequence runs unless PERST_N is low
(14 R379, R390, R391). -/
def execPowerOn (s : State) : Out :=
  when (s.mode == .off) s (fun s =>
    { s with mode := .reset, wh := { s.wh with cause := 0, left := 0, seqRun := !s.wh.perstLow } })

/-- VDD_AON_REMOVED (14 R379). -/
def execVddAonRemoved (s : State) : Out := done s s.powerOff

/-- PERST_N: asserted low; while it is low the device stays in Reset (14 R390, R391). -/
def execPerstN (s : State) : Out :=
  done s (if s.mode = .off then { s with wh := { s.wh with perstLow := true } } else s.resetTo 1)

/-- PERST_N_RELEASE: time 0 of the start-up sequence (14 R392). -/
def execPerstNRelease (s : State) : Out :=
  when s.wh.perstLow s (fun s =>
    { s with wh := { s.wh with perstLow := false, seqRun := s.mode == .reset } })

/-- The watchdog of core c starts its full period again (09 R274). -/
def State.reloadWdog (s : State) (c : CoreId) : State :=
  s.setCore c { s.core c with wdLeft := s.fld (Reg.seqcoreWdogPeriod + coreBase c) 15 0 }

/-- Wake: the steps reversed, into Ready; the fabric stays LOADED, links and tick generator stay off for LINK_UP; the
watchdogs are reloaded (14 R381, R442; 09 R274; log 23). -/
def State.wake (s : State) : State :=
  let s := { s with
    pwr := { s.pwr with bcast := s.pwr.bcastReq }
    cist := { s.cist with
      st := Vector.ofFn (fun n : Fin 64 =>
        if s.cist.st[n] = BankSt.retention ∧ s.fld (Reg.cisternPwr + 4 * (n.val / 16)) (2 * (n.val % 16) + 1) (2 * (n.val % 16)) = 2
        then .on else s.cist.st[n])
      selfRefresh := false }
    wh := { s.wh with pllLock := true, conv := s.wh.devOk, wdLeft := if s.wh.wdEn then s.wh.wdPeriod else s.wh.wdLeft }
    cmd := { s.cmd with wfi := false } }
  let s := (List.finRange 16).foldl (fun s f =>
    if s.pwr.fld[f] = .retain ∧ bits s.pwr.req.toNat (2 * f.val + 1) (2 * f.val) = 2 then
      let s := s.putField f .on
      let b := 1#16 <<< f.val
      if s.pwr.bcast && !s.arr.pathBad.getLsbD f.val then
        { s with arr := { s.arr with live := s.arr.live ||| b, cleared := s.arr.cleared &&& ~~~b } }
      else s
    else s) s
  let s := (s.reloadWdog .seq).reloadWdog .cmd
  (s.goMode .ready).setDispEn s.host.dispWas

/-- A host access wakes a device in Quiescent and completes after it has woken (14 R381). -/
def State.hostWake (s : State) : State := if s.mode = .quiescent then s.wake else s

/-- A write that the host makes through window B; in Reset it needs no ring (12 R343). -/
def winBWrite (a : Nat) (s : State) (f : State → State) : State :=
  if s.mode = .reset then f s else regWrite hostB a s.hostWake f

/-- HOSTIF_B_RESET: only the key acts (12 R343). -/
def State.hostReset (s : State) (v : Word) : State := if v = 0xD1E5#32 then s.resetTo 2 else s

/-- HOSTIF_B_RESET (12 R343; 14 R390). -/
def execHostifBReset (v : Word) (s : State) : Out := done s (winBWrite Reg.hostifBReset s (fun s => s.hostReset v))

/-- FUNCTION_LEVEL_RESET (12 R325, R343). -/
def execFunctionLevelReset (s : State) : Out := done s (s.resetTo 3)

/-- PRIMING_TIMEOUT: the priming timer reaches 150 ms (12 R341). -/
def execPrimingTimeout (s : State) : Out :=
  when (s.alive && s.host.primeTimer) s (fun s => s.resetTo 4)

/-- Are all instructions of the test access port available (16 R418)? -/
def State.tapOpen (s : State) : Bool :=
  s.wh.flash.lc == 0 || s.wh.flash.lc == 2 || (s.wh.flash.lc == 1 && s.dbg.unlocked == 2)

/-! ### Life cycle (12 R344, R345) -/

/-- The transitions of 12 R344. -/
def lcNext (a b : BitVec 2) : Bool :=
  (a == 0 && (b == 1 || b == 3)) || (a == 1 && (b == 2 || b == 3)) || (a == 2 && b == 3)

/-- A write of HOSTIF_B_LC_REQ. A write of nothing but REFUSED clears it and requests nothing (log 22). -/
def State.lcReq (s : State) (v : Word) : State :=
  let fl := s.wh.flash
  let dst : BitVec 2 := v.setWidth 2
  let src : BitVec 2 := (v >>> 2).setWidth 2
  let clear (s : State) : State := if bit v 4 then s.setFld Reg.hostifBLcReq 4 4 0 else s
  if v = 0x10#32 then clear s
  else if bits v.toNat 31 16 == 0x1C5A && src == fl.lc && lcNext fl.lc dst && s.host.lcPend.isNone &&
      !(fl.lc == 0 && dst == 1 && fl.keys &&& 0xE#4 == 0) then
    { clear s with host := { s.host with lcPend := some dst } }
  else s.setBit Reg.hostifBLcReq 4

/-- HOSTIF_B_LC_REQ (12 R345, R347). -/
def execHostifBLcReq (v : Word) (s : State) : Out := done s (regWrite hostB Reg.hostifBLcReq s.hostWake (fun s => s.lcReq v))

/-- LIFE_CYCLE_RESET: the append ends: the new state stands, the secure cistern has been wiped, the device is reset with
cause 5 (12 R345; 06 R180). -/
def execLifeCycleReset (wipeOk : Bool) (s : State) : Out :=
  when (s.mode != .off) s (fun s => match s.host.lcPend with
    | none => s
    | some lc =>
      let fl := s.wh.flash
      let s := { s with wh := { s.wh with flash := { fl with lc := lc, lcLog := fl.lcLog + 1 } } }
      ((s.startWipe 5).wipeEnd wipeOk).resetTo 5)

/-! ### Rails, clocks, tamper (14 R389, R393) -/

/-- A glitch detection: the secure cistern is wiped and the device reset with cause 7 (14 R389; 06 R180). -/
def State.glitch (s : State) (statBit : Nat) : State := ((s.setBit Reg.wellheadStat statBit).startWipe 4).resetTo 7

/-- VOLTAGE_GLITCH: rail i of 14 R387, in table order. -/
def execVoltageGlitch (rail : Fin 10) (s : State) : Out := when (s.mode != .off) s (fun s => s.glitch (8 + rail.val))

/-- CLOCK_GLITCH (14 R389). -/
def execClockGlitch (s : State) : Out := when (s.mode != .off) s (fun s => s.glitch 4)

/-- The wellhead event on command-core line 4 (09 R276). -/
def State.wellheadEvent (s : State) : State := if s.alive then s.irq .cmd 4 else s

/-- TAMPER_N: low for 1 µs wipes the secure cistern and raises the wellhead event; in Deployed it is fatal; high ends the
assertion (14 R393; 06 R180). -/
def execTamperN (low : Bool) (s : State) : Out :=
  when (s.mode != .off && low != s.wh.tamper) s (fun s =>
    let s := { s with wh := { s.wh with tamper := low } }
    if low then
      let s := ((s.setBit Reg.wellheadStat 1).startWipe 3).wellheadEvent
      if s.deployed && s.alive then s.fatal 19 else s
    else s)

/-! ### Start-up (14 R392) -/

/-- Is any sensor at t °C or above (14 R398)? Readings are in °C plus 64. -/
def hotAt (t : Nat) (temps : List Byte) : Bool := temps.any (fun b => decide (t + 64 ≤ b.toNat))

/-- START_UP_SEQUENCE: the device reaches Bare: the repair map stands, a pending wipe has been made, the cisterns are on
and 0, the command core runs the boot ROM, stacks and link are trained as found (02 R67; 06 R175, R181; 14 R392). It does
not end while PERST_N is low or a sensor reads 100 °C or more (14 R391, R398). -/
def State.startUp (s : State) (x : StartUp) : State :=
  let s := s.wipeEnd x.wipeOk
  let s := { s with arr := { s.arr with pathBad := x.pathBad } }
  let s := (s.clearMem 0x10000000 0x12000000).loadMap
  let s := (s.setFld Reg.clockStat 1 1 (b2n x.hbm0)).setFld Reg.clockStat 2 2 (b2n x.hbm1)
  let link := s.wh.cause = 0 ∨ s.wh.cause = 1
  { s.goMode .bare with
    cist := { s.cist with
      st := Vector.replicate 64 .on, chg := [], req := []
      rdy := BitVec.ofNat 2 (b2n (x.rdy0 && x.hbm0) + 2 * b2n (x.rdy1 && x.hbm1)) }
    cmd := { s.cmd with run := true }
    host := { s.host with
      rom := true
      lgen := if link then x.lgen else s.host.lgen
      lwidth := if link then x.lwidth else s.host.lwidth }
    twin := { s.twin with sel := x.sel }
    wh := { s.wh with seqRun := false, pllLock := true, trip := false } }

/-- START_UP_SEQUENCE (14 R392). -/
def execStartUpSequence (x : StartUp) (s : State) : Out :=
  when (s.mode == .reset && s.wh.seqRun && !s.wh.perstLow && !hotAt 100 s.wh.temps) s (fun s => s.startUp x)

/-! ### Temperature (14 R398) -/

/-- The sensors at 110 °C or more, as a number with one bit a sensor. -/
def hotSet (temps : List Byte) : Nat :=
  (List.range 64).foldl (fun n i => if 174 ≤ (temps.getD i 0).toNat then n + 2 ^ i else n) 0

/-- A thermal trip: fatal; THERM_TRIP_N low; every field, BCAST and EDGE off without draining. -/
def State.thermalTrip (s : State) : State :=
  let s := { s with wh := { s.wh with trip := true } }
  if !s.alive then s
  else
    let s := s.fatal 20
    let s := (List.finRange 16).foldl (fun s f => (s.dryField f).putField f .off) s
    let s := s.edgeOff
    { s with pwr := { s.pwr with chg := [], bcast := false } }

/-- THERMAL_SAMPLE: 64 readings: the alert, and the trip of a sensor at 110 °C or more in two successive samples. -/
def execThermalSample (temps : List Byte) (s : State) : Out :=
  when (s.mode != .off) s (fun s =>
    let temps := (List.range 64).map (fun i => temps.getD i 0)
    let hot := hotSet temps
    let trip := hot &&& s.wh.hot != 0 && !s.wh.trip
    let rise := hotAt 100 temps && !s.wh.alert
    let s := { s with wh := { s.wh with
      temps := temps
      hot := hot
      alert := hotAt 100 temps || (s.wh.alert && hotAt 95 temps) } }
    let s := if rise then s.wellheadEvent else s
    if trip then s.thermalTrip else s)

/-! ### The wellhead watchdog (14 R402) -/

/-- A write of WELLHEAD_WDOG: PERIOD of 1 to 60 is stored; EN, once 1, is fixed; the write that sets it loads PERIOD. -/
def State.whWdogWrite (s : State) (v : Word) : State :=
  let p := bits v.toNat 13 8
  let period := if 1 ≤ p ∧ p ≤ 60 then p else s.wh.wdPeriod
  let sets := bit v 0 && !s.wh.wdEn
  { s with wh := { s.wh with
      wdPeriod := period
      wdEn := s.wh.wdEn || bit v 0
      wdLeft := if sets then period else s.wh.wdLeft } }

/-- WELLHEAD_WDOG (14 R400, R402). -/
def execWellheadWdog (q : Requester) (v : Word) (s : State) : Out :=
  done s (regWrite q Reg.wellheadWdog s (fun s => s.whWdogWrite v))

/-- A write of WELLHEAD_WDOG_KICK. -/
def State.whKick (s : State) (v : Word) : State :=
  if bits v.toNat 15 0 = 0x5A3E then { s with wh := { s.wh with wdLeft := s.wh.wdPeriod } } else s

/-- WELLHEAD_WDOG_KICK (14 R402). -/
def execWellheadWdogKick (q : Requester) (v : Word) (s : State) : Out :=
  done s (regWrite q Reg.wellheadWdogKick s (fun s => s.whKick v))

/-- WELLHEAD_WATCHDOG_EXPIRY: reset with cause 6; it does not count in Quiescent or while frozen (14 R402). -/
def execWellheadWatchdogExpiry (s : State) : Out :=
  when (s.alive && s.wh.wdEn && !s.wh.frozen && s.mode != .quiescent) s (fun s => s.resetTo 6)

/-! ### Quiescent (14 R381) -/

/-- Enter Quiescent: dispatch, the tick generator and the links stop, the fabric stays LOADED, live fields and cistern
banks go to retention, the stacks to self-refresh, BCAST off, the main PLL stops, the command core waits in WFI. -/
def State.enterQuiescent (s : State) : State :=
  let s := { s with host := { s.host with dispWas := s.mseq.dispEn } }
  let s := ((s.setDispEn false).tickEn false).jesdEnable 0 0
  let s := if s.edge.st = .running ∨ s.edge.st = .loaded then s.edgeStop else s
  let s := s.settle (s.acyc + 3)
  let s := (List.finRange 16).foldl (fun s f =>
    if s.arr.live.getLsbD f.val then (s.dryField f).putField f .retain else s) s
  let s := s.goMode .quiescent
  { s with
    pwr := { s.pwr with bcast := false }
    cist := { s.cist with
      st := s.cist.st.map (fun b => if b = .on then .retention else b)
      selfRefresh := true }
    wh := { s.wh with pllLock := false, conv := false }
    cmd := { s.cmd with wfi := true } }

/-- WAKE: a host access or a thermal alert has woken the device (14 R381). -/
def execWake (s : State) : Out := when (s.mode == .quiescent) s State.wake

end Sys2Proof.Machine
end

