-- ==== Sys2Proof/Machine/HostRing.lean ====
section
/-! DEFINITION. The endpoint's identity, rings and doorbells, the start of a command, events, workload vectors (12 R325,
R326, R330 to R334). -/
namespace Sys2Proof.Machine

/-! ### Configuration space (12 R325, R326) -/

/-- The words of the type 0 header that the manual fixes, by byte offset: vendor and device identifiers, class code, the two
64-bit, non-prefetchable BARs, Interrupt Pin 0. No row of the table reads them. -/
def State.pciHeader (s : State) (o : Nat) : Option Word :=
  if o = 0x00 then some (0x2048#16 ++ Config.pciVendor)
  else if o = 0x08 then some (0x120000#24 ++ Config.pciRevision)
  else if o = 0x10 then some (loHalf s.host.bar[0] ||| 4#32)
  else if o = 0x14 then some (hiHalf s.host.bar[0])
  else if o = 0x18 then some (loHalf s.host.bar[1] ||| 4#32)
  else if o = 0x1C then some (hiHalf s.host.bar[1])
  else if o = 0x3C then some 0
  else none

/-! ### Rings (12 R330 to R334) -/

/-- The host, through window A. -/
def hostA : Requester := ⟨15, false, false, false, false⟩

/-- Ring i: 0 to 3 the command rings, 4 the reply ring, 5 the event ring. -/
def State.hring (s : State) (i : Fin 6) : HRing :=
  if h : i.val < 4 then s.host.cr[i.val]'h else if i = 4 then s.host.rp else s.host.ev

/-- Replace ring i. -/
def State.setHring (s : State) (i : Fin 6) (r : HRing) : State :=
  { s with host :=
      if h : i.val < 4 then { s.host with cr := s.host.cr.set i.val r h }
      else if i = 4 then { s.host with rp := r } else { s.host with ev := r } }

/-- The register block of ring i (12 R347). -/
def ringBase (i : Fin 6) : Nat :=
  if i.val < 4 then Reg.hostifCrBaseLo + 0x20 * i.val else if i = 4 then 0x200F0200 else 0x200F0220

/-- May a ring have 2^n entries (12 R331, R347)? -/
def sizeAllowed (i : Fin 6) (n : Nat) : Bool := decide (2 ≤ n) && decide (n ≤ if i.val < 4 then 12 else 13)

/-- A write of a SIZE register: a size outside the limits leaves the ring disabled; setting EN starts the ring at entry 0
with SEQ 0, running; a held reply is then the first entry, written or held again (12 R331, R332, R334). -/
def State.ringSize (s : State) (i : Fin 6) (v : Word) (written : Bool := true) : State :=
  let r := s.hring i
  let n := bits v.toNat 3 0
  let want := bit v 4 && sizeAllowed i n
  if want && !r.en then
    let s := s.setHring i { r with
      size := BitVec.ofNat 4 n, en := true, tail := 0, head := 0, seq := 0, stopped := false, why := 0 }
    match s.host.held with
    | some x =>
      if i = 4 then
        let s := { s with host := { s.host with held := none } }
        if written then s.putReply x else s.holdReply x
      else s
    | none => s
  else s.setHring i { r with size := BitVec.ofNat 4 n, en := want }

/-- RING_ENABLE: the host writes a SIZE register; written: a held reply's new write succeeds (12 R331, R332, R334). -/
def execRingEnable (ring : Fin 6) (v : Word) (written : Bool) (s : State) : Out :=
  done s (
    let s := s.hostWake
    regWrite hostA (ringBase ring + 8) s (fun s => s.ringSize ring v written))

/-- A write of HOSTIF_CR_TAIL[r]: the doorbell raises command-core line 0; an index outside the ring would exceed its
size − 1 entries and stops it with reason 1 (12 R331, R333; 09 R276; log 27). -/
def State.tailWrite (s : State) (r : Fin 4) (tail : Nat) : State :=
  let x := s.host.cr[r]
  let s := s.irq .cmd 0
  if x.en && !x.stopped && decide (ringEntries x.size ≤ tail) then s.stopRing r 1
  else { s with host := { s.host with cr := vset s.host.cr r { x with tail := tail } } }

/-- DOORBELL: the host writes HOSTIF_CR_TAIL[r] (12 R333). -/
def execDoorbell (r : Fin 4) (tail : BitVec 13) (s : State) : Out :=
  done s (
    let s := s.hostWake
    regWrite hostA (Reg.hostifCrTail + 0x20 * r.val) s (fun s => s.tailWrite r tail.toNat))

/-- Has command ring r a slot to execute? -/
def HRing.waiting (r : HRing) : Bool := r.en && !r.stopped && r.head != r.tail

/-- The ring served next: the first non-empty one after the one served last, in the order 0, 1, 2, 3, 0 (12 R333). -/
def State.nextRing (s : State) : Option (Fin 4) :=
  ((List.range 4).map (fun i => (⟨(s.host.lastRing + 1 + i) % 4, Nat.mod_lt _ (by decide)⟩ : Fin 4))).find?
    (fun r => s.host.cr[r].waiting)

/-- The opcodes of 12 R335, and those the ROM executes too. -/
def knownOpcode (rom : Bool) (op : Nat) : Bool :=
  [1, 2, 3, 4].contains op ||
    (!rom && ([0x10, 0x20, 0x21, 0x22, 0x23, 0x24, 0x30, 0x31, 0x40, 0x41, 0x42, 0x50, 0x51].contains op ||
      (decide (0x1000 ≤ op) && decide (op ≤ 0x7FFF))))

/-- May the ROM or the firmware execute commands now: it runs, is not halted, and has no fatal error of its own
(14 R382; 16 R424)? -/
def State.serves (s : State) : Bool :=
  s.alive && s.mode != .quiescent && (s.host.rom || s.host.fw) && !s.cmdDead && !s.cmd.halted

/-! ### Slots (12 R332) -/

/-- Does an opcode take a scatter reference (12 R335)? -/
def sgOpcode (op : Nat) : Bool := [0x04, 0x20, 0x23, 0x40, 0x41].contains op

/-- The total length that a scatter reference names. -/
def slotTotal (x : Slot) : Nat := imgNat x.params 12 4

/-- A scatter reference: SG set, 1 to 65,536 entries; as far as the list can be read, its entries are as many, with bytes 12
to 15 at 0 and lengths that add up to the total. -/
def sgOk (x : Slot) : Bool :=
  let n := imgNat x.params 8 4
  x.flags.getLsbD 0 && decide (1 ≤ n) && decide (n ≤ 65536) &&
    (!x.listRead || (x.list.length == n && x.list.all (fun e => e.rest == 0) &&
      (x.list.map (fun e => e.len.toNat)).sum == slotTotal x))

/-- Are the slot's fields and its scatter reference valid: LEN, FLAGS, the reserved bytes, a bay below 8, SELFTEST's byte
16? The manual gives no status for LEN, FLAGS and the reserved bytes: BAD_PARAM (DESIGN CHOICE, log 94). -/
def slotValid (x : Slot) : Bool :=
  let b := imgNat x.params 0 1
  let op := x.opcode.toNat
  decide (x.len.toNat ≤ 48) && x.flags >>> 2 == 0 && x.rest == 0 && (!sgOpcode op || sgOk x) &&
    (op != 0x23 || decide (b < 8)) && (op != 0x50 || decide (b ≤ 1))

/-- Its scatter list cannot be read. -/
def listLost (x : Slot) : Bool := sgOpcode x.opcode.toNat && !x.listRead

/-- The command's ring stops with reason 3: a slot or scatter list could not be read (12 R347). -/
def State.stopCurRing (s : State) (c : CurCmd) : State := s.stopRing ⟨c.ring % 4, Nat.mod_lt _ (by decide)⟩ 3

/-- A served command goes on with its slot's fields and list in order; else BAD_PARAM, or DMA_ERROR with its ring stopped. -/
def State.slotChecked (s : State) (f : State → State) : State :=
  match s.host.cur with
  | none => s
  | some c =>
    if !slotValid c.slot then s.reply0 Status.badParam
    else if listLost c.slot then (s.reply0 Status.dmaError).stopCurRing c
    else f s

/-- COMMAND_START: the slot at the head of the next ring is taken. A slot that cannot be fetched stops its ring with
reason 3; a wrong SEQ gets SEQ_ERROR and stops it with reason 2; an unknown opcode gets BAD_OPCODE (12 R332 to R336). -/
def State.commandStart (s : State) (x : Slot) : State :=
  match s.nextRing with
  | none => s
  | some r =>
    let g := s.host.cr[r]
    if !x.fetched then s.stopRing r 3
    else
      let s := { s with host := { s.host with
        lastRing := r.val
        cur := some ⟨r.val, x⟩
        cr := vset s.host.cr r { g with head := (g.head + 1) % ringEntries g.size, seq := g.seq + 1 } } }
      if x.seq != g.seq then (s.reply0 Status.seqError).stopRing r 2
      else if knownOpcode s.host.rom x.opcode.toNat then s
      else s.reply0 Status.badOpcode

/-- COMMAND_START (12 R333). -/
def execCommandStart (x : Slot) (s : State) : Out :=
  when (s.serves && s.host.cur.isNone && s.rpRoom) s (fun s => s.commandStart x)

/-- EVENT: the waiting events are written, and with code 1 or 2 or one of the workload's a new one arises first: mode changed,
contained error. written: the first entry is; else the ring stops with reason 3 (12 R334). -/
def execEvent (code : BitVec 16) (v : Dbl) (written : Bool) (s : State) : Out :=
  when s.alive s (fun s =>
    let arises := s.serves && s.host.fw && (code == 1 || code == 2 || decide (0x100 ≤ code.toNat))
    (if arises then s.event code v else s).writeEvents written)

/-- A write of HOSTIF_MSIX_SEND: vectors 0 to 3 are ignored (12 R334, R347). -/
def State.msixWrite (s : State) (v : Nat) : State := if v < 4 then s else s.msix v

/-- MSIX_SEND (12 R334). -/
def execMsixSend (q : Requester) (vec : BitVec 6) (s : State) : Out :=
  done s (regWrite q Reg.hostifMsixSend s (fun s => s.msixWrite vec.toNat))

end Sys2Proof.Machine
end

