-- ==== Sys2Proof/Machine/SelfTest.lean ====
section
/-! DEFINITION. Entry to Fault-hold, the end of a full self-test with its repairs, slack self-test (15 R406 to R415). -/
namespace Sys2Proof.Machine

/-! ### Fault-hold (14 R382; 15 R406) -/

/-- The opcodes that are answered in Fault-hold: IDENTIFY, STATUS, LC_QUERY, DATA_READ (14 R382). -/
def holdOpcode (op : Nat) : Bool := [1, 2, 3, 0x41].contains op

/-- A command in progress that Fault-hold does not answer gets BAD_MODE; none is replied to after a fatal error in the
command core. -/
def State.holdReplyOf (s : State) : State :=
  match s.host.cur with
  | some c => if !s.cmdDead && !holdOpcode c.slot.opcode.toNat then s.reply0 Status.badMode else s
  | none => s

/-- The microsequencer stops at once: of the routine in flight, where it stands, its loop state and the writes it has on their
way are undefined: free (03 R119; log 2). -/
def State.stopRoutine (s : State) : State :=
  match s.mseq.run with
  | none => s
  | some r =>
    let k := s.free
    let any (i n : Nat) : Nat := Config.freeNat (k + i) % n
    let l : LoopSt := ⟨any 1 256, any 2 256, (List.range (any 3 5)).map (fun i => (any (5 + i) 16384, any (9 + i) 256)),
      (List.range (any 4 5)).map (fun i => any (13 + i) 16384)⟩
    let n := s.arr.flight.length
    ({ s with
      free := k + 17 + n
      mseq := { s.mseq with run := some { r with next := any 0 16384 } }
      arr := { s.arr with flight := s.arr.flight.zipIdx.map (fun (p : WellWrite × Nat) =>
        if p.1.scrub.isNone then { p.1 with val := Config.freePlane (k + 17 + p.2) } else p.1) } }).setLoop r.entry.urgent l

/-- FAULT_HOLD_ENTRY: the device completes its entry to Fault-hold: ERROR_FATAL is copied, MSI-X vector 2 is raised, what
the firmware was about is over; the priming timer runs on (14 R379, R382; 12 R334, R341; 15 R406). -/
def execFaultHoldEntry (s : State) : Out :=
  when (s.alive && s.fatalSeen && s.mode != .faultHold) s (fun s =>
    let s := s.stopRoutine.goMode .faultHold
    let s := s.setFld Reg.errorPrevFatal 7 0 (s.fld Reg.errorFatal 7 0)
    let s := (s.msix 2).holdReplyOf
    { s with host := { s.host with linkUp := none, runReq := none, stopReq := false, stOpts := none } })

/-! ### Full self-test (15 R409 to R411) -/

/-- Every plane of every live field is 0; a scratch plane of another field keeps what it held. -/
def State.zeroPlanes (s : State) : State :=
  let keep := ~~~s.arr.liveMask
  let planes : List Nat := (s.arr.wells.map (fun (e : Nat × Plane) => e.1) ++ (List.range 64).map (4032 + ·)).eraseDups
  let s := planes.foldl (fun (s : State) (p : Nat) => s.setWell p (s.well p &&& keep)) s
  { s with arr := { s.arr with errs := s.arr.errs.filter (fun e => !s.tileLive e.tile) } }

/-- The test has used every latch of the live lanes; what it leaves there the manual does not say: free (log 28). -/
def State.freeLatches (s : State) : State :=
  let live := s.arr.liveMask
  let p (i : Nat) : Plane := Config.freePlane (s.free + i)
  let a := s.arr
  { s.useFree 6 with arr := { a with
      cy := mux live (p 0) a.cy, tg := mux live (p 1) a.tg, lk := mux live (p 2) a.lk
      an := mux live (p 3) a.an, au := mux live (p 4) a.au, io := mux live (p 5) a.io } }

/-- Record the first failure of a test, while ERROR_ST_FAIL holds none: phase, tile, plane, slack. -/
def State.stFail (s : State) (phase tile plane : Nat) (slack : Bool) : State :=
  if bit (s.reg Reg.errorStFail) 26 then s
  else s.setReg Reg.errorStFail
    (BitVec.ofNat 32 (phase % 8 + 8 * (tile % 1024) + 2 ^ 13 * (plane % 4096) + 2 ^ 25 * b2n slack + 2 ^ 26))

/-- The lowest failed phase; 0 none. -/
def firstFailed (f : BitVec 6) : Nat :=
  match (List.range 6).find? (fun i => f.getLsbD i) with
  | some i => i + 1
  | none => 0

/-- The new value of a segment row with value b and a new fault in column c; none: no change (15 R415). -/
def repairValue (b : BitVec 4) (c : Nat) : Option (BitVec 4) :=
  if b = 8 then (if c < 8 then some (BitVec.ofNat 4 c) else none)
  else if b.toNat < 8 then (if c = b.toNat then none else some 15)
  else none

/-- Apply one new fault: an overlay entry, and with LOG an append to the flash log (15 R409, R415; 02 R69). -/
def State.repair (s : State) (log : Bool) (row c : Nat) : State :=
  match repairValue (sget rowDefault s.effMap row) c with
  | none => s
  | some v =>
    let a := s.arr
    let room := a.overlay.any (·.1 == row) || decide (a.overlay.length < 256)
    let s := if room then { s with arr := { a with overlay := a.overlay.filter (·.1 != row) ++ [(row, v)] } } else s
    let fl := s.wh.flash
    if log && decide (fl.log.length < 1000) then
      { s with wh := { s.wh with flash := { fl with log := fl.log ++ [(row, v)] } } }
    else s

/-- The firmware powers field f off and on: it applies the effective map, its latches and planes are 0 and it is live again,
or it is dead and stays off (15 R415; 02 R37, R68, R71). -/
def State.cycleField (s : State) (f : Fin 16) : State :=
  let s := (s.dryField f).putField f .off
  if s.fieldDead f.val then s.fieldBegin f .on
  else
    let b := 1#16 <<< f.val
    let s := (s.putField f .on).clearField f.val
    { s with arr := { s.arr with clearing := s.arr.clearing &&& ~~~b, live := s.arr.live ||| b } }

/-- The overlay entries of field f. -/
def State.overlayOf (s : State) (f : Nat) : List (Nat × BitVec 4) := s.arr.overlay.filter (fun p => fieldOfRow p.1 == f)

/-- SELFTEST_COMPLETE: the test ends with these results: planes and banks 56 to 63 are 0, the first failure is recorded,
repairs are applied, fields whose path has failed are retired, Ready, the reply (15 R409 to R411, R415; 01 R18). -/
def State.selftestEnd (s : State) (r : StResult) (repair log : Bool) : State :=
  let s := s.settle (s.acyc + 3)
  let faults := r.newFaults.filter (fun p => s.arr.live.getLsbD (fieldOfRow p.1) && decide (p.1 < 524288) && decide (p.2 < 9))
  let s := (s.zeroPlanes).freeLatches
  let s := s.clearMem (0x10000000 + 56 * 0x80000) 0x12000000
  let ph := firstFailed r.failed
  let s := if ph = 0 then s
    else s.stFail ph (if 2 ≤ ph ∧ ph ≤ 4 then r.firstTile.val else 0) (if ph = 4 then r.firstPlane.val else 0) false
  let live := s.arr.live
  let before := s
  let s := if repair then faults.foldl (fun s p => s.repair log p.1 p.2) s else s
  let s := { s with arr := { s.arr with pathBad := s.arr.pathBad ||| (r.pathBad &&& live) } }
  let touched (f : Fin 16) : Bool := live.getLsbD f.val &&
    (r.pathBad.getLsbD f.val || s.overlayOf f.val != before.overlayOf f.val)
  let s := (List.finRange 16).foldl (fun s f => if touched f then s.cycleField f else s) s
  let s := { (s.setFld Reg.errorStStat 0 0 0).goMode .ready with host := { s.host with stOpts := none } }
  let gone := live &&& ~~~s.arr.live
  s.reply Status.ok (r.failed.setWidth 64) (BitVec.ofNat 64 (faults.length % 2 ^ 16 + 2 ^ 16 * gone.toNat))

/-- SELFTEST_COMPLETE (15 R410). -/
def execSelftestComplete (r : StResult) (s : State) : Out :=
  done s (match s.host.stOpts with
    | some (repair, log) => if s.mode = .selfTest ∧ s.cmdDead = false then s.selftestEnd r repair log else s
    | none => s)

/-! ### Slack self-test (15 R412 to R414) -/

/-- The first cycle of the next slack routine: the idle array's next one, 16 after the slack routine before (15 R414). -/
def State.slackStart (s : State) : Nat := max s.acyc (s.arr.slackP + 17)

/-- The routine occupies its cycles; the scrubber keeps the dispatch gap before it and those in which it executes nothing
(02 R58; 15 R414). -/
def State.slackSpan (s : State) (x : SlackRun) : State :=
  let b := s.slackStart
  let gap := (List.range (b - s.acyc)).map (s.acyc + ·)
  let s : State := { s with arr := { s.arr with
    slackP := b + x.len - 1
    slackGaps := s.arr.slackGaps ++ gap ++ (x.idle.filter (fun i => decide (i < x.len))).map (b + ·) } }
  s.reach (b + x.len)

/-- What the routine does: the scratch plane it checks is read and rewritten; scratch planes, CY, TG and LK are undefined
(15 R412; 02 R50, R51). -/
def State.slackRun (s : State) (plane : Nat) : State :=
  if plane < 4032 then s.undefScratch true
  else
    let s := ((s.settle (s.acyc + 3)).readCheck [plane] [] 0 s.acyc).1.undefScratch true
    { s with arr := { s.arr with errs := s.arr.errs.filter (fun e => !(e.plane == plane && s.tileLive e.tile)) } }

/-- A routine of the pass is done; the 2,048th completes the pass. A repetition is none of the pass's, and one that has been
abandoned must run again (15 R414). -/
def State.slackPass (s : State) (x : SlackRun) : State :=
  if x.abandoned || s.arr.slackRep != 0 then s
  else if s.arr.slackDone < 2047 then { s with arr := { s.arr with slackDone := s.arr.slackDone + 1 } }
  else ({ s with arr := { s.arr with slackDone := 0 } } : State).countWord Reg.errorStPasses Reg.errorStStat 8 1

/-- A mismatch: a contained error, and the routine is to be repeated three times; a repetition that mismatches yields a repair
of the cell that the firmware locates (15 R414, R415). -/
def State.slackResult (s : State) (x : SlackRun) : State :=
  let due := s.arr.slackRep
  let s := { s with arr := { s.arr with
    slackRep := if x.abandoned then due else if due ≠ 0 then due - 1 else if x.mismatch then 3 else 0 } }
  if !x.mismatch || x.abandoned then s
  else
    let k := s.free
    let s := ((s.useFree 2).stFail (2 + Config.freeNat k % 3) (Config.freeNat (k + 1)) x.plane.val true).contained 41
    match x.fault with
    | some (row, c) => if due ≠ 0 ∧ row < 524288 ∧ c < 9 ∧ s.arr.live.getLsbD (fieldOfRow row) = true then s.repair false row c else s
    | none => s

/-- SLACK_ROUTINE: a slack routine of at most 256 array cycles runs in the idle array; its contributions reach the self-test
checker alone; the end of a pass counts. One that a tick's first issue abandons is a shorter one without a result (15 R412 to
R414; log 29). -/
def execSlackRoutine (x : SlackRun) (s : State) : Out :=
  when (s.running && bit (s.reg Reg.errorStStat) 1 && !s.tick.inTick && s.idleNow true && s.mayDispatch &&
      decide (1 ≤ x.len) && decide (x.len ≤ 256)) s (fun s =>
    (((s.slackSpan x).slackRun x.plane.val).slackPass x).slackResult x)

end Sys2Proof.Machine
end

