-- ==== Sys2Proof/Machine/Verify.lean ====
section
/-! DEFINITION. The microcode verifier of the command firmware (03 R115, R116). Its checks are numbered from 1 in the
order of R115's table. -/
namespace Sys2Proof.Machine

/-- A plane as the verifier sees it: its base (0 absolute, 1 to 3 an operand) and its offset. -/
structure VPlane where
  base : Nat
  off : Nat
  deriving DecidableEq, Repr

/-- Can two planes be equal? With equal bases the offsets decide; different operand bases may meet (03 R116). -/
def VPlane.may (a b : VPlane) : Bool := if a.base = b.base then a.off == b.off else a.base != 0 && b.base != 0

/-- One path of a routine up to a microword: its address, loop and call state, the dwell cycles so far, the words so far,
the occupancy so far and since the commit mark, recent writes with their dwell times, the last contribution's, the
addresses met before the mark, the targets of the calls in progress. -/
structure VPath where
  addr : Nat
  l : LoopSt
  t : Nat
  words : Nat
  total : Nat
  commit : Option Nat
  writes : List (VPlane × Nat)
  contrib : Option Nat
  pre : List Nat
  active : List Nat

/-- What the verifier finds: the checks that fail, the bounds, the attribute bits [29:23] as a number, the edges of the call
graph, from the address that was called last (or START) to the target. -/
structure VRes where
  fails : List Nat
  clen : Nat
  runmax : Nat
  attr : Nat
  calls : List (Nat × Nat)

/-- Nothing found. -/
def VRes.zero : VRes := ⟨[], 0, 0, 0, []⟩

/-- One failing check. -/
def VRes.fail (k : Nat) : VRes := ⟨[k], 0, 0, 0, []⟩

/-- Both of two findings. -/
def VRes.join (a b : VRes) : VRes :=
  ⟨a.fails ++ b.fails, max a.clen b.clen, max a.runmax b.runmax, a.attr ||| b.attr, a.calls ++ b.calls⟩

/-- Do at most n edges lead from a to b? -/
def callPath (e : List (Nat × Nat)) : Nat → Nat → Nat → Bool
  | 0, a, b => a == b
  | n + 1, a, b => a == b || e.any (fun x => x.1 == a && callPath e n x.2 b)

/-- The call graph has a cycle (03 R115). -/
def callCycle (e : List (Nat × Nat)) : Bool := e.any (fun x => callPath e e.length x.2 x.1)

/-- The plane of a microword's address field at loop index i. -/
def vPlane (sel off : Nat) (idx : Bool) (i : Nat) : VPlane := ⟨sel, (off + if idx then i else 0) % 4096⟩

/-- The attribute bits of one microword, bit 0 being USES_SUMP (03 R102). An A or B address with an operand's base is a use of
that operand whatever the truth tables make of it; a count taken from its width is none: the manual does not settle either
(DESIGN CHOICE, log 93). -/
def vAttr (m : Micro) : Nat :=
  let wr := m.getLsbD 66
  let sw := m.getLsbD 119
  let bases := [mf m 29 28, mf m 44 43] ++ (if wr || sw then [mf m 59 58] else [])
  b2n (mf m 85 83 != 0) + 2 * b2n (mf m 80 78 != 0) + 4 * b2n (bases.contains 1) + 8 * b2n (bases.contains 2) +
    16 * b2n (bases.contains 3) + 32 * b2n ((wr || sw) && mf m 59 58 == 1) + 64 * b2n sw

/-- The worst stall of a microword: interlock by the distance from writes it may read, and from the routine before for
the first two words; sump wait by the distance from the last contribution (03 R116, R97). e: its dwell time. -/
def VPath.stall (p : VPath) (reads : List VPlane) (branch : Bool) (e : Nat) : Nat :=
  let before := if p.words < 2 then 3 - e else 0
  let il := (p.writes.filter (fun w => reads.any w.1.may)).foldl (fun n w => max n (3 - (e - w.2))) before
  let sw := match branch, p.contrib with
    | true, some c => 12 - (e - c)
    | _, _ => 0
  max il sw

/-- The checks of one microword on its path, beyond region and encoding (03 R115). -/
def vChecks (m : Micro) (p : VPath) (w : VPlane) (precommit : Bool) : List Nat :=
  let wr := m.getLsbD 66
  let sw := m.getLsbD 119
  let seq := mf m 90 88
  let t := mf m 104 91
  let link := decide (3 ≤ mf m 63 61)
  (if (seq == 2 || seq == 3) && decide (t ≤ p.addr) then [3] else []) ++
  (if link && ((mf m 65 64 == 1 && mf m 87 86 == 0) || (mf m 65 64 == 2 && decide (mf m 87 86 < 2))) then [5] else []) ++
  (if (seq == 2 || seq == 3) && p.contrib.isNone then [6] else []) ++
  (if (wr || sw) && w.base == 0 && decide (3968 ≤ w.off) && decide (w.off ≤ 4031) then [7] else []) ++
  (if precommit && wr && (w.base != 0 || decide (w.off < 4032)) then [8] else []) ++
  (if precommit && (mf m 80 78 != 0 || sw) then [9] else [])

/-- Follow every path from p for at most fuel microwords (03 R115). Each continuation takes the word's own findings. -/
def verifyPath (cs : Nat → Micro) (e : Entry) (start : Nat) : Nat → VPath → VRes
  | 0, _ => .fail 3
  | fuel + 1, p =>
    let m := cs p.addr
    if p.addr < 8192 then .fail 1
    else if illegalMicro m || mf m 125 120 != 0 || !parityOk m then .fail 2
    else
      let i := p.l.lidx
      let a := vPlane (mf m 29 28) (mf m 27 16) (m.getLsbD 30) i
      let b := vPlane (mf m 44 43) (mf m 42 31) (m.getLsbD 45) i
      let w := vPlane (mf m 59 58) (mf m 57 46) (m.getLsbD 60) i
      let wr := m.getLsbD 66
      let sw := m.getLsbD 119
      let seq := mf m 90 88
      let mark := m.getLsbD 118
      let precommit := p.commit.isNone && !mark
      let reads := [a, b] ++ (if sw || (wr && mf m 68 67 != 0) then [w] else [])
      let t := p.t + dwellOf m
      let occ := dwellOf m + p.stall reads (seq == 2 || seq == 3) t
      let contributes := mf m 85 83 != 0
      let q : VPath := { p with
        t := t, words := p.words + 1, total := p.total + occ
        commit := match p.commit with
          | some n => some (n + occ)
          | none => if mark then some occ else none
        writes := ((if wr || sw then [(w, t)] else []) ++ p.writes).take 4
        contrib := if contributes then some t else p.contrib
        pre := if precommit then p.addr :: p.pre else p.pre }
      let own : VRes := ⟨vChecks m p w precommit, q.commit.getD 0, q.total, vAttr m,
        if seq = 4 then [(p.active.headD start, mf m 104 91)] else []⟩
      match lopStep m e p.l with
      | none => own.join (.fail 4)
      | some l =>
        let follow (or : Bool) : VRes :=
          match seqStep m p.addr or l with
          | .fault => .fail (if seq = 4 ∨ seq = 5 then 4 else 1)
          | .stop _ => VRes.zero
          | .goto n l' =>
            let back := seq == 1 && l.lcnt != 0 && q.commit.isSome && q.pre.contains n
            let active := if seq = 4 then n :: q.active else if seq = 5 then q.active.tail else q.active
            (if back then VRes.fail 10 else VRes.zero).join
              (verifyPath cs e start fuel { q with addr := n, l := l', active := active })
        if seq = 2 ∨ seq = 3 then own.join ((follow false).join (follow true)) else own.join (follow false)

/-- Operand widths to consider: 1 to 64 where some microword of the store takes its count from the operand; else every width
gives the same paths, and one will do. -/
def vWidths (used : List Micro) (src : Nat) : List Nat :=
  if used.any (fun m => mf m 109 108 == src) then (List.range 64).map (· + 1) else [1]

/-- Everything the verifier finds about the routine that starts at an address, over every width (03 R115). used: the
microwords of the store. There are fewer than 2 ^ 160 sequencing states, so a longer path comes back to one and never
ends. -/
def verifyFrom (cs : Nat → Micro) (used : List Micro) (start : Nat) : VRes :=
  let one (d s1 s2 : Nat) : VRes :=
    verifyPath cs ⟨0, ⟨0, d, 0⟩, ⟨0, s1, 0⟩, ⟨0, s2, 0⟩, none, 0, 0, false⟩ start (2 ^ 160)
      ⟨start, LoopSt.reset, 0, 0, 0, none, [], none, [], []⟩
  (vWidths used 1).foldl (fun r d => (vWidths used 2).foldl (fun r a => (vWidths used 3).foldl (fun r b =>
    r.join (one d a b)) r) r) VRes.zero

/-- The first failing check of a user routine with this table entry; none when the verifier accepts it (03 R115). -/
def verifyRoutine (cs : Nat → Micro) (used : List Micro) (lo hi : Word) : Option Nat :=
  let r := verifyFrom cs used (bits lo.toNat 13 0)
  let own := (if callCycle r.calls then [4] else []) ++ (if 256 < r.clen then [11] else []) ++
    (if bits lo.toNat 22 14 != r.clen || bits hi.toNat 15 0 != min r.runmax 65535 || bits lo.toNat 29 23 != r.attr
    then [12] else [])
  (r.fails ++ own).min?

end Sys2Proof.Machine
end

