-- ==== Sys2Proof/Machine/HostCmd.lean ====
section
/-! DEFINITION. The commands of the host protocol, as the boot ROM and the command firmware execute them (12 R335 to
R342; 13 R354, R358, R375; 14 R381; 15 R409, R412). -/
namespace Sys2Proof.Machine

/-- The execution of the command in progress, where it has opcode op: nothing happens unless the ROM or firmware serves
it; in Fault-hold all but four get BAD_MODE (14 R382). -/
def hostCmd (op : Nat) (s : State) (f : State → State) : Out :=
  when (s.serving op && s.serves) s (fun s =>
    if s.mode = .faultHold ∧ holdOpcode op = false then s.reply0 Status.badMode else f s)

/-- The same, in the modes given, BAD_MODE in every other, and with a valid slot (12 R332, R335). The mode is checked before
the slot's fields: the manual gives no order (DESIGN CHOICE, log 94). -/
def hostCmdIn (op : Nat) (ok : Mode → Bool) (s : State) (f : State → State) : Out :=
  hostCmd op s (fun s => if ok s.mode then s.slotChecked f else s.reply0 Status.badMode)

/-- The total length of the scatter reference of the command in execution (12 R332). -/
def State.curTotal (s : State) : Nat := match s.host.cur with
  | some c => slotTotal c.slot
  | none => 0

/-- Byte 16 of the slot of the command in execution. -/
def State.curByte (s : State) : Nat := match s.host.cur with
  | some c => imgNat c.slot.params 0 1
  | none => 0

/-- Every mode that serves commands. -/
def inAny (_ : Mode) : Bool := true

/-- Ready only. -/
def inReady (m : Mode) : Bool := m == .ready
/-- Ready, Solo, Active. -/
def inWork (m : Mode) : Bool := m == .ready || m == .solo || m == .active
/-- The run modes. -/
def inRun (m : Mode) : Bool := m == .solo || m == .active || m == .shadow

/-! ### Identity and status (12 R335, R337) -/

/-- The identity block (12 R337). -/
def State.identity (s : State) : List Byte :=
  let fl := s.wh.flash
  [0x53#8, 0x56#8, 0x54#8, 0x2D#8, 0x32#8, 0x30#8, 0x34#8, 0x38#8] ++ leBytes 8 fl.serial.toNat ++
    leBytes 1 fl.stepping.toNat ++ leBytes 1 fl.lc.toNat ++ leBytes 2 (b2n s.arr.mapOk) ++ leBytes 2 s.arr.dead.toNat ++
    leBytes 2 Config.romVersion.toNat ++ leBytes 4 s.host.fwVer.toNat ++ leBytes 2 s.host.fwLevel.toNat ++
    leBytes 2 fl.secFloor.toNat ++ leBytes 4 fl.keys.toNat ++ leBytes 2 fl.log.length ++ leBytes 2 fl.lcLog.toNat ++
    List.replicate 216 0

/-- IDENTIFY: the identity block goes to the host's buffer (12 R335, R337). -/
def execIdentify (buf : Dbl) (len : Nat) (dmaOk : Bool) (s : State) : Out :=
  hostCmdIn 0x0001 inAny s (fun s =>
    if len < 256 then s.reply0 Status.badParam
    else if !dmaOk then s.reply0 Status.dmaError
    else ({ s with host := { s.host with out := s.identity, outAt := buf } }).reply1 Status.ok (s.wh.flash.lc.setWidth 64))

/-- STATUS (12 R335). -/
def execStatus (s : State) : Out :=
  hostCmdIn 0x0002 inAny s (fun s =>
    s.reply Status.ok (BitVec.ofNat 64 (s.mode.code + 2 ^ 16 * (loHalf s.tick.cur).toNat))
      (BitVec.ofNat 64 (s.host.fwVer.toNat + 2 ^ 32 * s.host.fwLevel.toNat)))

/-- LC_QUERY (12 R335). -/
def execLcQuery (s : State) : Out :=
  hostCmdIn 0x0003 inAny s (fun s => s.reply Status.ok (s.wh.flash.lc.setWidth 64) (s.wh.flash.lcLog.setWidth 64))

/-! ### Priming (12 R338 to R341) -/

/-- Write one microword, as the control-store window does: bad parity is not stored, the staging buffer is
empty afterwards (03 R100, R101). -/
def State.putMicro (s : State) (n v : Nat) : State :=
  let m : Micro := BitVec.ofNat 128 v
  let s := { s with mseq := { s.mseq with stageAddr := none, stage := [] } }
  if parityOk m then { s with mseq := { s.mseq with cs := sset (fun _ => 0) s.mseq.cs n m } }
  else s.setBit Reg.mseqStat 16

/-- Write one routine table entry, LO then HI (03 R102). -/
def State.putTable (s : State) (n v : Nat) : State :=
  (s.setReg (Reg.mseqRtabLo + 8 * n) (BitVec.ofNat 32 v &&& 0xBFFFFFFF#32)).setReg (Reg.mseqRtabHi + 8 * n)
    (BitVec.ofNat 32 (v / 2 ^ 32) &&& 0xFFFF#32)

/-- Write one entry of the library's table: a listed routine's CLEN, RUNMAX, attributes and VALID are those the manual gives,
a number that is not listed stays invalid (04 R132, R440; log 14). -/
def State.putLibTable (s : State) (n v : Nat) : State :=
  let e := libEntry n (BitVec.ofNat 32 v) (BitVec.ofNat 32 (v / 2 ^ 32))
  s.putTable n (e.1.toNat + 2 ^ 32 * e.2.toNat)

/-- Put the n-byte words of a section at consecutive indices from its DEST. -/
def State.putWords (s : State) (raw : List Byte) (x : Sect) (n : Nat) (f : State → Nat → Nat → State) : State :=
  ((x.words raw n).zipIdx).foldl (fun s p => f s (x.dest + p.2) p.1) s

/-- Load one section; the answer is the response code of the first refused store, 0 when none is. -/
def State.loadSect (raw : List Byte) (r : State × Nat) (x : Sect) : State × Nat :=
  let s := r.1
  if r.2 ≠ 0 then r
  else match x.ty with
    | 1 => s.putRange (supReq .cmd) x.dest (x.bytes raw)
    | 2 => s.putRange (supReq .cmd) x.dest (x.bytes raw)
    | 3 => (s.putWords raw x 16 State.putMicro, 0)
    | 4 => (s.putWords raw x 8 State.putLibTable, 0)
    | 16 => s.putRange (supReq .cmd) x.dest (x.bytes raw)
    | 17 => (s.putWords raw x 16 State.putMicro, 0)
    | 18 => (s.putWords raw x 8 State.putTable, 0)
    | 21 => s.putRange (supReq .cmd) x.dest (x.bytes raw)
    | _ => r

/-- The key slots that a life-cycle state permits (12 R340). -/
def keyPermitted (lc : BitVec 2) (slot : Nat) : Bool :=
  if lc = 0 then decide (slot < 4)
  else if lc = 1 then decide (1 ≤ slot) && decide (slot < 4)
  else if lc = 2 then slot == 0 else false

/-- The status of PRIME after steps 2 to 7, 0 when all pass (12 R340). -/
def State.primeCheck (s : State) (img : FwImage) : Nat :=
  let raw := img.raw
  let fl := s.wh.flash
  let slot := imgNat raw 20 1
  if s.curTotal ≠ imgLen raw then Status.badParam
  else if !img.copied then Status.dmaError
  else if !formatOk true raw then Status.format
  else if !(sections raw).all Sect.destOk then Status.badParam
  else if !(fl.keys.getLsbD slot && keyPermitted fl.lc slot) then Status.signature
  else if !(match fl.pub[slot]? with
    | some key => signatureOk key raw
    | none => false) then Status.signature
  else if imgNat raw 18 2 < fl.secFloor.toNat then Status.version
  else if !(imgNat raw 21 1).testBit fl.lc.toNat then Status.lifeCycle
  else Status.ok

/-- The sequencer core leaves reset: supervisor mode at SEQCORE_BOOT, VBASE equal to it; ignored once it runs. Bits
[8:0] and [63:48], which must be 0, do not count (09 R275). -/
def State.seqRelease (s : State) : State :=
  if s.seq.run then s
  else
    let boot := (s.reg Reg.seqcoreBootLo).toNat / 512 * 512 + 2 ^ 32 * s.fld Reg.seqcoreBootHi 15 0
    { s with seq := { s.seq with run := true, pc := BitVec.ofNat 48 boot, vbase := BitVec.ofNat 64 boot, pstat := 0x10 } }

/-- The firmware starts the sequencer core at an address of its own choice (12 R340; 09 R275; log 30). -/
def State.startSeq (s : State) : State :=
  if s.seq.run then s
  else
    let k := s.free
    (((s.useFree 2).setReg Reg.seqcoreBootLo (BitVec.ofNat 32 (Config.freeNat k) &&& 0xFFFFFE00#32)).setReg
      Reg.seqcoreBootHi (BitVec.ofNat 32 (Config.freeNat (k + 1)) &&& 0xFFFF#32)).seqRelease

/-- Entering Ready the firmware switches on BCAST, then every field that is not dead, then EDGE (14 R384); dispatch is
enabled (03 R121). -/
def State.powerFields (s : State) : State :=
  let s := s.bcastWrite true
  let s := (List.finRange 16).foldl (fun s f => if s.arr.dead.getLsbD f.val then s else s.fieldReq f 2) s
  (s.edgeWrite true true).setDispEn true

/-- PRIME after its sections are loaded: the command core enters the firmware, which starts the sequencer core, enters Ready
and replies (12 R340). -/
def State.primeStart (s : State) (raw : List Byte) : State :=
  let s := { s with
    mseq := { s.mseq with vendorLib := true }
    cmd := { s.cmd with pc := BitVec.ofNat 48 (imgNat raw 24 8), pstat := s.cmd.pstat ||| 0x10#16 }
    host := { s.host with
      rom := false, fw := true, primeTimer := false
      fwVer := BitVec.ofNat 32 (imgNat raw 12 4)
      fwLevel := BitVec.ofNat 16 (imgNat raw 16 2)
      fwSec := BitVec.ofNat 16 (imgNat raw 18 2) }
    wh := { s.wh with conv := s.wh.devOk } }
  let s := (s.startSeq.goMode .ready).powerFields
  s.reply1 Status.ok (s.host.fwVer.setWidth 64)

/-- Step 8 of PRIME: the sections are loaded. A store that the ring refuses ends it: Bare, the timer running on, since only
steps 2 to 7 stop it, and DEVICE_ERROR with the ring code in RESULT0 (12 R340, R341; log 94). -/
def State.primeDone (s : State) (raw : List Byte) : State :=
  let r := (sections raw).foldl (State.loadSect raw) (s, 0)
  if r.2 = 0 then r.1.primeStart raw else (r.1.goMode .bare).reply1 Status.deviceError (BitVec.ofNat 64 r.2)

/-- A failure in steps 2 to 7 of PRIME goes back to Bare and stops the timer (12 R340, R341). -/
def State.primeBack (s : State) : State := { s.goMode .bare with host := { s.host with primeTimer := false } }

/-- Steps 2 to 9 of PRIME. -/
def State.primeSteps (s : State) (img : FwImage) : State :=
  let bad := s.primeCheck img
  let s := if img.copied && s.curTotal == imgLen img.raw then s.memPut 8 0x10000000 (img.raw.take (24 * 2 ^ 20)) else s
  if bad ≠ 0 then s.primeBack.reply0 bad else s.primeDone img.raw

/-- PRIME. In Bare it enters Priming, with the timer; offered again in Priming it carries out steps 2 to 9; a scatter reference
or list that is not in order fails step 2 (12 R332, R340, R341). -/
def execPrime (img : FwImage) (s : State) : Out :=
  hostCmd 0x0004 s (fun s =>
    match s.mode, s.host.cur with
    | .bare, _ =>
      if s.wh.flash.lc = 3 then s.reply0 Status.lifeCycle
      else { s.goMode .priming with host := { s.host with primeTimer := true } }
    | .priming, some c => if slotValid c.slot && !listLost c.slot then s.primeSteps img else s.primeBack.slotChecked id
    | _, _ => s.reply0 Status.badMode)

/-- FW_COMMIT (12 R335). -/
def execFwCommit (s : State) : Out :=
  hostCmdIn 0x0010 inReady s (fun s =>
    let fl := s.wh.flash
    let floor := if fl.secFloor.toNat < s.host.fwSec.toNat then s.host.fwSec else fl.secFloor
    ({ s with wh := { s.wh with flash := { fl with secFloor := floor } } }).reply1 Status.ok (floor.setWidth 64))

/-! ### Workload images (12 R342) -/

/-- Mark every user routine table entry invalid. -/
def State.dropUser (s : State) : State :=
  (List.range 512).foldl (fun s i => s.setFld (Reg.mseqRtabLo + 8 * (512 + i)) 31 31 0) s

/-- The words of every section of a type, with their indices. -/
def imgTable (raw : List Byte) (ty n : Nat) : List (Nat × Nat) :=
  ((sections raw).filter (fun x => x.ty == ty)).flatMap (fun x =>
    ((x.words raw n).zipIdx).map (fun p => (x.dest + p.2, p.1)))

/-- The control store as it stands with the image's microwords loaded. -/
def State.storeWith (s : State) (micro : List (Nat × Nat)) (n : Nat) : Micro :=
  match micro.reverse.find? (fun p => p.1 == n) with
  | some p => BitVec.ofNat 128 p.2
  | none => sget (fun _ => 0) s.mseq.cs n

/-- The first user routine of an image, in ascending order, that the verifier refuses, and the check (12 R342;
03 R115). -/
def State.verifyImage (s : State) (raw : List Byte) : Option (Nat × Nat) :=
  let micro := imgTable raw 17 16
  let tab := ((imgTable raw 18 8).filter (fun p => p.2.testBit 31)).mergeSort (fun a b => decide (a.1 ≤ b.1))
  let used := micro.map (fun p => (BitVec.ofNat 128 p.2 : Micro)) ++ s.mseq.cs.map (·.2)
  tab.findSome? (fun p =>
    (verifyRoutine (s.storeWith micro) used (BitVec.ofNat 32 p.2) (BitVec.ofNat 32 (p.2 / 2 ^ 32))).map (fun k => (p.1, k)))

/-- The frames of an edge image. -/
def edgeFrames (raw : List Byte) (x : Sect) : List (BitVec 2048) := (x.words raw 256).map (BitVec.ofNat 2048)

/-- The end of a failed load: user entries stay invalid, the fabric UNLOADED, dispatch enabled again (12 R342). -/
def State.wlFail (s : State) : State :=
  let s := s.dropUser
  (if s.edge.st = .unloaded then s else s.edgeUnload).setDispEn true

/-- The digest's first 16 bytes as RESULT0 and RESULT1, little-endian. -/
def digestHalf (d : BitVec 384) (i : Nat) : Dbl :=
  (List.range 8).foldl (fun (v : Dbl) j => v ||| (((d >>> (376 - 64 * i - 8 * j)).setWidth 8 : Byte).setWidth 64 <<< (8 * j))) 0

/-- Steps 4 to 6 of WL_LOAD. -/
def State.wlPut (s : State) (img : WlImage) : State :=
  let raw := img.raw
  let r := (sections raw).foldl (State.loadSect raw) (s, 0)
  let s := r.1
  if r.2 ≠ 0 then s.wlFail.reply1 Status.deviceError (BitVec.ofNat 64 r.2)
  else
    let e := ((sections raw).filter (fun x => x.ty == 19)).foldl (fun (e : State × Bool) x =>
      if e.2 then e.1.fullImage (edgeFrames raw x) else e) (s, true)
    let s := e.1
    if !e.2 then s.wlFail.reply1 Status.edgeFail ((s.reg Reg.edgeCfgErr).setWidth 64)
    else
      let d := imgDigest raw
      let s := { s.setDispEn true with host := { s.host with wl := some d, wlJesd := img.jesd } }
      s.reply Status.ok (digestHalf d 0) (digestHalf d 1)

/-- WL_LOAD (12 R342). -/
def execWlLoad (img : WlImage) (s : State) : Out :=
  hostCmdIn 0x0020 inReady s (fun s =>
    let raw := img.raw
    let s := (s.setDispEn false).dropUser.edgeOff.edgeOnNow.edgeReady
    if !img.copied then s.wlFail.reply0 Status.dmaError
    else if s.curTotal ≠ imgLen raw then s.wlFail.reply0 Status.badParam
    else if !(formatOk false raw && digestOk raw) then s.wlFail.reply0 Status.format
    else if !(sections raw).all Sect.destOk then s.wlFail.reply0 Status.badParam
    else match s.verifyImage raw with
      | some (n, k) => s.wlFail.reply Status.verifyFail (BitVec.ofNat 64 n) (BitVec.ofNat 64 k)
      | none => s.wlPut img)

/-! ### Edge fabric (12 R335; 07) -/

/-- EDGE_FAIL with EDGE_CFG_ERR in RESULT0. -/
def State.edgeReply (s : State) (ok : Bool) : State :=
  if ok then s.reply0 Status.ok else s.reply1 Status.edgeFail ((s.reg Reg.edgeCfgErr).setWidth 64)

/-- FABRIC_START (12 R335; 07 R213). -/
def execFabricStart (atTick : Bool) (s : State) : Out :=
  hostCmdIn 0x0021 inReady s (fun s =>
    (s.edgeStart atTick).edgeReply (s.edge.st == .loaded && s.edge.startPend.isNone))

/-- FABRIC_STOP (12 R335; 07 R214). -/
def execFabricStop (s : State) : Out :=
  hostCmdIn 0x0022 inReady s (fun s => s.edgeStop.edgeReply (s.edge.st == .loaded || s.edge.st == .running))

/-- In Active an input takes effect at tick T = TICK_CUR + TWIN_LEAD.TICKS on both members, and the command is replied to when
it has, with T in RESULT1 (12 R335; 13 R358; log 94). Without a peer in lockstep no ACK is awaited. -/
def State.mirror (s : State) (x : Mirrored) (res0 : Option Dbl) : State :=
  if s.mirrorWaits then s
  else
    let t := s.tick.cur.toNat + s.fld Reg.twinLead 7 0
    let s := { s with twin := { s.twin with inputs := s.twin.inputs ++ [(⟨t, x, s.twin.state != 3, some res0⟩ : MirIn)] } }
    s.send (.fwd t x)

/-- BAY_RELOAD (12 R335; 07 R215; 13 R358). -/
def execBayReload (b : Fin 8) (frames : List (BitVec 2048)) (dmaOk : Bool) (s : State) : Out :=
  hostCmdIn 0x0023 inWork s (fun s =>
    if !dmaOk then s.reply0 Status.dmaError
    else if s.mode = .active then s.mirror (.bay b frames) none
    else
      let r := s.bayImage b frames
      r.1.edgeReply r.2)

/-! ### Links (12 R335; 08) -/

/-- Write the link settings of the loaded image and enable its links. -/
def State.putLinks (s : State) : State :=
  match s.host.wlJesd with
  | none => s
  | some x =>
    let put (a : Nat) (l : List Word) (s : State) : State :=
      (l.take 4).zipIdx.foldl (fun s p => s.jesdCfgWrite (a + 4 * p.2) p.1) s
    let s := put Reg.jesdRxRbd x.rbd (put Reg.jesdTxcfg x.tx (put Reg.jesdRxcfg x.rx s))
    (s.setReg Reg.jesdSysrefDly (x.dly &&& 0xFFF#32)).jesdCtlWrite x.ctl

/-- LINK_UP: waits until every enabled link is in data, a timeout of 0 checks once (12 R335). -/
def execLinkUp (timeoutMs : Nat) (s : State) : Out :=
  hostCmdIn 0x0024 inReady s (fun s =>
    if s.host.linkUp.isSome then s
    else
      let s := s.putLinks
      if s.linksInData then s.linkUpDone
      else if timeoutMs = 0 then s.reply1 Status.timeout (s.jesdStatus.setWidth 64)
      else { s with host := { s.host with linkUp := some timeoutMs } })

/-- LINK_UP_TIMEOUT: not every link is in data in time (12 R335). -/
def execLinkUpTimeout (s : State) : Out :=
  when (s.host.linkUp.isSome && s.serves) s (fun s =>
    ({ s with host := { s.host with linkUp := none } }).reply1 Status.timeout (s.jesdStatus.setWidth 64))

/-! ### Runs (12 R335; 13 R354, R375) -/

/-- RUN: role 0 enters Solo; roles 1 and 2 enter pair formation and send HELLO (12 R335, R344; 13 R354). -/
def execRun (role : Fin 4) (s : State) : Out :=
  hostCmdIn 0x0030 inReady s (fun s =>
    if s.host.runReq.isSome then s
    else if s.wh.flash.lc = 2 then s.reply0 Status.lifeCycle
    else if role = 3 then s.reply0 Status.badParam
    else if role = 0 then
      (s.goMode .solo).reply1 Status.ok (if s.tick.run then s.tick.count + 1 else 0)
    else
      let s := { s with
        host := { s.host with runReq := some role.val }
        twin := { s.twin with state := 1, role := BitVec.ofNat 2 role.val, peer := none } }
      s.send (.hello s.helloOut))

/-- The first frame whose boundary lies at least 4 µs ahead (13 R375). -/
def State.handFrame (s : State) : Nat :=
  let t := s.tick
  let f := t.frame.toNat + 1
  let goal := s.dcyc + (4 * s.wh.khz + 999) / 1000
  let per := max (t.pendFrame.getD t.frameLen * t.pendPeriod.getD t.period) 1
  f + (goal - t.frameAt f + (per - 1)) / per

/-- STOP_RUN: the run ends at the next frame boundary; an active member with a shadow hands over at frame boundary F
(12 R335; 13 R375). -/
def execStopRun (s : State) : Out :=
  hostCmdIn 0x0031 inRun s (fun s =>
    if s.host.stopReq then s
    else
      let s := { (s.setFld Reg.errorStStat 1 1 0) with host := { s.host with stopReq := true } }
      if s.mode = .active ∧ (s.twin.state = 2 ∨ s.twin.state = 3) then
        let f := s.handFrame
        ({ s with twin := { s.twin with handF := some f } }).send (.stepdown (some f))
      else s)

/-! ### Data (12 R335) -/

/-- May the host move data at [a, a + n): in the cisterns or bulk memory, outside the firmware range (12 R339)? -/
def dataRange (a n : Nat) : Bool := inCist a n || (inBulk a n && !inFirm a n)

/-- DATA_WRITE (12 R335; 13 R358). -/
def execDataWrite (dst : BitVec 48) (content : List Byte) (dmaOk : Bool) (s : State) : Out :=
  hostCmdIn 0x0040 inWork s (fun s =>
    if !dataRange dst.toNat content.length || content.length != s.curTotal then s.reply0 Status.badParam
    else if !dmaOk then s.reply0 Status.dmaError
    else if s.mode = .active then s.mirror (.data dst content) none
    else
      let r := s.putRange (supReq .cmd) dst.toNat content
      if r.2 = 0 then r.1.reply0 Status.ok else r.1.reply1 Status.deviceError (BitVec.ofNat 64 r.2))

/-- DATA_READ: the bytes go to the host; bad: the granules, by number, whose check words show an error (12 R335; 06 R173,
R182). -/
def execDataRead (src : BitVec 48) (len : Nat) (dmaOk : Bool) (bad : List (Nat × Ecc)) (s : State) : Out :=
  hostCmdIn 0x0041 inAny s (fun s =>
    if !dataRange src.toNat len || len != s.curTotal then s.reply0 Status.badParam
    else
      let r := s.readRange (supReq .cmd) bad src.toNat len
      let s := r.1
      if r.2 ≠ 0 then s.reply1 Status.deviceError (BitVec.ofNat 64 r.2)
      else if !dmaOk then s.reply0 Status.dmaError
      else ({ s with host := { s.host with out := s.bytes src.toNat len, outAt := 0 } }).reply0 Status.ok)

/-- SEED: the workload receives the seed at the effective tick (12 R335; 13 R358). -/
def execSeed (v : BitVec 256) (s : State) : Out :=
  hostCmdIn 0x0042 (fun m => m == .solo || m == .active) s (fun s =>
    if s.mode = .active then s.mirror (.seed v) none
    else (s.applyInput (.seed v)).1.reply0 Status.ok)

/-- USER: opcodes 0x1000 to 0x7FFF, passed to the workload with at most 48 bytes; its results are the workload's
(12 R335; 13 R358). -/
def execUser (params : List Byte) (res0 res1 : Dbl) (s : State) : Out :=
  done s (match s.host.cur with
    | none => s
    | some c =>
      let op := c.slot.opcode
      if s.alive && s.serves && decide (0x1000 ≤ op.toNat) && decide (op.toNat ≤ 0x7FFF) then
        let x : Mirrored := .user op (params.take 48)
        if !inWork s.mode then s.reply0 Status.badMode
        else s.slotChecked (fun s =>
          if s.mode = .active then s.mirror x (some res0)
          else (s.applyInput x).1.reply Status.ok res0 res1)
      else s)

/-! ### Self-test and Quiescent (15 R409, R412; 14 R381) -/

/-- SELFTEST_FULL, byte 16 of the slot being 0: Self-test begins; the edge fabric stops and stays LOADED (15 R409, R410). -/
def execSelftestFull (repair log : Bool) (s : State) : Out :=
  hostCmd 0x0050 s (fun s =>
    if s.mode = .selfTest ∨ s.curByte = 1 then s
    else if s.curByte ≠ 0 then s.reply0 Status.badParam
    else if s.running then s.reply0 Status.busyRunning
    else if s.mode ≠ .ready then s.reply0 Status.badMode
    else s.slotChecked (fun s =>
      let s := if s.edge.st = .running ∨ s.edge.st = .loaded then s.edgeStop else s
      let s := { s with host := { s.host with stOpts := some (repair, log) } }
      (s.setFld Reg.errorStStat 0 0 1).goMode .selfTest))

/-- SELFTEST_SLACK, byte 16 of the slot being 1: slack self-test is armed (15 R412). -/
def execSelftestSlack (s : State) : Out :=
  hostCmd 0x0050 s (fun s =>
    if s.curByte ≠ 1 then s
    else if inRun s.mode then s.slotChecked (fun s => (s.setFld Reg.errorStStat 1 1 1).reply0 Status.ok)
    else s.reply0 Status.badMode)

/-- QUIESCE: once both streams are idle, the reply and then Quiescent (14 R381). -/
def execQuiesce (s : State) : Out :=
  hostCmdIn 0x0051 inReady s (fun s =>
    if s.idleNow true then
      let s := s.reply0 Status.ok
      if s.host.held.isSome then s else s.enterQuiescent
    else s)

end Sys2Proof.Machine
end

