-- ==== Sys2Proof/Machine/Ring.lean ====
section
/-! DEFINITION. The ring fabric: flits on their way, epochs, aging, isolation, draining, snoops (11 R305 to R324). -/
namespace Sys2Proof.Machine

/-! ### Flits (11 R307, R313, R314) -/

/-- The injection urgency of a station (11 R314). -/
def State.injUrg (s : State) (src : Nat) : Nat := s.fld (Reg.ringInjUrg + 4 * src) 2 0

/-- Does any flit of the epoch not in force remain (11 R322)? A snoop counts until its core has answered it (log 92). -/
def State.oldLive (s : State) : Bool :=
  s.ring.resp.any (fun r => r.epoch != s.ring.epoch) || s.ring.snoops.any (fun x => x.epoch != s.ring.epoch)

/-- A completion sets out for its requester; data lies at the granule positions. -/
def State.respond (s : State) (r : Resp) : State := { s with ring := { s.ring with resp := s.ring.resp ++ [r] } }

/-- Waiting raises a flit's urgency n times, to 7 at most; the increase to 7 counts (11 R313). Answers the urgency. -/
def State.raised (s : State) (urg n : Nat) : State × Nat :=
  (if urg < 7 ∧ 7 ≤ urg + n then s.countWord Reg.ringAged Reg.ringStat 5 1 else s, max urg (min (urg + n) 7))

/-- URGENCY_AGING: a flit has waited 512 ring cycles at a router: the i-th response, its data flit, or the i-th snoop (11
R313). Those of requests and of their data say so themselves, by how often. -/
def execUrgencyAging (net : Fin 3) (i : Nat) (s : State) : Out :=
  when s.alive s (fun s =>
    if net = 2 then
      match s.ring.snoops[i]? with
      | none => s
      | some x =>
        let a := s.raised x.urg 1
        { a.1 with ring := { a.1.ring with snoops := a.1.ring.snoops.set i { x with urg := a.2 } } }
    else
      match s.ring.resp[i]? with
      | none => s
      | some r =>
        let a := s.raised (if net = 0 then r.urg else r.durg) 1
        { a.1 with ring := { a.1.ring with
          resp := a.1.ring.resp.set i (if net = 0 then { r with urg := a.2 } else { r with durg := a.2 }) } })

/-- The requests to station n that it has been given and not answered get a code of the router's own: those among the
responses listed that the station itself would send (11 R318, R320). -/
def State.failPending (s : State) (n : Nat) (code : BitVec 4) (unanswered : List Nat) : State :=
  let fails (p : Resp × Nat) : Bool := p.1.src == n && unanswered.contains p.2 && !(decide (1 ≤ p.1.code.toNat) && decide (p.1.code.toNat ≤ 5))
  { s with ring := { s.ring with
      resp := s.ring.resp.zipIdx.map (fun (p : Resp × Nat) => if fails p then { p.1 with code := code, data := 0 } else p.1) } }

/-! ### Routing (11 R303, R309 to R312) -/

/-- The clockwise distance between two positions of a ring (11 R303). -/
def clockwise (a b : Nat) : Nat := (b + 16 - a) % 16

/-- The positions of the shorter way. -/
def nearer (a b : Nat) : Nat := min (clockwise a b) (clockwise b a)

/-- The direction from position a to b, true anticlockwise: the forced one (1 clockwise, 2 anticlockwise); the shorter way
where the distances differ by more than 2; otherwise the way with more free credits, which is free: credit 0 equal, 1
clockwise, 2 anticlockwise; equal credits give the shorter way, then clockwise (11 R309). -/
def chooseDir (dir credit a b : Nat) : Bool :=
  let dc := clockwise a b
  let da := clockwise b a
  if dir = 1 then false
  else if dir = 2 then true
  else if dc + 2 < da then false
  else if da + 2 < dc then true
  else if credit = 1 then false
  else if credit = 2 then true
  else decide (da < dc)

/-- The way from a to b on one ring: virtual channel 0 until the link between positions 15 and 0 is crossed, 1 from there
(11 R310). -/
def legOf (dir credit a b : Nat) : Leg :=
  let anti := chooseDir dir credit a b
  ⟨a, b, anti, if a ≠ b ∧ (if anti then a < b else b < a) then 1 else 0⟩

/-- Positions travelled on a leg. -/
def Leg.length (l : Leg) : Nat := if l.anti then clockwise l.leave l.enter else clockwise l.enter l.leave

/-- The bridge of a route-table entry: 1 and 2 name it, else the one with fewer positions in total, bridge 0 when equal
(11 R311). Bridge 0 joins positions 0, bridge 1 positions 8. -/
def bridgeOf (entry : BitVec 4) (a b : Nat) : Nat :=
  let n := bits entry.toNat 3 2
  if n = 1 then 0
  else if n = 2 then 1
  else if nearer a 8 + nearer 8 b < nearer a 0 + nearer 0 b then 1 else 0

/-- The way of a packet from station src to station dst by the destination's entry; c1, c2: what the credits say on each
ring. An unblocked flit spends 2 cycles in injection, 1 for each position, 2 in a bridge, 2 in ejection (11 R309 to R312). -/
def routeOf (entry : BitVec 4) (c1 c2 src dst : Nat) : Route :=
  let dir := bits entry.toNat 1 0
  let a := src % 16
  let b := dst % 16
  if src / 16 = dst / 16 then
    let l := legOf dir c1 a b
    ⟨[l], none, 4 + l.length⟩
  else
    let n := bridgeOf entry a b
    let l := legOf dir c1 a (8 * n)
    let m := legOf dir c2 (8 * n) b
    ⟨[l, m], some n, 6 + l.length + m.length⟩

/-- The route table in force, or the other one. -/
def State.route (s : State) (inForce : Bool) : Vector (BitVec 4) 32 :=
  if s.ring.epoch == inForce then s.ring.rt1 else s.ring.rt0

/-- A packet goes from station src to dst: its way by the table of the epoch in force, two free values telling the credits
(log 76); one that enters no ring has none. -/
def State.inject (s : State) (enters : Bool) (src dst : Nat) : State × Route :=
  let credit (i : Nat) : Nat := Config.freeNat (s.free + i) % 3
  if enters then (s.useFree 2, routeOf ((s.route true)[dst]?.getD 0) (credit 0) (credit 1) src dst)
  else (s, ⟨[], none, 0⟩)

/-! ### Isolation (11 R318, R319) -/

/-- RING_ERRLOG records an isolation event; whose request it was the manual does not say: SRC, TAG and the address are
free (log 31). -/
def State.logIsolation (s : State) (n : Nat) : State :=
  if bit (s.reg Reg.ringErrlog) 22 then s
  else
    let f (i : Nat) : Nat := Config.freeNat (s.free + i)
    let v := 4 + f 0 % 32 * 16 + n * 512 + f 1 % 256 * 16384 + 2 ^ 22
    ((((s.useFree 4).setReg Reg.ringErrlog (BitVec.ofNat 32 v)).setReg Reg.ringErraddrLo (BitVec.ofNat 32 (f 2)))).setReg
      Reg.ringErraddrHi (BitVec.ofNat 32 (f 3 % 2 ^ 16))

/-- ISOLATION: a timer of station n reaches 4,096 ring cycles, these requests being delivered and unanswered (11 R318). -/
def execIsolation (n : Fin 32) (unanswered : List Nat) (s : State) : Out :=
  when (s.alive && !s.ring.iso.getLsbD n.val) s (fun s =>
    let s := (s.failPending n.val 4 unanswered).logIsolation n.val
    let s := { s with ring := { s.ring with iso := s.ring.iso ||| (1#32 <<< n.val) } }
    if s.running then s.fatal 13 else s.contained 37)

/-! ### Draining (11 R320) -/

/-- DRAIN_END: nothing is outstanding, or 2,500 ring cycles have passed, these requests being unanswered: the station is dry
and loses its power. A request to switch EDGE on that came meanwhile then acts (11 R320; 14 R386). -/
def execDrainEnd (n : Fin 32) (unanswered : List Nat) (s : State) : Out :=
  when (s.alive && s.ring.drain.getLsbD n.val) s (fun s =>
    let s := s.failPending n.val 5 unanswered
    let b := 1#32 <<< n.val
    if n = 31 then
      let s := s.edgeOff
      if s.pwr.edgeReq then s.edgeOnNow else s
    else { s with ring := { s.ring with drain := s.ring.drain &&& ~~~b, dry := s.ring.dry ||| b } })

/-! ### Epochs (11 R321, R322) -/

/-- A write of 1 to RING_EPOCH.FLIP. -/
def State.flip (s : State) : State :=
  if s.oldLive then s.setBit Reg.ringStat 2 else { s with ring := { s.ring with epoch := !s.ring.epoch } }

/-- FLIP (11 R322). -/
def execFlip (q : Requester) (s : State) : Out := done s (regWrite q Reg.ringEpoch s State.flip)

/-- Write the copy not in force (11 R321). -/
def State.routeWrite (s : State) (d : Fin 32) (v : Word) : State :=
  { s with ring :=
      if s.ring.epoch then { s.ring with rt0 := vset s.ring.rt0 d (v.setWidth 4) }
      else { s.ring with rt1 := vset s.ring.rt1 d (v.setWidth 4) } }

/-! ### Snoops (11 R308) -/

/-- The core at a station, if any. -/
def coreAt (n : Nat) : Option CoreId := if n = 0 then some .seq else if n = 8 then some .cmd else none

/-- Is the station a bulk controller's (11 R304)? -/
def bulkStation (n : Nat) : Bool := n == 7 || n == 23

/-- A controller's snoop sets out for a core: 1 invalidate, 2 fetch, 3 fetch and invalidate. The caches are coherent, so
memory shows nothing of it; the line that an invalidation takes away takes a reservation with it (11 R308; 06 R184; 09 R266). -/
def State.snoopOut (s : State) (c : CoreId) (x : SnoopFlit) : State :=
  let g := x.granule.toNat
  let p := s.inject true x.src.toNat x.dst.toNat
  let a := p.1.raised x.urg.toNat x.aged
  let s := a.1
  let s : State := { s with ring := { s.ring with
    snoops := s.ring.snoops ++ [⟨x.src.toNat, x.dst.toNat, g, x.ty.toNat, x.tag.toNat, a.2, s.ring.epoch, p.2⟩] } }
  if x.ty ≠ 2 ∧ (s.core c).rsv = some g then s.setCore c { s.core c with rsv := none } else s

/-- A core's acknowledgement of a snoop: the controller waits for that one no longer. Data comes only of a fetch. -/
def State.snoopAck (s : State) (x : SnoopFlit) : State :=
  let a := s.raised x.urg.toNat x.aged
  let mine (y : Snoop) : Bool := y.src == x.dst.toNat && y.dst == x.src.toNat && y.granule == x.granule.toNat &&
    y.tag == x.tag.toNat && (x.ty == 4 || y.ty != 1)
  { a.1 with ring := { a.1.ring with snoops := a.1.ring.snoops.eraseP mine } }

/-- SNOOP: a coherence message between a core's L1 data cache and a bulk controller: types 1 to 3 to a core, its
acknowledgements 4 and 5, with data; no other station sends or receives one (11 R308). -/
def execSnoop (x : SnoopFlit) (s : State) : Out :=
  when s.alive s (fun s =>
    if 1 ≤ x.ty.toNat ∧ x.ty.toNat ≤ 3 then
      match coreAt x.dst.toNat with
      | some c => if bulkStation x.src.toNat then s.snoopOut c x else s
      | none => s
    else if (x.ty = 4 ∨ x.ty = 5) ∧ (coreAt x.src.toNat).isSome ∧ bulkStation x.dst.toNat then s.snoopAck x
    else s)

end Sys2Proof.Machine
end

