-- ==== Sys2Proof/Machine/RunCtl.lean ====
section
/-! DEFINITION. Run control: halting, stepping and resuming a core, its registers while halted, the microsequencer's
single step, the freeze, the virtual terminals (16 R423 to R435). -/
namespace Sys2Proof.Machine

/-! ### Control registers (09 R249) -/

/-- Bits of a TWB register that exist. -/
def twbMask : Dbl := 0xFFFFFFFFF007#64
/-- Bits of a TWL register that exist. -/
def twlMask : Dbl := 0xFFFFFFFFF000#64

/-- What control register n reads as; none: reserved. -/
def Core.crRead (k : Core) (n : Nat) : Option Dbl :=
  if n = 0 then some (k.pstat.setWidth 64)
  else if n = 1 then some k.vbase
  else if n = 2 then some (k.ctxid.setWidth 64)
  else if n = 3 then some k.g[31]
  else if n = 4 then some k.synd
  else if n = 5 then some k.dvQ
  else if n = 6 then some k.dvR
  else if n = 7 then some k.dvSt
  else if n = 8 then some k.scr0
  else if n = 9 then some k.scr1
  else if 16 ≤ n ∧ n < 24 then k.twb[n - 16]?
  else if 24 ≤ n ∧ n < 32 then k.twl[n - 24]?
  else none

/-- Write control register n; none: reserved. -/
def Core.crWrite (k : Core) (n : Nat) (v : Dbl) : Option Core :=
  if n = 0 then some { k with pstat := v.setWidth 16 &&& 0x3F#16 }
  else if n = 1 then some { k with vbase := v &&& ~~~0x1FF#64 }
  else if n = 2 then some { k with ctxid := v.setWidth 8 }
  else if n = 3 then some { k with g := vset k.g 31 v }
  else if n = 4 then some { k with synd := v }
  else if n = 5 then some { k with dvQ := v }
  else if n = 6 then some { k with dvR := v }
  else if n = 7 then some { k with dvSt := v }
  else if n = 8 then some { k with scr0 := v }
  else if n = 9 then some { k with scr1 := v }
  else if h : 16 ≤ n ∧ n < 24 then some { k with twb := vset k.twb ⟨n - 16, by omega⟩ (v &&& twbMask) }
  else if h : 24 ≤ n ∧ n < 32 then some { k with twl := vset k.twl ⟨n - 24, by omega⟩ (v &&& twlMask) }
  else none

/-! ### Halts (16 R423 to R425) -/

/-- The freeze follows FREEZE and the halts; when it ends the wellhead watchdog reloads (16 R434; 14 R402). A core that
steps counts as halted. -/
def State.refreeze (s : State) : State :=
  let on := bit (s.reg Reg.dbgGlb) 0 && (s.seq.halted || s.seq.stepping || s.cmd.halted || s.cmd.stepping)
  { s with wh := { s.wh with frozen := on, wdLeft := if s.wh.frozen && !on then s.wh.wdPeriod else s.wh.wdLeft } }

/-- A write of 1 to DBG_CTL[c].HALT; refused for the command core in Active and Shadow. -/
def State.haltWrite (s : State) (c : CoreId) : State :=
  if c = .cmd ∧ (s.mode = .active ∨ s.mode = .shadow) then s.setBit (dbgOf c Reg.dbgStat) 5
  else
    let k := s.core c
    if k.halted || k.haltReq != 0 then s else s.setCore c { k with haltReq := 1 }

/-- HALT (16 R423, R424). -/
def execHalt (q : Requester) (c : CoreId) (s : State) : Out :=
  done s (regWrite q (dbgOf c Reg.dbgCtl) s (fun s => s.haltWrite c))

/-- The mode of a device whose sequencer core halts: Halted, from Ready, Solo, Active and Shadow. An active member steps
down; a member of a pair has left it, and a STOP_RUN in progress is done (14 R379; 13 R367; 16 R424). -/
def State.enterHalted (s : State) : State :=
  let from_ := s.mode
  if from_ = .ready ∨ from_ = .solo ∨ from_ = .active ∨ from_ = .shadow then
    let s := if from_ = .active then s.send (.stepdown none) else s
    let s := { s.goMode .halted with leftMode := from_ }
    if from_ = .active ∨ from_ = .shadow then
      let s := s.dropMirror.leavePair
      if s.host.stopReq then ({ s with host := { s.host with stopReq := false } }).reply0 Status.ok else s
    else s
  else s

/-- Core c halts: what waits at its head is discarded, the reservation is cleared, WHY records the cause; a halt of the
sequencer core holds dispatch and closes the valve (16 R423, R424; 03 R120; 08 R234). -/
def State.coreHalt (s : State) (c : CoreId) : State :=
  let k := s.core c
  let s := s.setCore c { k with
    halted := true, haltReq := 0, stepping := false, wait := none, wfi := false, rsv := none
    ibSkip := if k.haltReq = 2 then some k.ipc else k.ibSkip }
  let s := s.setFld (dbgOf c Reg.dbgStat) 3 1 k.haltReq
  let s := match c with
    | .seq => ({ s with mseq := { s.mseq with held := true } }).holdPrep.enterHalted.closing
    | .cmd => s
  s.refreeze

/-- CORE_HALT: a core with a halt due halts at its retirement boundary (16 R423). -/
def execCoreHalt (c : CoreId) (s : State) : Out :=
  when (!s.coreDown c && (s.core c).run && !(s.core c).halted && (s.core c).haltReq != 0) s (fun s => s.coreHalt c)

/-- The core starts to retire again: PSTAT as the debugger wrote it (16 R427, R428). -/
def State.unhalt (s : State) (c : CoreId) (stepping : Bool) : State :=
  let k := s.core c
  s.setCore c { k with
    halted := false
    stepping := stepping
    pstat := k.pstatPend.getD k.pstat
    pstatPend := none }

/-- A write of 1 to DBG_CTL[c].RESUME: the core watchdog reloads; for the sequencer core the microsequencer is released
and Halted is left for Solo or Ready (16 R427, R433; 14 R379; 09 R274). -/
def State.resumeWrite (s : State) (c : CoreId) : State :=
  if !(s.core c).halted then s
  else
    let s := (s.unhalt c false).reloadWdog c
    let s := match c with
      | .seq =>
        let s := ({ s with mseq := { s.mseq with held := false, brk := none } }).release
        if s.mode = Mode.halted then s.goMode (if s.leftMode = Mode.solo then Mode.solo else Mode.ready) else s
      | .cmd => s
    s.refreeze

/-- RESUME (16 R427). -/
def execResume (q : Requester) (c : CoreId) (s : State) : Out :=
  done s (regWrite q (dbgOf c Reg.dbgCtl) s (fun s => s.resumeWrite c))

/-- A write of 1 to DBG_CTL[c].STEP: one instruction, then the core halts again (16 R426). -/
def State.stepWrite (s : State) (c : CoreId) : State := if (s.core c).halted then s.unhalt c true else s

/-- STEP (16 R426). -/
def execStep (q : Requester) (c : CoreId) (s : State) : Out :=
  done s (regWrite q (dbgOf c Reg.dbgCtl) s (fun s => s.stepWrite c))

/-- STEP_BLOCKED: the stepped instruction waits for 1,000 core cycles: it is not retired (16 R426). -/
def execStepBlocked (c : CoreId) (s : State) : Out :=
  when ((s.core c).stepping && ((s.core c).wait.isSome || (s.core c).wfi) && (s.core c).haltReq == 0 && !s.coreDown c) s
    (fun s => ((s.setCore c { s.core c with haltReq := 5 }).coreHalt c).setBit (dbgOf c Reg.dbgStat) 4)

/-- A write of DBG_CTL[c]: STEP_IE and BKPT_HALT are stored, then HALT, RESUME and STEP act. -/
def State.dbgCtlWrite (s : State) (c : CoreId) (v : Word) : State :=
  let s := s.setReg (dbgOf c Reg.dbgCtl) (v &&& 0x18#32)
  let s := if bit v 0 then s.haltWrite c else s
  let s := if bit v 1 then s.resumeWrite c else s
  if bit v 2 then s.stepWrite c else s

/-! ### Registers of a halted core (16 R428) -/

/-- DBG_STAT[c].REG_ERR. -/
def State.regErr (s : State) (c : CoreId) : State := s.setBit (dbgOf c Reg.dbgStat) 18

/-- DBG_REG_SEL[c].SEL. -/
def State.regSel (s : State) (c : CoreId) : Nat := s.fld (dbgOf c Reg.dbgRegSel) 9 0

/-- The selected register; none: a reserved selector. -/
def State.selRead (s : State) (c : CoreId) (sel : Nat) : Option Dbl :=
  let k := s.core c
  if h : sel < 0x20 then some (k.gr ⟨sel, h⟩)
  else if sel = 0x20 then some (k.pc.setWidth 64)
  else if sel = 0x21 then some k.lc
  else if sel = 0x22 then some k.ssp
  else if 0x40 ≤ sel ∧ sel < 0x60 then
    (if sel = 0x40 then some ((k.pstatPend.getD k.pstat).setWidth 64) else k.crRead (sel - 0x40))
  else if 0x60 ≤ sel ∧ sel < 0x68 then k.k[sel - 0x60]?
  else if sel = 0x68 then some (BitVec.ofNat 64 k.vl)
  else if sel = 0x69 then some (k.fsr.setWidth 64)
  else if 0x100 ≤ sel ∧ sel < 0x200 then
    k.v[(sel - 0x100) / 8]?.map (fun (x : VReg) => (x >>> (64 * (sel % 8))).setWidth 64)
  else if c = .cmd then none
  else if 0x200 ≤ sel ∧ sel < 0x210 then s.iss.ptr[sel - 0x200]?.map Ptr.toDbl
  else if 0x210 ≤ sel ∧ sel < 0x218 then s.iss.sreg[sel - 0x210]?.map (fun x => x.val)
  else if sel = 0x218 then
    some (BitVec.ofNat 64 ((List.finRange 8).foldl (fun n i => n + b2n s.iss.sreg[i].valid * 2 ^ i.val) 0))
  else none

/-- Write the selected register; none: REG_ERR. -/
def State.selWrite (s : State) (c : CoreId) (sel : Nat) (v : Dbl) : Option State :=
  let k := s.core c
  let put (k : Core) : Option State := some (s.setCore c k)
  if h : sel < 0x20 then put (k.gw ⟨sel, h⟩ v)
  else if sel = 0x20 then (if v.toNat % 4 = 0 then put { k with pc := v.setWidth 48 } else none)
  else if sel = 0x21 then put { k with lc := v }
  else if sel = 0x22 then put { k with ssp := v }
  else if sel = 0x40 then put { k with pstatPend := some (v.setWidth 16 &&& 0x3F#16) }
  else if 0x40 ≤ sel ∧ sel < 0x60 then (k.crWrite (sel - 0x40) v).bind put
  else if h : 0x60 ≤ sel ∧ sel < 0x68 then put { k with k := vset k.k ⟨sel - 0x60, by omega⟩ v }
  else if sel = 0x68 then (if v.toNat ≤ 64 then put { k with vl := v.toNat } else none)
  else if sel = 0x69 then put { k with fsr := v.setWidth 16 &&& 0x71F#16 }
  else if h : 0x100 ≤ sel ∧ sel < 0x200 then
    let i : Fin 32 := ⟨(sel - 0x100) / 8, by omega⟩
    let m : VReg := (0xFFFFFFFFFFFFFFFF#512) <<< (64 * (sel % 8))
    put { k with v := vset k.v i ((k.v[i] &&& ~~~m) ||| (v.setWidth 512 <<< (64 * (sel % 8)))) }
  else if c = .cmd then none
  else if h : 0x200 ≤ sel ∧ sel < 0x210 then
    (Ptr.ofDbl v).map (fun x => s.setPtr ⟨sel - 0x200, by omega⟩ x)
  else if 0x210 ≤ sel ∧ sel ≤ 0x218 then some s
  else none

/-- DBG_REG_LO or DBG_REG_HI is read: an access while the core runs, or to a reserved selector, sets REG_ERR. -/
def State.dbgRegRead (s : State) (c : CoreId) : State :=
  if (s.core c).halted && (s.selRead c (s.regSel c)).isSome then s else s.regErr c

/-- DBG_REG_LO or DBG_REG_HI is written: that half of the selected register changes. -/
def State.dbgRegWrite (s : State) (c : CoreId) (hi : Bool) (v : Word) : State :=
  let sel := s.regSel c
  if !(s.core c).halted then s.regErr c
  else match s.selRead c sel with
    | none => s.regErr c
    | some old =>
      let x := if hi then ofHalves v (loHalf old) else ofHalves (hiHalf old) v
      match s.selWrite c sel x with
      | some s => s
      | none => s.regErr c

/-- DBG_REG: an access to DBG_REG_LO or DBG_REG_HI (16 R428). -/
def execDbgReg (q : Requester) (c : CoreId) (hi wr : Bool) (v : Word) (s : State) : Out :=
  let a := dbgOf c (if hi then Reg.dbgRegHi else Reg.dbgRegLo)
  if wr then done s (regWrite q a s (fun s => s.dbgRegWrite c hi v))
  else when s.alive s (fun s =>
    let code := accessCode s q false a 4
    if code = 0 then s.dbgRegRead c else refuse s q false a code)

/-! ### The microsequencer's single step (16 R433) -/

/-- A write of 1 to DBG_GLB.MSTEP: with the microsequencer stopped by a break, one microword runs. The break has halted
the sequencer core, so Ready means Halted from Ready too (log 32). -/
def State.mstepWrite (s : State) : State :=
  if (s.mode = .ready ∨ (s.mode = .halted ∧ s.leftMode = .ready)) ∧ s.mseq.brk.isSome = true then { s with dbg := { s.dbg with mstep := true } } else s

/-- MSTEP (16 R433). -/
def execMstep (q : Requester) (s : State) : Out := done s (regWrite q Reg.dbgGlb s State.mstepWrite)

/-! ### Freeze (16 R434) -/

/-- A write of DBG_GLB.FREEZE: in Deployed a 1 is ignored while locked. -/
def State.freezeWrite (s : State) (on : Bool) : State :=
  if on && s.wh.flash.lc == 1 && s.dbg.unlocked != 2 then s
  else (s.setFld Reg.dbgGlb 0 0 (b2n on)).refreeze

/-- FREEZE (16 R434). -/
def execFreeze (q : Requester) (on : Bool) (s : State) : Out :=
  done s (regWrite q Reg.dbgGlb s (fun s => s.freezeWrite on))

/-! ### Virtual terminals (16 R435) -/

/-- Add a byte to a FIFO of 64; a full one drops it. -/
def pushByte (l : List Byte) (b : Byte) : List Byte × Bool := if 64 ≤ l.length then (l, true) else (l ++ [b], false)

/-- A write of DBG_TXD[c] or DBG_RXD[c]. -/
def State.vtWrite (s : State) (c : CoreId) (rx : Bool) (b : Byte) : State :=
  let k := s.core c
  let p := pushByte (if rx then k.rxd else k.txd) b
  let s := s.setCore c (if rx then { k with rxd := p.1 } else { k with txd := p.1 })
  if p.2 then s.setBit (dbgOf c Reg.dbgVtstat) 14 else s

/-- A read of DBG_TXD[c] or DBG_RXD[c] consumes the byte, unless it is quiet (16 R430, R435). -/
def State.vtRead (s : State) (c : CoreId) (rx quiet : Bool) : State :=
  let k := s.core c
  if quiet then s
  else s.setCore c (if rx then { k with rxd := k.rxd.tail } else { k with txd := k.txd.tail })

/-- The two virtual terminal rows. -/
def vtAccess (q : Requester) (c : CoreId) (rx wr : Bool) (b : Byte) (s : State) : State :=
  let a := dbgOf c (if rx then Reg.dbgRxd else Reg.dbgTxd)
  if wr then regWrite q a s (fun s => s.vtWrite c rx b)
  else if !s.alive then s
  else
    let code := accessCode s q false a 4
    if code = 0 then s.vtRead c rx q.quiet else refuse s q false a code

/-- DBG_TXD (16 R435). -/
def execDbgTxd (q : Requester) (c : CoreId) (wr : Bool) (b : Byte) (s : State) : Out := done s (vtAccess q c false wr b s)

/-- DBG_RXD (16 R435). -/
def execDbgRxd (q : Requester) (c : CoreId) (wr : Bool) (b : Byte) (s : State) : Out := done s (vtAccess q c true wr b s)

end Sys2Proof.Machine
end

