-- ==== Sys2Proof/Machine/RegRead.lean ====
section
/-! DEFINITION. What a register reads as: the stored word with the values that structures of State hold laid over it, the
latched-high rule, quiet reads and the side effects of a read (00 R8; 01 R31; 15 R408; 16 R430). -/
namespace Sys2Proof.Machine

/-- A number as a register word. -/
def w32 (n : Nat) : Word := BitVec.ofNat 32 n

/-- A number with bit i equal to f i, for i below n. -/
def packBits (n : Nat) (f : Nat → Bool) : Nat := (List.range n).foldl (fun v i => v + b2n (f i) * 2 ^ i) 0

/-! ### Time that passes before a read (log 13) -/

/-- Is nothing on its way in the array, so that its clock may run on unseen? -/
def State.arrayIdle (s : State) : Bool :=
  s.mseq.run.isNone && s.mseq.prep.isNone && s.mseq.restart.isNone && s.mseq.nq.isEmpty && s.mseq.uq.isEmpty &&
    s.mseq.accept.isEmpty && s.sump.flight.isEmpty && s.sump.tapFlight.isEmpty && s.sump.deliver.isEmpty &&
    s.arr.flight.isEmpty

/-- Does nothing that a DEVCLK edge of its own would end wait, so that edges may pass unseen? -/
def State.devQuiet (s : State) : Bool :=
  s.devRuns && s.edge.startPend.isNone && s.edge.load.isNone && s.twin.handF.isNone &&
    (List.range 4).all (fun k =>
      (s.jesd.rxSt[k]?.getD 0 == 0 || s.jesd.rxSt[k]?.getD 0 == 3) && s.jesd.txSt[k]?.getD 0 != 1)

/-- Count a watchdog's remaining time down by a free amount, short of its expiry. -/
def countDown (left r : Nat) : Nat := left - r % (max left 1)

/-- Does core c's watchdog count (09 R274)? -/
def State.wdogRuns (s : State) (c : CoreId) : Bool :=
  s.alive && bit (s.reg (Reg.seqcoreWdogCtl + coreBase c)) 0 && !(s.core c).halted && !(s.core c).stepping &&
    s.mode != .quiescent

/-- The one count of core cycles moves on before it is read, and the array's cycle with it: core cycles 2j and 2j + 1 lie in
array cycle j (01 R25). While something is on its way in the array, it stays within the array's present cycle. -/
def State.passCore (s : State) (r : Nat) : State :=
  let lb := max s.cyc (2 * s.acyc)
  if s.arrayIdle then { s with cyc := lb + r, acyc := (lb + r) / 2 }
  else { s with cyc := if lb % 2 = 1 then lb else lb + r % 2 }

/-- The free time that passes before the register at a is read, for a register that counts time. -/
def State.passTime (s : State) (a : Nat) : State :=
  let r := Config.freeNat s.free
  let t := s.useFree 1
  let core (c : CoreId) (f : Core → Core) : State := t.setCore c (f (t.core c))
  if a = Reg.wellheadSecLo ∨ a = Reg.wellheadSecHi then { t with wh := { t.wh with secs := t.wh.secs + r } }
  else if a = Reg.wellheadWdog then
    (if s.wh.wdEn && !s.wh.frozen then { t with wh := { t.wh with wdLeft := countDown t.wh.wdLeft r } } else s)
  else if [Reg.seqcoreCycLo, Reg.seqcoreCycHi, Reg.cmdcoreCycLo, Reg.cmdcoreCycHi, Reg.tickAcycLo, Reg.tickAcycHi].contains a then
    t.passCore r
  else if a = Reg.seqcoreWdogLeft then (if s.wdogRuns .seq then core .seq (fun k => { k with wdLeft := countDown k.wdLeft r }) else s)
  else if a = Reg.cmdcoreWdogLeft then (if s.wdogRuns .cmd then core .cmd (fun k => { k with wdLeft := countDown k.wdLeft r }) else s)
  else if a = Reg.tickDcycLo ∨ a = Reg.tickDcycHi ∨ a = Reg.tickPhase then
    (if s.devQuiet then
      { t with dcyc := if s.tick.coming then s.dcyc + r % max (s.tick.nextB - s.dcyc) 1 else s.dcyc + r }
    else s)
  else s

/-! ### Pairs of RO registers (15 R408) -/

/-- The low addresses of the register pairs whose access is RO. -/
def latchedPairs : List Nat := [
  Reg.sumpNaccLo, Reg.sumpUaccLo, Reg.sumpLastLo, Reg.mseqIstallLo, Reg.mseqSstallLo, Reg.mseqBubbleLo,
  Reg.tickCountLo, Reg.tickCurLo, Reg.tickFrameLo, Reg.tickDcycLo, Reg.tickAcycLo, Reg.cisternPortbEffLo,
  Reg.cisternBusyLo, Reg.bulkUncLo, Reg.edgeImageIdLo, Reg.seqcoreCycLo, Reg.cmdcoreCycLo, Reg.seqcoreRetLo,
  Reg.cmdcoreRetLo] ++ [
  Reg.ringErraddrLo, Reg.twinDigLo, Reg.twinDigtickLo, Reg.twinDivtickLo, Reg.twinCkptFrameLo, Reg.wellheadSecLo,
  Reg.errorFatalTickLo, Reg.dbgWpcLo, Reg.dbgWpcLo + 0x1000]

/-- The 64-bit value of the pair whose low word is at lo. -/
def State.pairVal (s : State) (lo : Nat) : Dbl :=
  if lo = Reg.sumpNaccLo then s.sump.naccShown
  else if lo = Reg.sumpUaccLo then s.sump.uaccShown
  else if lo = Reg.sumpLastLo then s.sump.last
  else if lo = Reg.mseqIstallLo then BitVec.ofNat 64 s.mseq.istall
  else if lo = Reg.mseqSstallLo then BitVec.ofNat 64 s.mseq.sstall
  else if lo = Reg.mseqBubbleLo then BitVec.ofNat 64 s.mseq.bubble
  else if lo = Reg.tickCountLo then s.tick.count
  else if lo = Reg.tickCurLo then s.tick.cur
  else if lo = Reg.tickFrameLo then s.tick.frame
  else if lo = Reg.tickDcycLo then BitVec.ofNat 64 s.dcyc
  else if lo = Reg.tickAcycLo then BitVec.ofNat 64 s.acyc
  else if lo = Reg.cisternPortbEffLo then s.cist.eff
  else if lo = Reg.cisternBusyLo then BitVec.ofNat 64 (packBits 64 (fun n => s.cist.chg.any (·.1 == n)))
  else if lo = Reg.edgeImageIdLo then s.edge.imageId
  else if lo = Reg.seqcoreCycLo ∨ lo = Reg.cmdcoreCycLo then BitVec.ofNat 64 s.cyc
  else if lo = Reg.seqcoreRetLo then BitVec.ofNat 64 s.seq.ret
  else if lo = Reg.cmdcoreRetLo then BitVec.ofNat 64 s.cmd.ret
  else if lo = Reg.wellheadSecLo then BitVec.ofNat 64 s.wh.secs
  else ofHalves (s.reg (lo + 4)) (s.reg lo)

/-! ### The blocks -/

/-- ARRAY and SUMP registers (02). -/
def State.readArray (s : State) (a : Nat) (quiet : Bool) : Word :=
  if a = Reg.arrayLiveFields then s.arr.live.setWidth 32
  else if a = Reg.arrayDeadFields then s.arr.dead.setWidth 32
  else if a = Reg.arrayRepairStat then
    (s.reg a &&& 8#32) ||| w32 (b2n s.arr.mapOk + 2 * b2n s.arr.mapCopy + 4 * b2n s.arr.logging.isSome +
      16 * s.arr.overlay.length + 2 ^ 13 * s.wh.flash.log.length)
  else if Reg.sumpTileor ≤ a ∧ a < Reg.sumpTileor + 128 then
    ((if quiet then s.sump.dbgSnap else s.sump.snap) >>> (8 * (a - Reg.sumpTileor))).setWidth 32
  else s.reg a

/-- The registers of tile t: those of a dry field read 0 (01 R31; 02). -/
def State.readTile (s : State) (a t : Nat) : Word :=
  if !s.tileLive t then 0
  else match a % 16 with
    | 0 => w32 (b2n (s.arr.excl.getLsbD t) + 2 * (match s.arr.inj.find? (·.1 == t) with
      | some x => x.2
      | none => 0))
    | 4 => w32 (b2n (s.sump.tiles.getLsbD t) + 2 * b2n (s.arr.inj.any (·.1 == t)) + 16 * fieldOfTile t)
    | 12 =>
      let rows (l : List Nat) : Nat := (l.filter (fun r => r / 512 == t)).length
      w32 (rows ((s.arr.force.filter (fun x => decide (x.2.toNat < 8))).map (·.1)) + 1024 * rows s.arr.changed)
    | _ => s.reg a

/-- The loop state that MSEQ_LOOP shows: that of the running stream; while none runs, of the one that ran last. -/
def Mseq.shownLoop (m : Mseq) : LoopSt :=
  m.loop (match m.run with
    | some r => r.entry.urgent
    | none => (m.lastP.map (·.2)).getD false)

/-- MSEQ registers (03); MSEQ_LOOP of a library routine is the firmware release's (log 14). -/
def State.readMseq (s : State) (a : Nat) : Word :=
  let m := s.mseq
  if a = Reg.mseqCtl then w32 (b2n m.dispEn)
  else if a = Reg.mseqStat then
    (s.reg a &&& 0x3FC000#32) ||| w32 (b2n m.run.isSome +
      (match m.run with
        | some r => 2 * b2n r.entry.urgent + 4 * b2n r.commitAt.isSome
        | none => 0) +
      8 * m.nq.length + 512 * m.uq.length + 2 ^ 13 * b2n ((m.held && m.run.isNone) || m.brk.isSome))
  else if a = Reg.mseqCur then w32 (m.curRtn + 1024 * m.curAddr)
  else if a = Reg.mseqLoop then
    match m.run.filter s.fromLib with
    | some r => w32 (Config.libLoop r.entry.rtn r.phase % 2 ^ 22)
    | none =>
    let l := m.shownLoop
    w32 (l.lcnt + 256 * l.lidx + 2 ^ 16 * l.stack.length + 2 ^ 19 * l.calls.length)
  else s.reg a

/-- TICK_PHASE (05 R160, R161, R168). -/
def State.phase (s : State) : Nat :=
  if s.tick.run then s.dcyc - s.tick.lastB else s.tick.heldPhase

/-- TICK registers (05). -/
def State.readTick (s : State) (a : Nat) : Word :=
  let t := s.tick
  if a = Reg.tickCtl then w32 (b2n t.en + 2 * t.policy.toNat + 8 * b2n t.warnEn)
  else if a = Reg.tickPeriod then w32 t.period
  else if a = Reg.tickFrameLen then w32 t.frameLen
  else if a = Reg.tickStat then
    (s.reg a &&& 0x3A0#32) ||| w32 (b2n t.run + 2 * b2n t.armed + 4 * b2n t.inTick + 8 * b2n t.isOver +
      16 * b2n (t.pendPeriod.isSome || t.pendFrame.isSome) + 64 * b2n s.wh.devLost)
  else if a = Reg.tickInframe then w32 t.inframe
  else if a = Reg.tickPhase then w32 (s.phase % 2 ^ 25)
  else s.reg a

/-- PUMP_STAT.STATE (06). -/
def PumpSt.code : PumpSt → Nat
  | .idle => 0 | .fetch => 1 | .shift => 2 | .wait => 3 | .error => 4

/-- PUMP registers (06). -/
def State.readPump (s : State) (a : Nat) : Word :=
  if a = Reg.pumpReady then w32 (packBits 16 (fun f => match s.pump[f]? with
    | some p => p.st == .wait
    | none => false))
  else if a < Reg.pumpReady then
    match s.pump[(a - Reg.pumpCtl) / 64]?, a % 64 with
    | some p, 0x10 => w32 p.head
    | some p, 0x14 =>
      (s.reg a &&& 0x1C000000#32) ||| w32 (p.st.code + 2 ^ 22 * p.last + (match p.desc with
        | some d => 8 * b2n (d.op == 2) + 16 * (p.j % 64) + 1024 * ((d.pbase + p.j) % 4096)
        | none => 0))
    | _, _ => s.reg a
  else s.reg a

/-- CISTERN and BULK registers (06). -/
def State.readCist (s : State) (a : Nat) : Word :=
  if a = Reg.cisternPortbOwnerLo then loHalf s.cist.owner
  else if a = Reg.cisternPortbOwnerHi then hiHalf s.cist.owner
  else if a = Reg.cisternSecStat then
    (s.reg a &&& 0x79#32) ||| w32 (2 * b2n s.cist.wiping + 4 * b2n s.cist.verifyFail)
  else if a = Reg.bulkStat then (s.reg a &&& 0x3C#32) ||| s.cist.rdy.setWidth 32
  else s.reg a

/-- EDGE registers (07). -/
def State.readEdge (s : State) (a : Nat) : Word :=
  if a = Reg.edgeStat then
    (s.reg a &&& 0x3F0000#32) ||| w32 (edgeCode s.edge.st + 4 * b2n s.edge.load.isSome +
      8 * b2n s.edge.startPend.isSome + 256 * s.edge.bayDead.toNat +
      (match s.edge.load with
        | some l => if l.reload then 16 + (if 2 ≤ l.phase then 32 * l.bay.val else 0) else 0
        | none => 0))
  else if Reg.edgeSerCtl ≤ a ∧ a < Reg.edgeSerCtl + 80 then
    match s.edge.ser[(a - Reg.edgeSerCtl) / 16]?, a % 16 with
    | some x, 4 => (x.rx.headD 0).setWidth 32
    | some x, 8 => (s.reg a &&& 0x1800#32) ||| w32 (x.tx.length + 32 * x.rx.length + 1024 * b2n (!x.tx.isEmpty))
    | _, _ => s.reg a
  else s.reg a

/-- JESD_TX_LAT[k]: within the bounds of 08 R232, fixed by the configuration and DEVCLK (log 11). -/
def State.txLatency (s : State) (k : Nat) : Nat :=
  let w := s.txCfg k
  let n := max (cfgFpc w * cfgF w) 1
  let span := (48 * s.wh.khz * n + 32 * 1000000 + (1000000 * n - 1)) / (1000000 * n)
  2 + Config.txLat w s.wh.khz % (1 + span)

/-- JESD registers (08). -/
def State.readJesd (s : State) (a : Nat) : Word :=
  if a = Reg.jesdCtl then s.jesdCtl
  else if a = Reg.jesdStat then s.jesdStatus
  else if Reg.jesdTxLat ≤ a ∧ a < Reg.jesdTxLat + 16 then
    let k := (a - Reg.jesdTxLat) / 4
    if s.jesd.txSt[k]?.getD 0 = 2 then w32 (s.txLatency k) else 0
  else s.reg a

/-- A limit register, at its offset in the VALVE block. -/
def Limits.read (m : Limits) (lock : Bool) (off : Nat) : Word :=
  if off = 0 then w32 (b2n m.set + 2 * b2n lock)
  else if off = 0x0C then m.slot.setWidth 32
  else if 0x40 ≤ off ∧ off < 0xC0 then
    match m.link[(off - 0x40) / 0x20]?, (off - 0x40) % 0x20 with
    | some l, 0x00 => l.burstMax.setWidth 32
    | some l, 0x04 => l.gapMin.setWidth 32
    | some l, 0x08 => l.duty.setWidth 32
    | some l, 0x0C => l.egCtl
    | some l, 0x10 => loHalf l.egThr
    | some l, 0x14 => hiHalf l.egThr
    | _, _ => 0
  else (sget (fun _ => 0) m.mag ((off - 0x200) / 4)).setWidth 32

/-- VALVE registers (08): a limit register reads as it was last written, pending or not (log 34). -/
def State.readValve (s : State) (a : Nat) : Word :=
  let v := s.valve
  if a = Reg.valveStat then
    (s.reg a &&& 0x800#32) ||| w32 (b2n v.open_ + 2 * s.valveCond.toNat + 512 * b2n (v.permitIn s.dcyc) +
      1024 * b2n v.pend.isSome + 4096 * v.block)
  else if a = Reg.valveShut then w32 (b2n v.shut)
  else if isLimit (a - Reg.valveCtl) then (v.pend.getD v.lim).read v.lock (a - Reg.valveCtl)
  else s.reg a

/-- SEQCORE and CMDCORE registers (09); off: the offset in the block. -/
def State.readCore (s : State) (c : CoreId) (a off : Nat) : Word :=
  let k := s.core c
  match off with
  | 0x00 => (s.reg a &&& 0x10#32) ||| w32 (b2n k.run + 2 * b2n k.halted + 4 * b2n k.wfi + 8 * b2n k.sup)
  | 0x04 => k.irqPend
  | 0x10 => (s.reg a &&& 1#32) ||| w32 (2 * b2n k.wdFired)
  | 0x1C => w32 k.wdLeft
  | _ => s.reg a

/-- RING registers (11). -/
def State.readRing (s : State) (a : Nat) : Word :=
  if a = Reg.ringStat then s.reg a ||| w32 (b2n s.ring.epoch + 2 * b2n s.oldLive)
  else if a = Reg.ringIso then s.ring.iso
  else if a = Reg.ringDrain then s.ring.drain
  else if a = Reg.ringDry then s.ring.dry
  else if Reg.ringRtShadow ≤ a ∧ a < Reg.ringRtShadow + 128 then
    (((s.route false)[(a - Reg.ringRtShadow) / 4]?.getD 0)).setWidth 32
  else if Reg.ringRtActive ≤ a ∧ a < Reg.ringRtActive + 128 then
    (((s.route true)[(a - Reg.ringRtActive) / 4]?.getD 0)).setWidth 32
  else s.reg a

/-- The ring whose register block holds address a, with the offset in it. -/
def hringAt (a : Nat) : Option (Fin 6 × Nat) :=
  let i : Fin 6 :=
    if a < 0x200F0120 then 0 else if a < 0x200F0140 then 1 else if a < 0x200F0160 then 2 else if a < 0x200F0180 then 3
    else if a < 0x200F0220 then 4 else 5
  let off := a - ringBase i
  if ringBase i ≤ a ∧ off < 0x18 then some (i, off) else none

/-- HOSTIF registers (12). -/
def State.readHost (s : State) (a : Nat) : Word :=
  let h := s.host
  if a = Reg.hostifStat then
    w32 (s.mode.code + 16 * b2n h.rom + 32 * b2n h.fw + 64 * h.lgen.toNat + 512 * h.lwidth.toNat)
  else match hringAt a with
    | some (i, off) =>
      let r := s.hring i
      match off with
      | 0x00 => loHalf r.base
      | 0x04 => hiHalf r.base
      | 0x08 => w32 (r.size.toNat + 16 * b2n r.en)
      | 0x0C => w32 r.tail
      | 0x10 => w32 r.head
      | 0x14 => w32 (b2n r.stopped + 2 * r.why.toNat)
      | _ => s.reg a
    | none => s.reg a

/-- TWIN registers (13). -/
def State.readTwin (s : State) (a : Nat) : Word :=
  if a = Reg.twinStat then
    (s.reg a &&& 0x1C00#32) ||| w32 (s.twin.state.toNat + 8 * s.twin.role.toNat + 32 * b2n s.twin.link +
      64 * b2n s.twin.hb + 128 * b2n s.txOwn + 256 * b2n s.twin.peerOwn + 512 * b2n s.twin.sel)
  else s.reg a

/-- POWER and CLOCK registers (14). -/
def State.readPower (s : State) (a : Nat) : Word :=
  let p := s.pwr
  if a = Reg.powerFldReq then p.req
  else if a = Reg.powerFldStat then
    w32 ((List.range 16).foldl (fun v f => v + (p.fld[f]?.getD .off).code * 2 ^ (2 * f)) 0)
  else if a = Reg.powerDom then w32 (b2n p.bcastReq + 2 * b2n p.edgeReq + 256 * b2n p.bcast + 512 * b2n p.edgeOn)
  else if a = Reg.powerStat then (s.reg a &&& 0x70000#32) ||| w32 (packBits 16 (fun f => p.chg.any (·.1 == f)))
  else if a = Reg.clockStat then
    (s.reg a &&& 0x26#32) ||| w32 (b2n s.wh.pllLock + 8 * b2n s.wh.conv + 16 * b2n s.wh.devOk)
  else if a = Reg.clockDevclkKhz then w32 s.wh.khz
  else s.reg a

/-- The highest temperature and the first sensor that shows it. -/
def maxTemp (l : List Byte) : Nat × Nat :=
  (List.range l.length).foldl (fun (m : Nat × Nat) i =>
    if m.1 < (l.getD i 0).toNat then ((l.getD i 0).toNat, i) else m) (0, 0)

/-- WELLHEAD registers (14). -/
def State.readWellhead (s : State) (a : Nat) : Word :=
  let w := s.wh
  if a = Reg.wellheadRstCause then w32 (w.cause + 16 * w.left)
  else if a = Reg.wellheadLc then w32 (w.flash.lc.toNat + 4 * w.flash.lcLog.toNat)
  else if a = Reg.wellheadStat then
    (s.reg a &&& 0x3FF12#32) ||| w32 (b2n w.tamper + 4 * b2n w.alert +
      8 * b2n (s.arr.logging.isSome || s.host.lcPend.isSome))
  else if a = Reg.wellheadTemp then w32 ((maxTemp w.temps).1 + 256 * (maxTemp w.temps).2)
  else if a = Reg.wellheadWdog then
    w32 (b2n w.wdEn + 2 * b2n w.frozen + 256 * w.wdPeriod + 2 ^ 16 * w.wdLeft)
  else if Reg.wellheadTsense ≤ a ∧ a < Reg.wellheadTsense + 256 then
    ((w.temps.getD ((a - Reg.wellheadTsense) / 4) 0)).setWidth 32
  else s.reg a

/-- ERROR registers (15): the phase of a full self-test in progress is free. -/
def State.readError (s : State) (a : Nat) : Word :=
  if a = Reg.errorStStat ∧ bit (s.reg a) 0 = true then
    setBits (s.reg a) 7 2 (1 + Config.freeNat s.free % 6)
  else s.reg a

/-- The oldest byte of a terminal FIFO, with VALID. -/
def vtWord (l : List Byte) : Word :=
  match l with
  | [] => 0
  | b :: _ => b.setWidth 32 ||| 0x100#32

/-- DBG registers (16). The registers of an access that sets REG_ERR read a free value. -/
def State.readDbg (s : State) (a : Nat) : Word :=
  if a = Reg.dbgLock then
    w32 (s.dbg.unlocked.toNat + 4 * s.dbg.fails + 16 * s.dbg.slot.toNat + 64 * b2n s.tapOpen)
  else if a = Reg.dbgMstat then
    match s.mseq.brk with
    | some (cause, n) => w32 (1 + 2 * cause + 8 * n)
    | none => 0
  else if a < Reg.dbgCtl ∨ 0x20123000 ≤ a then s.reg a
  else
    let c : CoreId := if a < Reg.dbgCtl + 0x1000 then .seq else .cmd
    let k := s.core c
    let half (hi : Bool) : Word :=
      match (if k.halted then s.selRead c (s.regSel c) else none) with
      | some v => if hi then hiHalf v else loHalf v
      | none => w32 (Config.freeNat s.free)
    match a % 0x1000 with
    | 0x004 => s.reg a ||| w32 (b2n k.halted + 64 * k.hit.toNat)
    | 0x014 => half false
    | 0x018 => half true
    | 0x030 => vtWord k.txd
    | 0x034 => vtWord k.rxd
    | 0x038 => (s.reg a &&& 0x4000#32) ||| w32 (k.txd.length + 128 * k.rxd.length)
    | _ => s.reg a

/-- What the register at address a holds; 0 where no register is (01 R33). -/
def State.regWord (s : State) (a : Nat) (quiet : Bool) : Word :=
  match regionOf a with
  | some (.tile t) => s.readTile a t
  | some (.block n) =>
    if latchedPairs.contains a then loHalf (s.pairVal a)
    else if latchedPairs.contains (a - 4) then hiHalf (s.pairVal (a - 4))
    else match n with
      | 0 => s.readWellhead a
      | 1 => s.readPower a
      | 2 => s.readPower a
      | 3 => s.readTick a
      | 4 => s.readArray a quiet
      | 5 => s.readMseq a
      | 6 => s.readArray a quiet
      | 7 => s.readPump a
      | 8 => s.readCist a
      | 9 => s.readCist a
      | 10 => s.readRing a
      | 11 => s.readEdge a
      | 12 => s.readJesd a
      | 13 => s.readValve a
      | 14 => s.readTwin a
      | 15 => s.readHost a
      | 16 => s.readCore .seq a (a % 0x10000)
      | 17 => s.readCore .cmd a (a % 0x10000)
      | 18 => s.readDbg a
      | _ => s.readError a
  | _ => 0

/-! ### Reads with their side effects -/

/-- Does a read of this register have a side effect: an RC field, a low word of a latched pair, a snapshot, a FIFO
(16 R430)? -/
def readsActively (a : Nat) : Bool :=
  latchedPairs.contains a || a == Reg.sumpTileor ||
    (Reg.edgeSerCtl ≤ a && a < Reg.edgeSerCtl + 80 && a % 16 == 4) ||
    [Reg.dbgTxd, Reg.dbgRxd, Reg.dbgTxd + 0x1000, Reg.dbgRxd + 0x1000].contains a ||
    (match regRow a with
      | some r => r.rc != 0
      | none => false)

/-- The side effects of an effectful read: RC fields clear (a saturation bit stays), the oldest byte of a FIFO goes
(00 R8; 07 R222; 15 R407; 16 R428, R435). -/
def State.readEffect (s : State) (a : Nat) : State :=
  if Reg.edgeSerCtl ≤ a ∧ a < Reg.edgeSerCtl + 80 then
    if a % 16 = 4 then s.serPop ⟨(a - Reg.edgeSerCtl) / 16 % 5, Nat.mod_lt _ (by decide)⟩ false else s
  else if Reg.dbgCtl ≤ a ∧ a < 0x20123000 then
    let c : CoreId := if a < Reg.dbgCtl + 0x1000 then .seq else .cmd
    match a % 0x1000 with
    | 0x014 => s.dbgRegRead c
    | 0x018 => s.dbgRegRead c
    | 0x030 => s.vtRead c false false
    | 0x034 => s.vtRead c true false
    | _ => s
  else match regRow a with
    | some r =>
      if r.rc = 0 then s
      else match regionOf a with
        | some (.tile t) => if s.tileLive t then s.setReg a (s.reg a &&& ~~~(w32 r.rc)) else s
        | _ => s.setReg a (s.reg a &&& ~~~(w32 r.rc))
    | none => s

/-- Hold the high half hi for a station, or in the debugger's latch (15 R408; 16 R430). -/
def State.holdHigh (s : State) (src a : Nat) (quiet : Bool) (hi : Word) : State :=
  { s with ring :=
      if quiet then { s.ring with dbgLatches := s.ring.dbgLatches.filter (·.1 != a) ++ [(a, hi)] }
      else { s.ring with latches := s.ring.latches.filter (·.1 != (src, a)) ++ [((src, a), hi)] } }

/-- The high half held for a station by its last read of the low word at a, if any. -/
def State.heldHigh (s : State) (src a : Nat) (quiet : Bool) : Option Word :=
  if quiet then (s.ring.dbgLatches.find? (·.1 == a)).map (·.2)
  else (s.ring.latches.find? (·.1 == (src, a))).map (·.2)

/-- How many free values a read of this register uses. -/
def State.readFree (s : State) (a : Nat) : Nat :=
  b2n (a == Reg.errorStStat && bit (s.reg a) 0) +
    b2n ((Reg.dbgCtl ≤ a && a < 0x20123000) && (a % 0x1000 == 0x14 || a % 0x1000 == 0x18) &&
      (let c : CoreId := if a < Reg.dbgCtl + 0x1000 then .seq else .cmd
       !((s.core c).halted && (s.selRead c (s.regSel c)).isSome)))

/-- A read of the register at a by station src: the value and the state after it. -/
def State.readReg (s : State) (src a : Nat) (quiet : Bool) : State × Word :=
  let s := s.passTime a
  let s := if a = Reg.sumpTileor then s.tileSnap quiet else s
  let v := s.regWord a quiet
  let u := s.useFree (s.readFree a)
  if latchedPairs.contains a then
    (u.holdHigh src a quiet (hiHalf (s.pairVal a)), v)
  else if latchedPairs.contains (a - 4) then
    (u, (s.heldHigh src (a - 4) quiet).getD v)
  else (if quiet then u else u.readEffect a, v)

end Sys2Proof.Machine
end

