-- ==== Sys2Proof/Machine/RegWrite.lean ====
section
/-! DEFINITION. What an admitted write does to a register: bits are stored, cleared or ignored by their access types
(00 R8, R9), and the registers that act do so. -/
namespace Sys2Proof.Machine

/-! ### Core registers (09 R274 to R276) -/

/-- A write of WDOG_CTL: EN, once 1, is fixed; the write that sets it loads WDOG_PERIOD (09 R274). -/
def State.wdogCtlWrite (s : State) (c : CoreId) (v : Word) : State :=
  let a := Reg.seqcoreWdogCtl + coreBase c
  if bit v 0 && !bit (s.reg a) 0 then (s.setBit a 0).reloadWdog c else s

/-- A write of WDOG_KICK: 0x6B1C reloads the watchdog and clears FIRED (09 R274). -/
def State.wdogKickWrite (s : State) (c : CoreId) (v : Word) : State :=
  if bits v.toNat 15 0 = 0x6B1C then
    let s := s.reloadWdog c
    s.setCore c { s.core c with wdFired := false }
  else s

/-- A write of WDOG_PERIOD: 1 to 60,000, else ignored. -/
def State.wdogPeriodWrite (s : State) (c : CoreId) (v : Word) : State :=
  let n := bits v.toNat 15 0
  if 1 ≤ n ∧ n ≤ 60000 then s.setReg (Reg.seqcoreWdogPeriod + coreBase c) (w32 n) else s

/-- A write of IRQ_SET: the software lines 28 to 31 (09 R275, R276). -/
def State.irqSetWrite (s : State) (c : CoreId) (v : Word) : State :=
  s.setCore c { s.core c with irqPend := (s.core c).irqPend ||| (v &&& 0xF0000000#32) }

/-- A write of IRQ_PEND: 1 clears a line. -/
def State.irqPendWrite (s : State) (c : CoreId) (v : Word) : State :=
  s.setCore c { s.core c with irqPend := (s.core c).irqPend &&& ~~~v }

/-! ### Stored bits (00 R8, R9) -/

/-- A write by the access types of a row: RW bits are stored, W1C bits cleared by 1, the others ignored. -/
def State.plainWrite (s : State) (a : Nat) (v : Word) : State :=
  match regRow a with
  | none => s
  | some r =>
    let old := s.reg a
    let rw := w32 r.rw
    let w1c := w32 r.w1c
    s.setReg a ((old &&& ~~~rw &&& ~~~(v &&& w1c)) ||| (v &&& rw))

/-! ### Blocks -/

/-- A write of a TILE register: those of a dry field ignore it (01 R31). -/
def State.writeTile (s : State) (a t : Nat) (v : Word) : State :=
  if !s.tileLive t then s
  else if a % 16 = 0 then s.tileCtlWrite t v
  else s.plainWrite a v

/-- A write of a PUMP register (06). -/
def State.writePump (s : State) (a : Nat) (v : Word) : State :=
  if a < Reg.pumpReady then
    let f : Fin 16 := ⟨(a - Reg.pumpCtl) / 64 % 16, Nat.mod_lt _ (by decide)⟩
    if a % 64 = 0 then s.pumpCtlWrite f v else s.plainWrite a v
  else s.plainWrite a v

/-- A write of a SUMP register: clearing TAP_EN discards what the tap has collected and not presented (02 R84). -/
def State.writeSump (s : State) (a : Nat) (v : Word) : State :=
  let s := s.plainWrite a v
  if a = Reg.sumpCtl ∧ bit v 0 = false then { s with sump := { s.sump with collected := [], tap := Tap.off } } else s

/-- A write of a CISTERN register (06). -/
def State.writeCist (s : State) (a : Nat) (v : Word) : State :=
  if a = Reg.cisternPortbOwnerLo then s.ownerWrite false v
  else if a = Reg.cisternPortbOwnerHi then s.ownerWrite true v
  else if Reg.cisternPwr ≤ a ∧ a < Reg.cisternPwr + 16 then
    s.cisternPwrWrite ⟨(a - Reg.cisternPwr) / 4 % 4, Nat.mod_lt _ (by decide)⟩ v
  else if a = Reg.cisternSecCtl then (if bit v 0 then s.startWipe 6 else s)
  else s.plainWrite a v

/-- A write of an EDGE register (07). -/
def State.writeEdge (s : State) (a : Nat) (v : Word) : State :=
  if a = Reg.edgeCfgCmd then s.edgeCmd v
  else if Reg.edgeSerCtl ≤ a ∧ a < Reg.edgeSerCtl + 80 then
    let i : Fin 5 := ⟨(a - Reg.edgeSerCtl) / 16 % 5, Nat.mod_lt _ (by decide)⟩
    if a % 16 = 0 then s.serCtlWrite i v
    else if a % 16 = 4 then s.serWrite i v
    else s.plainWrite a v
  else s.plainWrite a v

/-- A write of a JESD register (08). -/
def State.writeJesd (s : State) (a : Nat) (v : Word) : State :=
  if a = Reg.jesdCtl then s.jesdCtlWrite v
  else if Reg.jesdRxcfg ≤ a ∧ a < Reg.jesdSysrefDly then s.jesdCfgWrite a v
  else s.plainWrite a v

/-- A write of VALVE_SHUT; set, it is a closing condition (08 R234, R235, R243). -/
def State.shutWrite (s : State) (v : Word) : State :=
  ({ s with valve := { s.valve with shut := bit v 0 } }).checkClose

/-- A write of a VALVE register (08). -/
def State.writeValve (s : State) (a : Nat) (v : Word) : State :=
  if a = Reg.valveShut then s.shutWrite v
  else if isLimit (a - Reg.valveCtl) then s.limitWrite (a - Reg.valveCtl) v
  else s.plainWrite a v

/-- A write of a SEQCORE or CMDCORE register (09); off: the offset in the block. -/
def State.writeCore (s : State) (c : CoreId) (a off : Nat) (v : Word) : State :=
  match off with
  | 0x04 => s.irqPendWrite c v
  | 0x0C => s.irqSetWrite c v
  | 0x10 => s.wdogCtlWrite c v
  | 0x14 => s.wdogPeriodWrite c v
  | 0x18 => s.wdogKickWrite c v
  | 0x40 => if c = .seq ∧ bit v 0 = true then s.seqRelease else s
  | _ => s.plainWrite a v

/-- A write of a RING register (11). -/
def State.writeRing (s : State) (a : Nat) (v : Word) : State :=
  if a = Reg.ringEpoch then (if bit v 0 then s.flip else s)
  else if Reg.ringRtShadow ≤ a ∧ a < Reg.ringRtShadow + 128 then
    s.routeWrite ⟨(a - Reg.ringRtShadow) / 4 % 32, Nat.mod_lt _ (by decide)⟩ v
  else s.plainWrite a v

/-- A write of a register of host ring i at this offset; bits [5:0] of a base, which must be 0, are dropped (DESIGN CHOICE, log
17; 12 R331, R347). -/
def State.hringWrite (s : State) (i : Fin 6) (off : Nat) (v : Word) : State :=
  let r := s.hring i
  match off with
  | 0x00 => s.setHring i { r with base := ofHalves (hiHalf r.base) (v &&& 0xFFFFFFC0#32) }
  | 0x04 => s.setHring i { r with base := ofHalves v (loHalf r.base) }
  | 0x08 => s.ringSize i v
  | 0x0C => if h : i.val < 4 then s.tailWrite ⟨i.val, h⟩ (bits v.toNat 12 0) else s
  | 0x10 => if i.val < 4 then s else s.setHring i { r with head := bits v.toNat 12 0 }
  | _ => s

/-- A write of a HOSTIF register (12). -/
def State.writeHost (s : State) (a : Nat) (v : Word) : State :=
  if a = Reg.hostifMsixSend then s.msixWrite (bits v.toNat 5 0)
  else if a = Reg.hostifBReset then s.hostReset v
  else if a = Reg.hostifBLcReq then s.lcReq v
  else match hringAt a with
    | some (i, off) => s.hringWrite i off v
    | none => s.plainWrite a v

/-- A write of a TWIN register (13 R377). -/
def State.writeTwin (s : State) (a : Nat) (v : Word) : State :=
  if a = Reg.twinCkptCtl then (if bit v 0 then s.ckptGo else s)
  else if [Reg.twinCtl, Reg.twinLead, Reg.twinCkptBaseLo, Reg.twinCkptBaseHi, Reg.twinCkptN].contains a then
    (if s.mode = .ready then s.plainWrite a v else s)
  else s.plainWrite a v

/-- A write of a DBG register other than the start of a memory access (16). -/
def State.writeDbg (s : State) (a : Nat) (v : Word) : State :=
  if a = Reg.dbgGlb then
    let s := s.freezeWrite (bit v 0)
    if bit v 1 then s.mstepWrite else s
  else if a < Reg.dbgCtl ∨ 0x20123000 ≤ a then s.plainWrite a v
  else
    let c : CoreId := if a < Reg.dbgCtl + 0x1000 then .seq else .cmd
    match a % 0x1000 with
    | 0x000 => s.dbgCtlWrite c v
    | 0x014 => s.dbgRegWrite c false v
    | 0x018 => s.dbgRegWrite c true v
    | 0x030 => s.vtWrite c false (v.setWidth 8)
    | 0x034 => s.vtWrite c true (v.setWidth 8)
    | _ => s.plainWrite a v

/-- An admitted write of the register at a; nothing where no register is (01 R33). -/
def State.writeReg (s : State) (a : Nat) (v : Word) : State :=
  match regionOf a with
  | some (.tile t) => s.writeTile a t v
  | some (.block n) => match n with
    | 0 => if a = Reg.wellheadWdog then s.whWdogWrite v
      else if a = Reg.wellheadWdogKick then s.whKick v
      else s.plainWrite a v
    | 1 => if a = Reg.powerFldReq then s.fldReqWrite v
      else if a = Reg.powerDom then s.powerDomWrite v
      else s.plainWrite a v
    | 3 => if a = Reg.tickCtl then s.tickCtlWrite v
      else if a = Reg.tickPeriod then s.tickPeriodWrite v
      else if a = Reg.tickFrameLen then s.tickFrameWrite v
      else s.plainWrite a v
    | 4 => if a = Reg.arrayOvlCmd then s.ovlCmd v.toNat else s.plainWrite a v
    | 5 => if a = Reg.mseqCtl then s.setDispEn (bit v 0) else s.plainWrite a v
    | 6 => s.writeSump a v
    | 7 => s.writePump a v
    | 8 => s.writeCist a v
    | 10 => s.writeRing a v
    | 11 => s.writeEdge a v
    | 12 => s.writeJesd a v
    | 13 => s.writeValve a v
    | 14 => s.writeTwin a v
    | 15 => s.writeHost a v
    | 16 => s.writeCore .seq a (a % 0x10000) v
    | 17 => s.writeCore .cmd a (a % 0x10000) v
    | 18 => s.writeDbg a v
    | _ => s.plainWrite a v
  | _ => s

end Sys2Proof.Machine
end

