-- ==== Sys2Proof/Machine/Bus.lean ====
section
/-! DEFINITION. Accesses on the ring: a request performed at its target, responses and their reports, register reads and
writes as commands, host windows, the debugger's memory accesses (01 R32, R33; 11 R306, R307, R315, R323; 12 R326 to
R330; 16 R429, R430). -/
namespace Sys2Proof.Machine

/-! ### At the target -/

/-- n bytes of the boot ROM, little-endian (log 12). -/
def romNat (a : Nat) : Nat → Nat
  | 0 => 0
  | n + 1 => (Config.romByte a).toNat + 256 * romNat (a + 1) n

/-- An admitted read: the state after it, the code 0 or 6, the value. -/
def State.busRead (s : State) (q : Requester) (a len : Nat) (ecc : Ecc) : State × Nat × Nat :=
  match regionOf a with
  | some .rom => (s, 0, romNat a len)
  | some .store =>
    let off := a - 0x30000000
    (s, 0, bits (sget (fun _ => (0 : Micro)) s.mseq.cs (off / 16)).toNat (8 * (off % 16) + 8 * len - 1) (8 * (off % 16)))
  | some (.block _) =>
    let r := s.readReg q.src a q.quiet
    (r.1, 0, r.2.toNat)
  | some (.tile _) =>
    let r := s.readReg q.src a q.quiet
    (r.1, 0, r.2.toNat)
  | _ => (s.memEcc a ecc, if ecc = .lost then 6 else 0, if ecc = .lost then 0 else s.memNat a len)

/-- An admitted write by a writer of registers w. -/
def State.busWrite (s : State) (w : State → Nat → Word → State) (q : Requester) (a len v : Nat) : State :=
  match regionOf a with
  | some .rom => s
  | some .store => s.storeWrite (a - 0x30000000) len v
  | some (.block _) => w s a (w32 v)
  | some (.tile _) => w s a (w32 v)
  | _ => s.memStore q.src a len v

/-- Judge and perform one request: the state, the response code, the value read. No report is made here. -/
def State.accessWith (w : State → Nat → Word → State) (s : State) (q : Requester) (write : Bool) (a len v : Nat) (ecc : Ecc) :
    State × Nat × Nat :=
  let code := accessCode s q write a len
  if code ≠ 0 then (s, code, 0)
  else if write then (s.busWrite w q a len v, 0, 0)
  else s.busRead q a len ecc

/-! ### The debugger's memory accesses (16 R429, R430) -/

/-- GO: a halted core makes the access; RESP takes the response code, MDATA the value read. -/
def State.memGo (s : State) (c : CoreId) : State :=
  let m := dbgOf c Reg.dbgMctl
  let k := s.core c
  if !k.halted then s.setBit m 11
  else
    let ctl := s.reg m
    let len := 2 ^ bits ctl.toNat 1 0
    let a := s.addr48 (dbgOf c Reg.dbgMaddrLo) / len * len
    let wr := bit ctl 2
    let quiet := !wr && !bit ctl 3
    let q : Requester := ⟨coreStation c, true, false, true, quiet⟩
    let v := (ofHalves (s.reg (dbgOf c Reg.dbgMdataHi)) (s.reg (dbgOf c Reg.dbgMdataLo))).toNat
    let r := s.accessWith State.writeReg q wr a len v .clean
    let s := logUntagged r.1 q a r.2.1
    let s := s.setFld m 9 6 r.2.1
    let s := if quiet && r.2.1 == 0 && readsActively a then s.setBit m 10 else s
    if wr || r.2.1 != 0 then s
    else (s.setReg (dbgOf c Reg.dbgMdataLo) (w32 r.2.2)).setReg (dbgOf c Reg.dbgMdataHi) (w32 (r.2.2 / 2 ^ 32))

/-- DBG_MEMORY_GO: DBG_MCTL[c].GO is written 1 (16 R429). -/
def execDbgMemoryGo (c : CoreId) (s : State) : Out := when s.alive s (fun s => s.memGo c)

/-- An admitted register write, with DBG_MCTL.GO. -/
def State.writeAny (s : State) (a : Nat) (v : Word) : State :=
  let t := s.writeReg a v
  if bit v 4 then
    if a = Reg.dbgMctl then t.memGo .seq else if a = Reg.dbgMctl + 0x1000 then t.memGo .cmd else t
  else t

/-- Judge and perform one request. -/
def State.access (s : State) (q : Requester) (write : Bool) (a len v : Nat) (ecc : Ecc) : State × Nat × Nat :=
  s.accessWith State.writeAny q write a len v ecc

/-! ### Register accesses as commands (00 R8; 15 R408) -/

/-- A request from the host interface wakes a device in Quiescent (14 R381). -/
def State.fromHost (s : State) (q : Requester) : State := if q.src = 15 then s.hostWake else s

/-- A register read by q: its value, or the refusal's report. -/
def State.readCmd (s : State) (q : Requester) (a : Nat) : State :=
  let s := s.fromHost q
  let code := accessCode s q false a 4
  if code ≠ 0 then refuse s q false a code
  else
    let r := s.readReg q.src a q.quiet
    { r.1 with ring := { r.1.ring with readVal := some r.2 } }

/-- LATCHED_HIGH_READ: a read of a word of a latched pair (15 R408). -/
def execLatchedHighRead (q : Requester) (a : BitVec 48) (s : State) : Out :=
  when (s.alive && (latchedPairs.contains a.toNat || latchedPairs.contains (a.toNat - 4))) s (fun s => s.readCmd q a.toNat)

/-- A hardware event of the access's own cycle takes precedence: in an RC field that the read cleared its effect ev stays
(00 R10). -/
def State.keepRc (s : State) (q : Requester) (a : Nat) (ev : Word) : State :=
  match regRow a with
  | some r => if q.quiet || accessCode s q false a 4 != 0 then s else s.setReg a (s.reg a ||| (ev &&& w32 r.rc))
  | none => s

/-- READ_CLEAR: a read of a register with an RC field; ev: what an event of the same cycle puts into it (00 R8, R10). -/
def execReadClear (q : Requester) (a : BitVec 48) (ev : Word) (s : State) : Out :=
  when (s.alive && (match regRow a.toNat with
    | some r => r.rc != 0
    | none => false)) s (fun s => (s.readCmd q a.toNat).keepRc q a.toNat ev)

/-- The lines that IRQ_PEND holds of core c: those among ev stay set. -/
def State.keepIrq (s : State) (c : CoreId) (v : Word) : State := s.setCore c { s.core c with irqPend := (s.core c).irqPend ||| v }

/-- The W1C bits among ev that stood at 1 before the write stay set: an event of its own cycle has set them (00 R10). -/
def State.keepW1c (s : State) (old : State) (a : Nat) (ev : Word) : State :=
  match regRow a with
  | none => s
  | some r =>
    let on := ev &&& w32 r.w1c &&& old.regWord a true
    if a = Reg.seqcoreIrqPend then s.keepIrq .seq on
    else if a = Reg.seqcoreIrqPend + 0x10000 then s.keepIrq .cmd on
    else if on = 0 then s else s.setReg a (s.reg a ||| on)

/-- REGISTER_WRITE; ev: the bits that a hardware event of the same cycle sets (00 R8, R9, R10; 01 R32, R33). -/
def execRegisterWrite (q : Requester) (a : BitVec 48) (v : Word) (ev : Word) (s : State) : Out :=
  done s (regWrite q a.toNat (s.fromHost q) (fun s => (s.writeAny a.toNat v).keepW1c s a.toNat ev))

/-- LIMIT_WRITE: a host write of a limit register through window B (08 R242). -/
def execLimitWrite (off : BitVec 10) (v : Word) (s : State) : Out :=
  done s (regWrite hostB (0x200D0000 + off.toNat) s.hostWake (fun s => s.limitWrite off.toNat v))

/-- VALVE_LOCK: VALVE_CTL.LOCK written 1 with LIMITS_SET as it stands (08 R242). -/
def execValveLock (s : State) : Out :=
  done s (regWrite hostB Reg.valveCtl s.hostWake (fun s => { s with valve := { s.valve with lock := true } }))

/-- VALVE_SHUT: a write of VALVE_SHUT (08 R243). -/
def execValveShut (q : Requester) (v : Word) (s : State) : Out :=
  done s (regWrite q Reg.valveShut (s.fromHost q) (fun s => s.shutWrite v))

/-! ### Requests and responses on the ring (11 R306, R307, R323) -/

/-- A flit with bad parity: a fatal error; the flit is lost (11 R323). -/
def State.ringParity (s : State) : State := (s.setBit Reg.ringStat 3).fatal 12

/-- Does a request enter a ring: the source router has not refused it, and another station serves it (11 R304, R315)? -/
def enters (code src dst : Nat) : Bool := !(decide (1 ≤ code) && decide (code ≤ 3)) && src != dst

/-- REQUEST: judged, performed at its target, answered; reserved operations do nothing, and what an isolated station sends
is discarded. The response and its data take the urgency that the request had on arrival (11 R306, R309, R314, R315, R318). -/
def execRequest (r : ReqFlit) (s : State) : Out :=
  when (s.alive && !s.ring.iso.getLsbD r.who.src) s (fun s =>
    if r.parity then s.ringParity
    else if r.op.toNat = 0 ∨ 3 < r.op.toNat then s
    else
      let a := r.addr.toNat
      let write := r.op != 1
      let lane := 8 * (a % 64)
      let src := r.who.src
      let dst := errDst r.who a
      let s := s.fromHost r.who
      let go := enters (accessCode s r.who write a r.len) src dst
      let p := s.inject go src dst
      let a1 := p.1.raised (s.injUrg src) (if go then r.aged else 0)
      let a2 := a1.1.raised (s.injUrg src) (if go && write then r.dataAged else 0)
      let x := a2.1.access r.who write a r.len (bits r.data.toNat (lane + 8 * r.len - 1) lane) r.ecc
      let back := x.1.inject go dst src
      let t := back.1
      ({ t with ring := { t.ring with way := p.2 } }).respond {
        src := dst
        dst := src
        tag := r.tag
        code := BitVec.ofNat 4 x.2.1
        data := BitVec.ofNat 512 (x.2.2 * 2 ^ lane)
        isRead := !write
        posted := r.op == 3
        addr := r.addr
        urg := a1.2
        durg := a1.2
        epoch := t.ring.epoch
        route := back.2 })

/-- Is the address one that the host reaches through window B (12 R328)? -/
def hostWinB (a : Nat) : Bool := hostAdmits ⟨15, false, true, false, false⟩ a

/-- A failed read of the host completes with Completer Abort, which AER records (12 R329). -/
def State.hostAbort (s : State) : State :=
  { s with host := { s.host with cpl := some (true, []), aer := s.host.aer ++ [AerErr.completerAbort] } }

/-- A core's report: a posted write is cause 17, every other access cause 7, precise, where the core runs (09 R260, R263; 11
R323). -/
def State.coreReport (s : State) (c : CoreId) (r : Resp) : State :=
  let k := s.core c
  if r.posted then (if k.nmi17.isNone then s.setCore c { k with nmi17 := some (r.addr, r.code) } else s)
  else if s.coreDown c || !k.run || k.halted then s
  else s.exc c 7 r.addr.toNat (some (256 * r.code.toNat))

/-- The report that a requester makes of a response other than OK (11 R323). -/
def State.report (s : State) (r : Resp) : State :=
  let q : Requester := ⟨r.dst, false, r.dst == 15 && hostWinB r.addr.toNat, false, false⟩
  let code := r.code.toNat
  let s := logResponse s q r.addr.toNat r.tag.toNat code
  match r.dst with
  | 0 => s.coreReport .seq r
  | 8 => s.coreReport .cmd r
  | 15 =>
    let s := logHost s q.winb (!r.isRead) (hostOffset q r.addr.toNat) code
    if r.isRead then s.hostAbort else s
  | 16 => s.leaveLockstep 7
  | 31 => match s.edge.load with
    | some l => s.edgeFail l 7
    | none => s
  | _ => s

/-- The rank of the router input by which a response comes to its station: clockwise, anticlockwise, bridge, station (11
R313). -/
def Resp.port (r : Resp) : Nat :=
  match r.route.legs.getLast? with
  | none => 3
  | some l => if l.length = 0 then 2 else if l.anti then 1 else 0

/-- Does a bulk controller hold a response back for the acknowledgement of a snoop of its granule (11 R308; 06 R184)? -/
def State.snoopWaits (s : State) (r : Resp) : Bool :=
  s.ring.snoops.any (fun x => x.src == r.src && x.granule == r.addr.toNat / 64)

/-- The responses that wait at one station's output, among those listed with the ring cycles they have waited: by number. -/
def State.respWaiting (s : State) (waiting : List (Nat × Nat)) : List (Nat × Nat × Resp) :=
  let l := waiting.filterMap (fun p => (s.ring.resp[p.1]?).map (fun r => (p.1, p.2, r)))
  let l := l.filter (fun p => !s.snoopWaits p.2.2)
  match l with
  | [] => []
  | x :: _ => l.filter (fun p => p.2.2.dst == x.2.2.dst)

/-- The one that the output serves: the most urgent; among equals the one that has waited longest, then by input (11 R313). -/
def State.nextResp (s : State) (waiting : List (Nat × Nat)) : Option (Nat × Resp) :=
  (argMin (fun (p : Nat × Nat × Resp) => ((7 - p.2.2.urg) * 65536 + (65535 - p.2.1)) * 4 + p.2.2.port)
    (s.respWaiting waiting)).map (fun p => (p.1, p.2.2))

/-- RESPONSE: of the responses that wait at a station's router, each with the ring cycles it has waited there, one reaches its
requester (11 R307, R313, R323). -/
def execResponse (waiting : List (Nat × Nat)) (parity : Bool) (s : State) : Out :=
  when s.alive s (fun s =>
    match s.nextResp waiting with
    | none => s
    | some (i, r) =>
      let s := { s with ring := { s.ring with resp := s.ring.resp.eraseIdx i } }
      if parity then s.ringParity
      else
        let s := { s with ring := { s.ring with got := some r } }
        if r.code = 0 then s else s.report r)

/-! ### Host windows (12 R326 to R330, R343) -/

/-- What an offset of a host window answers: an address on the ring, the MSI-X table or its pending bits in the host
interface itself, or nothing. -/
inductive HostTarget where
  | ring (a : Nat)
  | table (i : Nat)
  | pba (i : Nat)
  | nothing
  deriving DecidableEq, Repr

/-- The layout of the windows (12 R327, R328). -/
def hostTarget (winb : Bool) (off : Nat) : HostTarget :=
  if winb then
    if off < 0x100 then .ring (0x200F8000 + off)
    else if 0x1000 ≤ off ∧ off < 0x1400 then .ring (0x200D0000 + (off - 0x1000))
    else if 0x2000 ≤ off ∧ off < 0x3000 then .ring (0x20000000 + (off - 0x2000))
    else .nothing
  else if off < 0x2000000 then .ring (0x10000000 + off)
  else if off < 0x2001000 then .ring (0x200F0000 + (off - 0x2000000))
  else if off < 0x2001400 then .table (off - 0x2001000)
  else if 0x2002000 ≤ off ∧ off < 0x2002008 then .pba (off - 0x2002000)
  else .nothing

/-- Byte i of the MSI-X table. -/
def State.msixByte (s : State) (i : Nat) : Nat :=
  bits (sget msixDefault s.host.msixTab (i / 4)).toNat (8 * (i % 4) + 7) (8 * (i % 4))

/-- A write of byte i of the MSI-X table; a vector that is no longer masked sends its pending message (12 R327). -/
def State.msixTabWrite (s : State) (i b : Nat) : State :=
  let w := sget msixDefault s.host.msixTab (i / 4)
  let s := { s with host := { s.host with
    msixTab := sset msixDefault s.host.msixTab (i / 4) (setBits w (8 * (i % 4) + 7) (8 * (i % 4)) b) } }
  let v := i / 16
  if s.host.pba.getLsbD v && !s.msixMasked v then
    ({ s with host := { s.host with pba := s.host.pba &&& ~~~(1#64 <<< v) } }).msix v
  else s

/-- One piece of a host access, within one granule: the state, abort?, the value read (12 R326 to R329). -/
def State.hostPiece (s : State) (winb write : Bool) (off len v : Nat) (ecc : Ecc) : State × Bool × Nat :=
  match hostTarget winb off with
  | .nothing => (s, false, 0)
  | .pba i => (s, false, if write then 0 else s.host.pba.toNat / 256 ^ i % 256 ^ len)
  | .table i =>
    if write then
      ((List.range len).foldl (fun s j => s.msixTabWrite (i + j) (v / 256 ^ j % 256)) s, false, 0)
    else (s, false, (List.range len).foldl (fun n j => n + s.msixByte (i + j) * 256 ^ j) 0)
  | .ring a =>
    let q : Requester := ⟨15, false, winb, false, false⟩
    let x := s.access q write a len v ecc
    if x.2.1 = 0 then (x.1, false, x.2.2) else (logHost (logUntagged x.1 q a x.2.1) winb write off x.2.1, true, 0)

/-- A read of the host completes with this data. -/
def State.hostData (s : State) (l : List Byte) : State := { s with host := { s.host with cpl := some (false, l) } }

/-- While the device is in Reset only HOSTIF_STAT and the reset key of window B answer, to aligned 32-bit accesses; every other
access completes with Completer Abort (01 R32; 12 R343). -/
def State.hostInReset (s : State) (winb : Bool) (off : Nat) (write : Bool) (len : Nat) (v : List Byte) : State :=
  if write then (if winb && off == 0 && len == 4 then s.hostReset (w32 (imgNat v 0 4)) else s)
  else if !winb && off == 0x2000000 && len == 4 then s.hostData (leBytes 4 (s.regWord Reg.hostifStat false).toNat)
  else s.hostAbort

/-- The pieces of a host access in order, i being the number of the first; the first piece refused aborts a read. -/
def State.hostPieces (winb write : Bool) (v : List Byte) (bad : List (Nat × Ecc)) (o : Nat) :
    List ((Nat × Nat) × Nat) → State × Bool × List Byte → State × Bool × List Byte
  | [], r => r
  | ((a, n), i) :: l, r =>
    let x := r.1.hostPiece winb write a n (imgNat v (a - o) n) (eccAt bad i)
    State.hostPieces winb write v bad o l (x.1, r.2.1 || x.2.1, r.2.2 ++ leBytes n x.2.2)

/-- Does a piece at this offset go onto the ring? -/
def onRing (winb : Bool) (off : Nat) : Bool := match hostTarget winb off with
  | .ring _ => true
  | _ => false

/-- HOST_ACCESS: a read of up to 4 KiB or a write of up to 512 bytes, split at granules (12 R325, R326, R329); bad: the
granules, by number, whose check words show an error. It wakes the device, but a read of HOSTIF_STAT completes at once (14
R381). An isolated host interface's requests are discarded (11 R318). -/
def execHostAccess (winb : Bool) (off : BitVec 26) (write : Bool) (len : Nat) (v : List Byte) (bad : List (Nat × Ecc))
    (s : State) : Out :=
  when (s.mode != .off && decide (1 ≤ len) && decide (len ≤ if write then 512 else 4096)) s (fun s =>
    let o := off.toNat
    if s.mode = .reset then s.hostInReset winb o write len v
    else if s.ring.iso.getLsbD 15 && onRing winb o then s
    else
      let s := if !winb && !write && o == 0x2000000 && len == 4 then s else s.hostWake
      let r := State.hostPieces winb write v bad o (granules o len).zipIdx (s, false, [])
      if write then r.1 else if r.2.1 then r.1.hostAbort else r.1.hostData r.2.2)

end Sys2Proof.Machine
end

