-- ==== Sys2Proof/Machine/Operands.lean ====
section
/-! DEFINITION. Operand forms of the scalar instructions: W and doubleword operands, results, immediates, effective
addresses, branch targets (09 R251, R252, R254). -/
namespace Sys2Proof.Machine

/-- The width of an operation: 32 with W = 1 (09 R254). -/
def wid (w : Bool) : Nat := if w then 32 else 64

/-- Register i as an operand of that width. -/
def Core.opnd (k : Core) (w : Bool) (i : Fin 32) : Nat := (k.gr i).toNat % 2 ^ wid w

/-- A number of that width read as signed. -/
def toSigned (w : Bool) (n : Nat) : Int := if n < 2 ^ (wid w - 1) then n else (n : Int) - 2 ^ wid w

/-- A signed number cut to that width. -/
def ofSigned (w : Bool) (i : Int) : Nat := (i % (2 ^ wid w : Nat)).toNat

/-- A result as a register holds it: W results are sign-extended from bit 31 (09 R254). -/
def wres (w : Bool) (n : Nat) : Dbl := if w then (BitVec.ofNat 32 n).signExtend 64 else BitVec.ofNat 64 n

/-- imm16 sign-extended. -/
def sext16 (imm : BitVec 16) : Dbl := imm.signExtend 64

/-- imm16 zero-extended. -/
def zext16 (imm : BitVec 16) : Dbl := imm.setWidth 64

/-- The effective address ra + sext(imm16) (09 R252). -/
def Core.ea (k : Core) (o : IntI) : Nat := (k.gr o.ra + sext16 o.imm).toNat

/-- The effective address ra + rb (09 R252). -/
def Core.eax (k : Core) (o : IdxOp) : Nat := (k.gr o.ra + k.gr o.rb).toNat

/-- A loaded value of n bytes: zero-extended, or sign-extended from its top bit. -/
def extend (n : Nat) (zext : Bool) (v : Nat) : Dbl :=
  if zext || decide (v < 2 ^ (8 * n - 1)) then BitVec.ofNat 64 v
  else BitVec.ofNat 64 (v + (2 ^ 64 - 2 ^ (8 * n)))

/-- A branch target: n instructions from the branch's own address (09 R251). -/
def Core.target (k : Core) {w : Nat} (off : BitVec w) : BitVec 48 := k.pc + ((off.signExtend 48) <<< 2)

end Sys2Proof.Machine
end

