-- ==== Sys2Proof/Machine/Flags.lean ====
section
/-! DEFINITION. Every flag computation of the integer instructions, and the conditions (09 R254 to R256, R258). -/
namespace Sys2Proof.Machine

/-- A result with its flags: V, C where the instruction sets them. -/
structure Res where
  val : Nat
  c : Bool
  v : Bool
  deriving DecidableEq, Repr

/-- The sign bit of a number of that width. -/
def signOf (w : Bool) (n : Nat) : Bool := n.testBit (wid w - 1)

/-- N and Z of a result (09 R254). -/
def Core.flagNZ (k : Core) (w : Bool) (n : Nat) : Core := (k.setPs 3 (signOf w n)).setPs 2 (n % 2 ^ wid w == 0)

/-- C. -/
def Core.flagC (k : Core) (b : Bool) : Core := k.setPs 1 b

/-- V. -/
def Core.flagV (k : Core) (b : Bool) : Core := k.setPs 0 b

/-- All four flags of a result. -/
def Core.flags (k : Core) (w : Bool) (r : Res) : Core := ((k.flagNZ w r.val).flagC r.c).flagV r.v

/-- a + b + carry (09 R254). -/
def addRes (w : Bool) (a b cin : Nat) : Res :=
  let r := (a + b + cin) % 2 ^ wid w
  ⟨r, decide (2 ^ wid w ≤ a + b + cin), signOf w a == signOf w b && signOf w r != signOf w a⟩

/-- a − b − borrow; C is the borrow (09 R254). -/
def subRes (w : Bool) (a b cin : Nat) : Res :=
  let r := (a + 2 ^ wid w - b + 2 ^ wid w - cin) % 2 ^ wid w
  ⟨r, decide (a < b + cin), signOf w a != signOf w b && signOf w r != signOf w a⟩

/-- The most negative value of a width. -/
def mostNeg (w : Bool) : Nat := 2 ^ (wid w - 1)

/-- 0 − a: C shows a nonzero operand, V the most negative one (09 R254). -/
def negRes (w : Bool) (a : Nat) : Res := ⟨(2 ^ wid w - a) % 2 ^ wid w, a != 0, a == mostNeg w⟩

/-- The absolute value (09 R254). -/
def absRes (w : Bool) (a : Nat) : Res :=
  ⟨if signOf w a then (2 ^ wid w - a) % 2 ^ wid w else a, false, a == mostNeg w⟩

/-- The low half of a product; C and V: the unsigned, the signed product does not fit (09 R254). -/
def mulRes (w : Bool) (a b : Nat) : Res :=
  let p := toSigned w a * toSigned w b
  ⟨a * b % 2 ^ wid w, decide (2 ^ wid w ≤ a * b), decide (p < -(mostNeg w : Int) ∨ (mostNeg w : Int) ≤ p)⟩

/-- SHL by n: the value and C (09 R256). -/
def shlRes (w : Bool) (a n : Nat) : Nat × Bool :=
  (if n < wid w then a * 2 ^ n % 2 ^ wid w else 0, n != 0 && decide (n ≤ wid w) && a.testBit (wid w - n))

/-- SHRL by n. -/
def shrlRes (w : Bool) (a n : Nat) : Nat × Bool :=
  (if n < wid w then a / 2 ^ n else 0, n != 0 && decide (n ≤ wid w) && a.testBit (n - 1))

/-- SHRA by n. -/
def shraRes (w : Bool) (a n : Nat) : Nat × Bool :=
  (ofSigned w (toSigned w a / (2 ^ n : Nat)),
    n != 0 && (if n ≤ wid w then a.testBit (n - 1) else signOf w a))

/-- Condition cond of B.cond; 15 is reserved (09 R255). -/
def Core.cond (k : Core) (cond : Fin 16) : Option Bool :=
  let v := k.ps 0
  let c := k.ps 1
  let z := k.ps 2
  let n := k.ps 3
  match cond.val with
  | 0 => some z
  | 1 => some (!z)
  | 2 => some (n != v)
  | 3 => some (n == v)
  | 4 => some (!z && n == v)
  | 5 => some (z || n != v)
  | 6 => some c
  | 7 => some (!c)
  | 8 => some (!c && !z)
  | 9 => some (c || z)
  | 10 => some n
  | 11 => some (!n)
  | 12 => some v
  | 13 => some (!v)
  | 14 => some true
  | _ => none

/-- Quotient and remainder of a completed division, cut to the width: truncation towards zero, the remainder with the
dividend's sign; a divisor of 0 gives all ones and the dividend (09 R258). -/
def divRes (w signed : Bool) (a b : Nat) : Nat × Nat :=
  if b = 0 then (2 ^ wid w - 1, a)
  else if signed then
    (ofSigned w ((toSigned w a).tdiv (toSigned w b)), ofSigned w ((toSigned w a).tmod (toSigned w b)))
  else (a / b, a % b)

end Sys2Proof.Machine
end

