-- ==== Sys2Proof/Machine/CoreInt.lean ====
section
/-! DEFINITION. The integer instructions of the cores: arithmetic, logic, shifts, immediates, division, repetition
(09 R252, R254 to R259). -/
namespace Sys2Proof.Machine

/-! ### Shared forms -/

/-- A register operation that writes rd and the flags f chooses. used: the fields the row does not use are 0, else the
instruction is illegal (09 R251). -/
def intOp (o : IntR) (used : Bool) (s : State) (f : Core → Nat → Nat → Nat) (fl : Core → Nat → Nat → Core) : Out :=
  runInstr o.c true s (fun s =>
    if !used then illegal o.c s
    else
      let k := s.core o.c
      let a := k.opnd o.w o.ra
      let b := k.opnd o.w o.rb
      .next (s.setCore o.c (fl (k.gw o.rd (wres o.w (f k a b))) a b)))

/-- An operation that sets all four flags. -/
def resOp (o : IntR) (used : Bool) (s : State) (f : Core → Nat → Nat → Res) : Out :=
  runInstr o.c true s (fun s =>
    if !used then illegal o.c s
    else
      let k := s.core o.c
      let r := f k (k.opnd o.w o.ra) (k.opnd o.w o.rb)
      .next (s.setCore o.c ((k.gw o.rd (wres o.w r.val)).flags o.w r)))

/-- A logic operation: N and Z. -/
def logicOp (o : IntR) (s : State) (f : Nat → Nat → Nat) : Out :=
  runInstr o.c true s (fun s =>
    let k := s.core o.c
    let r := f (k.opnd o.w o.ra) (k.opnd o.w o.rb)
    .next (s.setCore o.c ((k.gw o.rd (wres o.w r)).flagNZ o.w r)))

/-- The effect of a shift: N, Z, C (09 R256). -/
def shiftPut (c : CoreId) (w : Bool) (rd : Fin 32) (s : State) (r : Nat × Bool) : State :=
  s.setCore c ((((s.core c).gw rd (wres w r.1)).flagNZ w r.1).flagC r.2)

/-- A shift by rb[6:0]. -/
def shiftOp (o : IntR) (s : State) (f : Bool → Nat → Nat → Nat × Bool) : Out :=
  runInstr o.c true s (fun s =>
    let k := s.core o.c
    .next (shiftPut o.c o.w o.rd s (f o.w (k.opnd o.w o.ra) ((k.gr o.rb).toNat % 128))))

/-- An operation that changes no flag. -/
def plainOp (o : IntR) (used : Bool) (s : State) (f : Nat → Nat → Nat) : Out :=
  intOp o used s (fun _ a b => f a b) (fun k _ _ => k)

/-! ### Register operations (09 R254) -/

/-- ADD. -/
def execAdd (o : IntR) (s : State) : Out := resOp o true s (fun _ a b => addRes o.w a b 0)

/-- SUB. -/
def execSub (o : IntR) (s : State) : Out := resOp o true s (fun _ a b => subRes o.w a b 0)

/-- ADC. -/
def execAdc (o : IntR) (s : State) : Out := resOp o true s (fun k a b => addRes o.w a b (b2n (k.ps 1)))

/-- SBC. -/
def execSbc (o : IntR) (s : State) : Out := resOp o true s (fun k a b => subRes o.w a b (b2n (k.ps 1)))

/-- NEG. -/
def execNeg (o : IntR) (s : State) : Out := resOp o (o.rb == 0) s (fun _ a _ => negRes o.w a)

/-- ABS. -/
def execAbs (o : IntR) (s : State) : Out := resOp o (o.rb == 0) s (fun _ a _ => absRes o.w a)

/-- CMP: the flags of SUB; nothing is written. -/
def execCmp (o : IntR) (s : State) : Out :=
  resOp o (o.rd == 0) s (fun _ a b => subRes o.w a b 0)

/-- AND. -/
def execAnd (o : IntR) (s : State) : Out := logicOp o s (fun a b => a &&& b)

/-- OR. -/
def execOr (o : IntR) (s : State) : Out := logicOp o s (fun a b => a ||| b)

/-- XOR. -/
def execXor (o : IntR) (s : State) : Out := logicOp o s (fun a b => a ^^^ b)

/-- ANDN. -/
def execAndn (o : IntR) (s : State) : Out := logicOp o s (fun a b => a - (a &&& b))

/-- SHL. -/
def execShl (o : IntR) (s : State) : Out := shiftOp o s shlRes

/-- SHRL. -/
def execShrl (o : IntR) (s : State) : Out := shiftOp o s shrlRes

/-- SHRA. -/
def execShra (o : IntR) (s : State) : Out := shiftOp o s shraRes

/-- MUL. -/
def execMul (o : IntR) (s : State) : Out := resOp o true s (fun _ a b => mulRes o.w a b)

/-- MULHU. -/
def execMulhu (o : IntR) (s : State) : Out := plainOp o true s (fun a b => a * b / 2 ^ wid o.w)

/-- MULHS. -/
def execMulhs (o : IntR) (s : State) : Out :=
  plainOp o true s (fun a b => ofSigned o.w (toSigned o.w a * toSigned o.w b / (2 ^ wid o.w : Nat)))

/-- Leading zeros of a number of a width. -/
def leadingZeros (width n : Nat) : Nat := if n = 0 then width else width - 1 - Nat.log2 n

/-- CLZ. -/
def execClz (o : IntR) (s : State) : Out := plainOp o (o.rb == 0) s (fun a _ => leadingZeros (wid o.w) a)

/-- Ones in a number of at most 64 bits. -/
def onesOf (n : Nat) : Nat := (List.range 64).foldl (fun c i => c + b2n (n.testBit i)) 0

/-- POPC. -/
def execPopc (o : IntR) (s : State) : Out := plainOp o (o.rb == 0) s (fun a _ => onesOf a)

/-- MOV. -/
def execMov (o : IntR) (s : State) : Out := plainOp o (o.rb == 0) s (fun a _ => a)

/-! ### Immediates (09 R252) -/

/-- ADDI. -/
def execAddi (o : IntI) (s : State) : Out :=
  runInstr o.c true s (fun s =>
    let k := s.core o.c
    let r := addRes false (k.gr o.ra).toNat (sext16 o.imm).toNat 0
    .next (s.setCore o.c ((k.gw o.rd (wres false r.val)).flags false r)))

/-- CMPI: rd field 0. -/
def execCmpi (o : IntI) (s : State) : Out :=
  runInstr o.c true s (fun s =>
    if o.rd ≠ 0 then illegal o.c s
    else
      let k := s.core o.c
      .next (s.setCore o.c (k.flags false (subRes false (k.gr o.ra).toNat (sext16 o.imm).toNat 0))))

/-- ANDI, ORI and XORI: N and Z. -/
def immLogic (o : IntI) (s : State) (f : Dbl → Dbl → Dbl) : Out :=
  runInstr o.c true s (fun s =>
    let k := s.core o.c
    let r := f (k.gr o.ra) (zext16 o.imm)
    .next (s.setCore o.c ((k.gw o.rd r).flagNZ false r.toNat)))

/-- ANDI. -/
def execAndi (o : IntI) (s : State) : Out := immLogic o s (fun a b => a &&& b)

/-- ORI. -/
def execOri (o : IntI) (s : State) : Out := immLogic o s (fun a b => a ||| b)

/-- XORI. -/
def execXori (o : IntI) (s : State) : Out := immLogic o s (fun a b => a ^^^ b)

/-- rd takes a value computed from its old one; no flags. -/
def immMove (c : CoreId) (rd : Fin 32) (s : State) (f : Dbl → Dbl) : Out :=
  runInstr c true s (fun s => .next (s.gw c rd (f ((s.core c).gr rd))))

/-- LDIZ. -/
def execLdiz (c : CoreId) (rd : Fin 32) (imm : BitVec 16) (s : State) : Out := immMove c rd s (fun _ => zext16 imm)

/-- LDIS. -/
def execLdis (c : CoreId) (rd : Fin 32) (imm : BitVec 16) (s : State) : Out := immMove c rd s (fun _ => sext16 imm)

/-- SHIN: rd := (rd << 16) ∨ imm. -/
def execShin (c : CoreId) (rd : Fin 32) (imm : BitVec 16) (s : State) : Out :=
  immMove c rd s (fun x => (x <<< 16) ||| zext16 imm)

/-- SHIFT_BY_IMMEDIATE: 0 SHL, 1 SHRL, 2 SHRA; 3 is reserved (09 R252, R256). -/
def execShiftByImmediate (c : CoreId) (rd ra : Fin 32) (amount : BitVec 7) (op : Fin 4) (w : Bool) (s : State) : Out :=
  runInstr c true s (fun s =>
    let a := (s.core c).opnd w ra
    match op.val with
    | 0 => .next (shiftPut c w rd s (shlRes w a amount.toNat))
    | 1 => .next (shiftPut c w rd s (shrlRes w a amount.toNat))
    | 2 => .next (shiftPut c w rd s (shraRes w a amount.toNat))
    | _ => illegal c s)

/-! ### Division (09 R257, R258)

DIVST holds the step count in [6:0], W in [62] and the signedness in [63]; before the last step DIVQ and DIVR hold the
dividend and the divisor, from then on quotient and remainder: a layout of the model's own (log 36). -/

/-- The step count. -/
def divCount (st : Dbl) : Nat := st.toNat % 128

/-- DVSETU and DVSETS. -/
def divSetup (o : IntR) (signed : Bool) (s : State) : Out :=
  runInstr o.c true s (fun s =>
    if o.rd ≠ 0 then illegal o.c s
    else
      let k := s.core o.c
      let a := k.opnd o.w o.ra
      let b := k.opnd o.w o.rb
      let k := { k with
        dvQ := BitVec.ofNat 64 a
        dvR := BitVec.ofNat 64 b
        dvSt := BitVec.ofNat 64 (2 ^ 62 * b2n o.w + 2 ^ 63 * b2n signed) }
      .next (s.setCore o.c ((((k.setPs 3 false).setPs 2 false).flagC (b == 0)).flagV
        (signed && a == mostNeg o.w && b == 2 ^ wid o.w - 1))))

/-- DVSETU. -/
def execDvsetu (o : IntR) (s : State) : Out := divSetup o false s

/-- DVSETS. -/
def execDvsets (o : IntR) (s : State) : Out := divSetup o true s

/-- One step; one beyond the w-th does nothing. -/
def Core.divStep (k : Core) : Core :=
  let w := k.dvSt.getLsbD 62
  let n := divCount k.dvSt
  if wid w ≤ n then k
  else
    let k' := { k with dvSt := k.dvSt + 1 }
    if n + 1 = wid w then
      let r := divRes w (k.dvSt.getLsbD 63) (k.dvQ.toNat % 2 ^ wid w) (k.dvR.toNat % 2 ^ wid w)
      { k' with dvQ := wres w r.1, dvR := wres w r.2 }
    else k'

/-- DVSTEP. -/
def execDvstep (c : CoreId) (s : State) : Out :=
  runInstr c true s (fun s => .next (s.setCore c (s.core c).divStep))

/-- DVQ and DVR: illegal before the last step. -/
def divGet (c : CoreId) (rd : Fin 32) (s : State) (f : Core → Dbl) : Out :=
  runInstr c true s (fun s =>
    let k := s.core c
    let w := k.dvSt.getLsbD 62
    if divCount k.dvSt < wid w then illegal c s
    else .next (s.setCore c ((k.gw rd (f k)).flagNZ w (f k).toNat)))

/-- DVQ. -/
def execDvq (c : CoreId) (rd : Fin 32) (s : State) : Out := divGet c rd s (fun k => k.dvQ)

/-- DVR. -/
def execDvr (c : CoreId) (rd : Fin 32) (s : State) : Out := divGet c rd s (fun k => k.dvR)

/-! ### Repetition (09 R259) -/

/-- May RPT not repeat the instruction with this word: it writes lc, transfers control, or is a system instruction, an
array-group instruction or RPT? -/
def notRepeatable (next : Word) : Bool :=
  let m := bits next.toNat 31 26
  [0x0A, 0x0B, 0x20, 0x21, 0x22, 0x23, 0x24, 0x25, 0x38, 0x39, 0x3A].contains m

/-- RPT: next is the word that follows. With lc 0 that instruction is skipped; otherwise it is repeated (09 R259). -/
def execRpt (c : CoreId) (next : Word) (s : State) : Out :=
  runInstr c false s (fun s =>
    let k := s.core c
    if notRepeatable next then illegal c s
    else if k.lc = 0 then .jump s (k.pc + 8)
    else .stay (s.setCore c { k with rpt := true, ret := k.ret + 1 }))

end Sys2Proof.Machine
end

