-- ==== Sys2Proof/Machine/CoreMem.lean ====
section
/-! DEFINITION. Loads, stores and reservations of the cores, with the precise faults, posted-store errors and data breaks
that go with them (09 R250, R252, R260, R263, R265, R266; 05 R168; 16 R432). -/
namespace Sys2Proof.Machine

/-! ### Judging an access -/

/-- The register words of the counter guard (05 R168). -/
def guardedWords : List Nat := [
  Reg.tickAcycLo, Reg.tickAcycHi, Reg.tickDcycLo, Reg.tickDcycHi, Reg.tickPhase, Reg.tickTend, Reg.tickTendMax,
  Reg.seqcoreCycLo, Reg.seqcoreCycHi, Reg.cmdcoreCycLo, Reg.cmdcoreCycHi]

/-- Does the counter guard refuse core c's read of [a, a + n): task mode, Active or Shadow (05 R168)? -/
def State.counterGuard (s : State) (c : CoreId) (a n : Nat) : Bool :=
  (s.mode == .active || s.mode == .shadow) && !(s.core c).sup &&
    guardedWords.any (fun w => decide (a < w + 4) && decide (w < a + n))

/-- SYND's write bit (09 R263). -/
def wrBit (write : Bool) : Nat := if write then 0x1000 else 0

/-- The cause and SYND of the fault that stops an access of the core before it is made: task window, counter guard
(09 R250, R260, R263). -/
def State.windowFault (s : State) (c : CoreId) (write : Bool) (a n : Nat) : Option (Nat × Nat) :=
  if !(s.core c).windowOk (b2n write) a n then some (6, 0x4000 + wrBit write)
  else if !write && s.counterGuard c a n then some (6, 0x8000)
  else none

/-- The same for a scalar access, which must be naturally aligned (09 R252). -/
def State.accessFault (s : State) (c : CoreId) (write : Bool) (a n : Nat) : Option (Nat × Nat) :=
  if a % n ≠ 0 then some (5, wrBit write) else s.windowFault c write a n

/-- Is the address of device type for a store (09 R265)? An address in no region counts as one (log 37). -/
def isDevice (a : Nat) : Bool :=
  match regionOf a with
  | some (.cistern _) => false
  | some (.bulk _) => false
  | some .rom => false
  | _ => true

/-- A posted store is answered with an error: logged, and cause 17 becomes pending (09 R260; 11 R323). -/
def State.storeError (s : State) (c : CoreId) (a code : Nat) : State :=
  let s := logUntagged s (s.coreReq c) a code
  let k := s.core c
  if k.nmi17.isSome then s
  else s.setCore c { k with nmi17 := some (BitVec.ofNat 48 a, BitVec.ofNat 4 code) }

/-! ### Data breaks (16 R432) -/

/-- The value compare of a data range: the doubleword at d, n bytes of value v at a. Bit 8·b of VMSK masks in byte b; the
bytes compared are those touched and masked in, and with none the compare fails; VCMP 3 acts as 0 (16 R432, R437). -/
def valueMatch (vcmp val msk d a n v : Nat) : Bool :=
  let bytes := (List.range 8).filter (fun i => decide (a ≤ d + i) && decide (d + i < a + n) && msk.testBit (8 * i))
  let same := bytes.all (fun i => v / 256 ^ (d + i - a) % 256 == val / 256 ^ i % 256)
  vcmp == 0 || vcmp == 3 || (!bytes.isEmpty && (if vcmp = 1 then same else !same))

/-- Does data range j of core c match an access of n bytes at a with this value? -/
def State.dMatch (s : State) (c : CoreId) (write : Bool) (a n v : Nat) (j : Nat) : Bool :=
  let b := dbgOf c Reg.dbgDbsLoC0 + 64 * j
  let w := s.reg (b + 16)
  let lo := max a (s.addr48 b)
  let hi := min (a + n - 1) (s.addr48 (b + 8))
  bit w 0 && bit w (if write then 2 else 1) && decide (lo ≤ hi) &&
    (s.core c).privCtx (bits w.toNat 4 3) (bit w 5) (bits w.toNat 13 6) &&
    (!bit w 16 || s.inIRange c (bits w.toNat 19 17) (s.core c).ipc) &&
    valueMatch (bits w.toNat 15 14) (ofHalves (s.reg (b + 24)) (s.reg (b + 20))).toNat
      (ofHalves (s.reg (b + 32)) (s.reg (b + 28))).toNat (lo / 8 * 8) a n v

/-- The data ranges of core c that match one of these accesses (address, length, value). -/
def State.dMatches (s : State) (c : CoreId) (write : Bool) (l : List (Nat × Nat × Nat)) : List Nat :=
  (List.range 4).filter (fun j => l.any (fun x => s.dMatch c write x.1 x.2.1 x.2.2 j))

/-- An instruction that made these accesses ends in t: where a range of s matched, DBG_WPC and HIT record it, and the core
halts (ACT 0) or takes cause 9 (ACT 1) after it has retired. -/
def dataEnd (c : CoreId) (write : Bool) (s t : State) (l : List (Nat × Nat × Nat)) : Act :=
  let ms := s.dMatches c write l
  if ms.isEmpty then .next t
  else
    let p := (s.core c).ipc
    let t := (t.setReg (dbgOf c Reg.dbgWpcLo) (w32 p)).setReg (dbgOf c Reg.dbgWpcHi) (w32 (p / 2 ^ 32))
    let t := t.setCore c { t.core c with hit := hitBits (ms.map (8 + ·)) }
    if ms.any (fun j => !bit (s.reg (dbgOf c Reg.dbgDbsLoC0 + 64 * j + 16)) 20) then
      .next (t.setCore c { t.core c with haltReq := 3 })
    else .after t

/-! ### What physically befalls a load (06 R173, R182; 09 R266, R271) -/

/-- A corrected error in core c's L1 is counted (09 R271, R276; 15 R403). -/
def State.l1Corrected (s : State) (c : CoreId) : State :=
  (s.countWord (Reg.seqcoreCorr + coreBase c) (Reg.seqcoreStat + coreBase c) 4 1).corrected 3

/-- The line that a load brings in replaces that of the core's reservation (09 R266). -/
def State.evicted (s : State) (c : CoreId) (evict : Bool) : State :=
  if evict then s.setCore c { s.core c with rsv := none } else s

/-- A load that meets bad parity in a register file, or an L1 word that cannot be corrected, is a fatal error of the core, and
it stays; otherwise it goes on, a corrected L1 error counted and a line evicted (09 R266, R271). -/
def withL1 (c : CoreId) (ev : LoadEv) (s : State) (f : State → Act) : Act :=
  if ev.parity then .stay (s.coreFatal c 1)
  else if ev.l1 = .lost then .stay (s.coreFatal c 2)
  else f ((if ev.l1 = .corrected then s.l1Corrected c else s).evicted c ev.evict)

/-- The core's requests are discarded: its station is isolated (11 R318; log 92). -/
def State.coreCut (s : State) (c : CoreId) : Bool := s.ring.iso.getLsbD (coreStation c)

/-! ### Loads and stores (09 R252) -/

/-- A scalar load of n bytes at a: its value goes where put says. A data error is code 6 (06 R173, R182). -/
def loadAct (c : CoreId) (a n : Nat) (ev : LoadEv) (s : State) (put : State → Nat → State) : Act :=
  match s.accessFault c false a n with
  | some (cause, synd) => .fault s cause a (some synd)
  | none =>
    if s.coreCut c then .stay s
    else withL1 c ev s (fun s =>
      let q := s.coreReq c
      let x := s.access q false a n 0 ev.ecc
      if x.2.1 ≠ 0 then .fault (logUntagged x.1 q a x.2.1) 7 a (some (256 * x.2.1))
      else dataEnd c false s (put x.1 x.2.2) [(a, n, x.2.2)])

/-- A scalar store of n bytes of v at a: an error is precise for a device, cause 17 for memory (09 R260; 11 R323). -/
def storeAct (c : CoreId) (a n v : Nat) (s : State) : Act :=
  match s.accessFault c true a n with
  | some (cause, synd) => .fault s cause a (some synd)
  | none =>
    let q := s.coreReq c
    let v := v % 256 ^ n
    if s.coreCut c then (if isDevice a then .stay s else dataEnd c true s s [(a, n, v)]) else
    let x := s.access q true a n v .clean
    if x.2.1 ≠ 0 then
      if isDevice a then .fault (logUntagged x.1 q a x.2.1) 7 a (some (256 * x.2.1 + 0x1000))
      else dataEnd c true s (x.1.storeError c a x.2.1) [(a, n, v)]
    else dataEnd c true s x.1 [(a, n, v)]

/-- A load instruction into a general register. -/
def loadOp (o : LoadI) (n : Nat) (zext : Bool) (s : State) : Out :=
  runInstr o.c true s (fun s =>
    loadAct o.c ((s.core o.c).ea o.toIntI) n o.ev s (fun s v => s.gw o.c o.rd (extend n zext v)))

/-- A store instruction from a general register. -/
def storeOp (o : IntI) (n : Nat) (s : State) : Out :=
  runInstr o.c true s (fun s => storeAct o.c ((s.core o.c).ea o) n ((s.core o.c).gr o.rd).toNat s)

/-- LB. -/
def execLb (o : LoadI) (s : State) : Out := loadOp o 1 false s

/-- LBU. -/
def execLbu (o : LoadI) (s : State) : Out := loadOp o 1 true s

/-- LH. -/
def execLh (o : LoadI) (s : State) : Out := loadOp o 2 false s

/-- LHU. -/
def execLhu (o : LoadI) (s : State) : Out := loadOp o 2 true s

/-- LW. -/
def execLw (o : LoadI) (s : State) : Out := loadOp o 4 false s

/-- LWU. -/
def execLwu (o : LoadI) (s : State) : Out := loadOp o 4 true s

/-- LD. -/
def execLd (o : LoadI) (s : State) : Out := loadOp o 8 true s

/-- INDEXED_LOAD: sizes 4 to 7 are illegal. -/
def execIndexedLoad (o : IdxOp) (ev : LoadEv) (s : State) : Out :=
  runInstr o.c true s (fun s =>
    if 3 < o.size.toNat then illegal o.c s
    else
      let n := 2 ^ o.size.toNat
      loadAct o.c ((s.core o.c).eax o) n ev s (fun s v => s.gw o.c o.rd (extend n o.zext v)))

/-- SB. -/
def execSb (o : IntI) (s : State) : Out := storeOp o 1 s

/-- SH. -/
def execSh (o : IntI) (s : State) : Out := storeOp o 2 s

/-- SW. -/
def execSw (o : IntI) (s : State) : Out := storeOp o 4 s

/-- SD. -/
def execSd (o : IntI) (s : State) : Out := storeOp o 8 s

/-- INDEXED_STORE: sizes 4 to 7 and func[3] are illegal. -/
def execIndexedStore (o : IdxOp) (s : State) : Out :=
  runInstr o.c true s (fun s =>
    if 3 < o.size.toNat ∨ o.zext = true then illegal o.c s
    else storeAct o.c ((s.core o.c).eax o) (2 ^ o.size.toNat) ((s.core o.c).gr o.rd).toNat s)

/-! ### Reservations (09 R266) -/

/-- Is the address in bulk memory? -/
def isBulk (a : Nat) : Bool :=
  match regionOf a with
  | some (.bulk _) => true
  | _ => false

/-- RSVL: the word or doubleword, sign-extended, and a reservation of its granule; only in bulk memory. -/
def reserveOp (c : CoreId) (rd ra : Fin 32) (n : Nat) (ev : LoadEv) (s : State) : Out :=
  runInstr c true s (fun s =>
    let a := ((s.core c).gr ra).toNat
    match s.accessFault c false a n with
    | some (cause, synd) => .fault s cause a (some synd)
    | none =>
      if !isBulk a then .fault s 6 a (some 0)
      else loadAct c a n ev s (fun s v =>
        let s := s.gw c rd (extend n false v)
        s.setCore c { s.core c with rsv := some (a / 64) }))

/-- RSVL_W. -/
def execRsvlW (c : CoreId) (rd ra : Fin 32) (ev : LoadEv) (s : State) : Out := reserveOp c rd ra 4 ev s

/-- RSVL_D. -/
def execRsvlD (c : CoreId) (rd ra : Fin 32) (ev : LoadEv) (s : State) : Out := reserveOp c rd ra 8 ev s

/-- CNDS: stores rb and writes 1 where the reservation is held, else writes 0; the reservation is cleared. -/
def condStore (c : CoreId) (rd ra rb : Fin 32) (n : Nat) (s : State) : Out :=
  runInstr c true s (fun s =>
    let k := s.core c
    let a := (k.gr ra).toNat
    match s.accessFault c true a n with
    | some (cause, synd) => .fault s cause a (some synd)
    | none =>
      if !isBulk a then .fault s 6 a (some 0x1000)
      else if k.rsv.isNone then .next (s.gw c rd 0)
      else if s.coreCut c then .stay s
      else
        let q := s.coreReq c
        let v := (k.gr rb).toNat % 256 ^ n
        let x := s.access q true a n v .clean
        if x.2.1 ≠ 0 then .fault (logUntagged x.1 q a x.2.1) 7 a (some (256 * x.2.1 + 0x1000))
        else
          let t := x.1.gw c rd 1
          dataEnd c true s (t.setCore c { t.core c with rsv := none }) [(a, n, v)])

/-- CNDS_W. -/
def execCndsW (c : CoreId) (rd ra rb : Fin 32) (s : State) : Out := condStore c rd ra rb 4 s

/-- CNDS_D. -/
def execCndsD (c : CoreId) (rd ra rb : Fin 32) (s : State) : Out := condStore c rd ra rb 8 s

end Sys2Proof.Machine
end

