-- ==== Sys2Proof/Machine/CoreSys.lean ====
section
/-! DEFINITION. Control flow, system instructions, interrupts, watchdogs and the register rows of the core blocks
(09 R252, R253, R255, R261, R274 to R276). -/
namespace Sys2Proof.Machine

/-! ### Control flow (09 R252, R255) -/

/-- Branch where the condition holds. -/
def branchIf (p : Bool) (s : State) (t : BitVec 48) : Act := if p then .jump s t else .next s

/-- B_COND: condition 15 is illegal. -/
def execBCond (c : CoreId) (cond : Fin 16) (off : BitVec 22) (s : State) : Out :=
  runInstr c false s (fun s =>
    match (s.core c).cond cond with
    | some p => branchIf p s ((s.core c).target off)
    | none => illegal c s)

/-- BR. -/
def execBr (c : CoreId) (off : BitVec 26) (s : State) : Out :=
  runInstr c false s (fun s => .jump s ((s.core c).target off))

/-- g30 := pc + 4. -/
def State.link (s : State) (c : CoreId) : State := s.gw c 30 (((s.core c).pc + 4).setWidth 64)

/-- CALL. -/
def execCall (c : CoreId) (off : BitVec 26) (s : State) : Out :=
  runInstr c false s (fun s => .jump (s.link c) ((s.core c).target off))

/-- JR. -/
def execJr (c : CoreId) (ra : Fin 32) (s : State) : Out :=
  runInstr c false s (fun s => .jump s (((s.core c).gr ra).setWidth 48))

/-- CALLR. -/
def execCallr (c : CoreId) (ra : Fin 32) (s : State) : Out :=
  runInstr c false s (fun s => .jump (s.link c) (((s.core c).gr ra).setWidth 48))

/-- LOOP: lc counts down to 0; branches while the new lc is not 0. -/
def execLoop (c : CoreId) (off : BitVec 22) (s : State) : Out :=
  runInstr c false s (fun s =>
    let k := s.core c
    if k.lc = 0 then .next s
    else branchIf (k.lc != 1) (s.setCore c { k with lc := k.lc - 1 }) (k.target off))

/-- CBZ. -/
def execCbz (c : CoreId) (ra : Fin 32) (off : BitVec 20) (s : State) : Out :=
  runInstr c false s (fun s => branchIf ((s.core c).gr ra == 0) s ((s.core c).target off))

/-- CBNZ. -/
def execCbnz (c : CoreId) (ra : Fin 32) (off : BitVec 20) (s : State) : Out :=
  runInstr c false s (fun s => branchIf ((s.core c).gr ra != 0) s ((s.core c).target off))

/-! ### System instructions (09 R253) -/

/-- MFCR: CR0 in either mode, the others privileged; a reserved number is illegal (09 R249). -/
def execMfcr (c : CoreId) (rd cr : Fin 32) (s : State) : Out :=
  runInstr c false s (fun s =>
    match (s.core c).crRead cr.val with
    | none => illegal c s
    | some v => if cr = 0 then .next (s.gw c rd v) else privileged c s (fun s => .next (s.gw c rd v)))

/-- MTCR (09 R249). -/
def execMtcr (c : CoreId) (ra cr : Fin 32) (s : State) : Out :=
  runInstr c false s (fun s =>
    match (s.core c).crWrite cr.val ((s.core c).gr ra) with
    | none => illegal c s
    | some k => privileged c s (fun s => .next (s.setCore c k)))

/-- RFE (09 R262). -/
def execRfe (c : CoreId) (s : State) : Out :=
  runInstr c false s (fun s =>
    privileged c s (fun s =>
      let t := s.rfe c
      if frameOk s c false (s.core c).ssp.toNat then .jump t (t.core c).pc else .stay t))

/-- Cause 8; SYND[7:0] is the code. -/
def trapAct (c : CoreId) (code : Nat) (s : State) : Act := .fault s 8 (s.core c).pc.toNat (some code)

/-- TRAP. word: the word at the head, where it is given: one that spells no instruction is illegal, cause 2; one that spells
another instruction is that instruction's row, and not run by this one (09 R252, R253; log 96). -/
def execTrap (c : CoreId) (code : BitVec 5) (word : Option Word) (s : State) : Out :=
  runInstr c word.isSome s (fun s =>
    match word with
    | none => trapAct c code.toNat s
    | some w => match decodeCore c w.toNat with
      | none => illegal c s
      | some (.trap _ n _) => trapAct c n.toNat s
      | some _ => .stay s)

/-- BKPT: halts where BKPT_HALT is 1, else cause 9 (09 R253; 16 R423). -/
def execBkpt (c : CoreId) (s : State) : Out :=
  runInstr c false s (fun s =>
    if bit (s.reg (dbgOf c Reg.dbgCtl)) 4 then .stay (s.setCore c { s.core c with haltReq := 4 })
    else .fault s 9 (s.core c).pc.toNat (some 0))

/-- What ends a WFI: an enabled line is pending, or cause 16 or 17 has arisen. -/
def State.wakes (s : State) (c : CoreId) : Bool :=
  s.irqLines c != 0 || (s.core c).nmi16 || (s.core c).nmi17.isSome

/-- WFI. -/
def execWfi (c : CoreId) (s : State) : Out :=
  runInstr c false s (fun s =>
    privileged c s (fun s =>
      if s.wakes c then .next s else .stay (s.setCore c { s.core c with wfi := true })))

/-- May core c act at a retirement boundary, waiting or not? -/
def State.atBoundary (s : State) (c : CoreId) : Bool :=
  !s.coreDown c && (s.core c).run && !(s.core c).halted && (s.core c).haltReq == 0

/-- The WFI retires. -/
def State.endWfi (s : State) (c : CoreId) : State := (s.setCore c { s.core c with wfi := false }).retire c

/-- WFI_WAKE: the wait ends and no interrupt is to be taken: execution continues (09 R253). -/
def execWfiWake (c : CoreId) (s : State) : Out :=
  when (s.atBoundary c && (s.core c).wfi && s.wakes c && !s.intDue c) s (fun s => s.endWfi c)

/-- FENCE: accesses are performed in order here (09 R268). -/
def execFence (c : CoreId) (s : State) : Out := runInstr c false s .next

/-- IFENCE: no instruction cache stands between memory and the instructions here (09 R270). -/
def execIfence (c : CoreId) (s : State) : Out := runInstr c false s .next

/-- MTLC. -/
def execMtlc (c : CoreId) (ra : Fin 32) (s : State) : Out :=
  runInstr c false s (fun s => .next (s.setCore c { s.core c with lc := (s.core c).gr ra }))

/-- MFLC. -/
def execMflc (c : CoreId) (rd : Fin 32) (s : State) : Out :=
  runInstr c false s (fun s => .next (s.gw c rd (s.core c).lc))

/-! ### Interrupts (09 R261) -/

/-- The lowest line that may interrupt. -/
def State.lowestLine (s : State) (c : CoreId) : Option Nat :=
  (List.range 32).find? (fun n => (s.irqLines c).getLsbD n)

/-- Take the interrupt of highest priority: cause 16, cause 17, the lowest line; a WFI in progress retires first. -/
def State.takeInterrupt (s : State) (c : CoreId) : State :=
  let s := if (s.core c).wfi then s.endWfi c else s
  let k := s.core c
  if k.nmi16 then (s.setCore c { k with nmi16 := false }).exc c 16 0 none
  else match k.nmi17 with
    | some (a, code) =>
      (s.setCore c { k with nmi17 := none }).exc c 17 a.toNat (some (256 * code.toNat + 0x1000))
    | none => match s.lowestLine c with
      | some n => s.exc c (32 + n) 0 none
      | none => s

/-- INTERRUPT: one is recognised at core c's retirement boundary (09 R261). -/
def execInterrupt (c : CoreId) (s : State) : Out :=
  when (s.atBoundary c && s.intDue c) s (fun s => s.takeInterrupt c)

/-! ### Watchdogs and core registers (09 R274 to R276) -/

/-- WDOG_CTL. -/
def execWdogCtl (q : Requester) (c : CoreId) (v : Word) (s : State) : Out :=
  done s (regWrite q (Reg.seqcoreWdogCtl + coreBase c) s (fun s => s.wdogCtlWrite c v))

/-- WDOG_KICK. -/
def execWdogKick (q : Requester) (c : CoreId) (v : Word) (s : State) : Out :=
  done s (regWrite q (Reg.seqcoreWdogKick + coreBase c) s (fun s => s.wdogKickWrite c v))

/-- CORE_WATCHDOG_EXPIRY: the first raises cause 16 and sets FIRED; a second with FIRED still 1 is fatal. A halted core's
watchdog does not count, nor one in Quiescent (09 R274). -/
def execCoreWatchdogExpiry (c : CoreId) (s : State) : Out :=
  when (s.wdogRuns c) s (fun s =>
    let k := s.core c
    if k.wdFired then s.coreFatal c 4
    else (s.setCore c { k with nmi16 := true, wdFired := true }).reloadWdog c)

/-- IRQ_SET. -/
def execIrqSet (q : Requester) (c : CoreId) (v : Word) (s : State) : Out :=
  done s (regWrite q (Reg.seqcoreIrqSet + coreBase c) s (fun s => s.irqSetWrite c v))

/-- SEQCORE_REL_GO (09 R275). -/
def execSeqcoreRelGo (q : Requester) (s : State) : Out :=
  done s (regWrite q Reg.seqcoreRel s State.seqRelease)

end Sys2Proof.Machine
end

