-- ==== Sys2Proof/Machine/CoreFp.lean ====
section
/-! DEFINITION. The scalar floating-point instructions (10 R277 to R292). -/
namespace Sys2Proof.Machine

/-! ### Registers, rounding, flags -/

/-- The format that D selects (10 R281). -/
def fpFmt (d : Bool) : Fmt := if d then fmt64 else fmt32

/-- The low n bits of f register i (10 R278). -/
def Core.fr (k : Core) (i : Fin 32) (n : Nat) : Nat := k.v[i].toNat % 2 ^ n

/-- Write f register i: the other bits of the vector register become 0 (10 R278). -/
def Core.fw (k : Core) (i : Fin 32) (v : Nat) : Core := { k with v := vset k.v i (BitVec.ofNat 512 (v % 2 ^ 64)) }

/-- The rounding direction of an instruction; none: illegal (10 R282). -/
def Core.rounding (k : Core) (rm : BitVec 3) : Option Nat :=
  let n := if rm = 7 then bits k.fsr.toNat 10 8 else rm.toNat
  if n ≤ 4 then some n else none

/-- Raise flags in FSR (10 R279). -/
def Core.raise (k : Core) (fl : Nat) : Core := { k with fsr := k.fsr ||| BitVec.ofNat 16 (fl % 32) }

/-- The fields of a scalar instruction: are unused ones 0 (10 R281)? -/
def fpOk (o : FpOp) (useRd useRa useRb useD useRm : Bool) : Bool :=
  (useRd || o.rd == 0) && (useRa || o.ra == 0) && (useRb || o.rb == 0) && (useD || !o.d) && (useRm || o.rm == 0)

/-- A scalar instruction whose fields are in order and whose rounding direction is legal. -/
def fpRun (o : FpOp) (ok : Bool) (s : State) (f : Core → Nat → Core) : Out :=
  runInstr o.c true s (fun s =>
    match (s.core o.c).rounding o.rm with
    | some rm => if ok then .next (s.setCore o.c (f (s.core o.c) rm)) else illegal o.c s
    | none => illegal o.c s)

/-- fd takes a result in format D, with its flags. -/
def fpArith (o : FpOp) (ok : Bool) (s : State) (f : Fmt → Nat → Nat → Nat → Nat → Nat × Nat) : Out :=
  fpRun o ok s (fun k rm =>
    let t := fpFmt o.d
    let r := f t rm (k.fr o.ra t.width) (k.fr o.rb t.width) (k.fr o.rd t.width)
    (k.fw o.rd r.1).raise r.2)

/-! ### Arithmetic: major 0x28 (10 R283) -/

/-- FADD. -/
def execFadd (o : FpOp) (s : State) : Out := fpArith o true s (fun t rm a b _ => t.add rm a b)

/-- FSUB. -/
def execFsub (o : FpOp) (s : State) : Out := fpArith o true s (fun t rm a b _ => t.sub rm a b)

/-- FMUL. -/
def execFmul (o : FpOp) (s : State) : Out := fpArith o true s (fun t rm a b _ => t.mul rm a b)

/-- FMA: fa × fb + fd. -/
def execFma (o : FpOp) (s : State) : Out := fpArith o true s (fun t rm a b d => t.fma rm a b d)

/-- FSQRT (10 R291). -/
def execFsqrt (o : FpOp) (s : State) : Out :=
  fpArith o (fpOk o true true false true true) s (fun t rm a _ _ => t.sqrt rm a)

/-- FRE (10 R287). -/
def execFre (o : FpOp) (s : State) : Out :=
  fpArith o (fpOk o true true false true false) s (fun t _ a _ _ => (t.fre a, 0))

/-- FRS (10 R288). -/
def execFrs (o : FpOp) (s : State) : Out :=
  fpArith o (fpOk o true true false true false) s (fun t _ a _ d => (t.frs d a, 0))

/-- FDC (10 R289). -/
def execFdc (o : FpOp) (s : State) : Out := fpArith o true s (fun t rm a b d => t.fdc rm d a b)

/-- FMIN. -/
def execFmin (o : FpOp) (s : State) : Out :=
  fpArith o (fpOk o true true true true false) s (fun t _ a b _ => t.minMax false a b)

/-- FMAX. -/
def execFmax (o : FpOp) (s : State) : Out :=
  fpArith o (fpOk o true true true true false) s (fun t _ a b _ => t.minMax true a b)

/-- The sign bit of a format. -/
def Fmt.signBit (t : Fmt) : Nat := 2 ^ (t.width - 1)

/-- FNEG. -/
def execFneg (o : FpOp) (s : State) : Out :=
  fpArith o (fpOk o true true false true false) s (fun t _ a _ _ => (a ^^^ t.signBit, 0))

/-- FABS. -/
def execFabs (o : FpOp) (s : State) : Out :=
  fpArith o (fpOk o true true false true false) s (fun t _ a _ _ => (a % t.signBit, 0))

/-- FMOV. -/
def execFmov (o : FpOp) (s : State) : Out :=
  fpArith o (fpOk o true true false true false) s (fun _ _ a _ _ => (a, 0))

/-! ### Compares (10 R285) -/

/-- The flags of a compare: invalid for a signalling NaN, or for any where the compare signals. -/
def cmpFlags (signals : Bool) (x y : FV) : Nat :=
  if x.isSnan || y.isSnan || (signals && (x.isNan || y.isNan)) then 1 else 0

/-- FCMP and FCMPS: PSTAT takes the relation. -/
def fpCompare (o : FpOp) (signals : Bool) (s : State) : Out :=
  fpRun o (fpOk o false true true true false) s (fun k _ =>
    let t := fpFmt o.d
    let x := t.dec (k.fr o.ra t.width)
    let y := t.dec (k.fr o.rb t.width)
    let r := cmpV x y
    (((((k.setPs 3 (r == 0)).setPs 2 (r == 1)).flagC (r == 0 || r == 3)).flagV (r == 3))).raise (cmpFlags signals x y))

/-- FCMP. -/
def execFcmp (o : FpOp) (s : State) : Out := fpCompare o false s

/-- FCMPS. -/
def execFcmps (o : FpOp) (s : State) : Out := fpCompare o true s

/-! ### Conversions (10 R283, R286) -/

/-- fd takes fa converted between formats. -/
def fpConvert (o : FpOp) (src dst : Fmt) (useRm : Bool) (s : State) : Out :=
  fpRun o (fpOk o true true false true useRm) s (fun k rm =>
    let r := src.cvt dst rm (k.fr o.ra src.width)
    (k.fw o.rd r.1).raise r.2)

/-- FCVT: D 0 widens binary32, D 1 narrows binary64. -/
def execFcvt (o : FpOp) (s : State) : Out := fpConvert o (fpFmt o.d) (fpFmt !o.d) true s

/-- FCVTH. -/
def execFcvth (o : FpOp) (s : State) : Out := fpConvert o (fpFmt o.d) fmt16 true s

/-- FCVTB. -/
def execFcvtb (o : FpOp) (s : State) : Out := fpConvert o (fpFmt o.d) fmtBf true s

/-- FHCVT: exact; it uses no rounding direction. -/
def execFhcvt (o : FpOp) (s : State) : Out := fpConvert o fmt16 (fpFmt o.d) false s

/-- FBCVT: exact; it uses no rounding direction. -/
def execFbcvt (o : FpOp) (s : State) : Out := fpConvert o fmtBf (fpFmt o.d) false s

/-- gd takes fa as an integer; w: 32 bits, whose result is sign-extended. -/
def fpToInt (o : FpOp) (w sgn : Bool) (s : State) : Out :=
  fpRun o (fpOk o true true false true true) s (fun k rm =>
    let t := fpFmt o.d
    let lo : Int := if sgn then -(2 ^ (wid w - 1) : Nat) else 0
    let hi : Int := if sgn then (2 ^ (wid w - 1) : Nat) - 1 else (2 ^ wid w : Nat) - 1
    let r := t.toInt rm lo hi (k.fr o.ra t.width)
    (k.gw o.rd (wres w (ofSigned w r.1))).raise r.2)

/-- FCVTIS32. -/
def execFcvtis32 (o : FpOp) (s : State) : Out := fpToInt o true true s

/-- FCVTIU32. -/
def execFcvtiu32 (o : FpOp) (s : State) : Out := fpToInt o true false s

/-- FCVTIS64. -/
def execFcvtis64 (o : FpOp) (s : State) : Out := fpToInt o false true s

/-- FCVTIU64. -/
def execFcvtiu64 (o : FpOp) (s : State) : Out := fpToInt o false false s

/-- fd takes ga, read as an integer, converted. -/
def fpOfInt (o : FpOp) (w sgn : Bool) (s : State) : Out :=
  fpRun o (fpOk o true true false true true) s (fun k rm =>
    let n := k.opnd w o.ra
    let r := (fpFmt o.d).ofInt rm (if sgn then toSigned w n else n)
    (k.fw o.rd r.1).raise r.2)

/-- ICVTFS32. -/
def execIcvtfs32 (o : FpOp) (s : State) : Out := fpOfInt o true true s

/-- ICVTFU32. -/
def execIcvtfu32 (o : FpOp) (s : State) : Out := fpOfInt o true false s

/-- ICVTFS64. -/
def execIcvtfs64 (o : FpOp) (s : State) : Out := fpOfInt o false true s

/-- ICVTFU64. -/
def execIcvtfu64 (o : FpOp) (s : State) : Out := fpOfInt o false false s

/-! ### Moves (10 R279, R283) -/

/-- FMVGF: gd := fa[63:0]. -/
def execFmvgf (o : FpOp) (s : State) : Out :=
  fpRun o (fpOk o true true false false false) s (fun k _ => k.gw o.rd (BitVec.ofNat 64 (k.fr o.ra 64)))

/-- FMVFG: fd := ga. -/
def execFmvfg (o : FpOp) (s : State) : Out :=
  fpRun o (fpOk o true true false false false) s (fun k _ => k.fw o.rd (k.gr o.ra).toNat)

/-- MFFS: gd := FSR. -/
def execMffs (o : FpOp) (s : State) : Out :=
  fpRun o (fpOk o true false false false false) s (fun k _ => k.gw o.rd (k.fsr.setWidth 64))

/-- MTFS: FSR := ga[10:0], bits [7:5] written 0. -/
def execMtfs (o : FpOp) (s : State) : Out :=
  fpRun o (fpOk o false true false false false) s (fun k _ => { k with fsr := (k.gr o.ra).setWidth 16 &&& 0x71F#16 })

/-! ### Loads and stores (10 R278, R281) -/

/-- A load into an f register. -/
def fpLoad (o : LoadI) (n : Nat) (s : State) : Out :=
  runInstr o.c true s (fun s =>
    loadAct o.c ((s.core o.c).ea o.toIntI) n o.ev s (fun s v => s.setCore o.c ((s.core o.c).fw o.rd v)))

/-- A store from an f register. -/
def fpStore (o : IntI) (n : Nat) (s : State) : Out :=
  runInstr o.c true s (fun s => storeAct o.c ((s.core o.c).ea o) n ((s.core o.c).fr o.rd (8 * n)) s)

/-- FLW. -/
def execFlw (o : LoadI) (s : State) : Out := fpLoad o 4 s

/-- FLD. -/
def execFld (o : LoadI) (s : State) : Out := fpLoad o 8 s

/-- FSW. -/
def execFsw (o : IntI) (s : State) : Out := fpStore o 4 s

/-- FSD. -/
def execFsd (o : IntI) (s : State) : Out := fpStore o 8 s

end Sys2Proof.Machine
end

