-- ==== Sys2Proof/Machine/CoreVec.lean ====
section
/-! DEFINITION. The vector instructions: lengths, masks, integer and floating-point operations, predicates, reductions
(10 R294 to R297). -/
namespace Sys2Proof.Machine

/-! ### Elements and masks (10 R277, R294) -/

/-- The element width that EW selects. -/
def ewBits (ew : Fin 4) : Nat := 8 * 2 ^ ew.val

/-- Element i of a vector register. -/
def elem (v : VReg) (ew i : Nat) : Nat := bits v.toNat (ew * i + ew - 1) (ew * i)

/-- A vector register with element i replaced where f gives a value. -/
def putElems (v : VReg) (ew n : Nat) (f : Nat → Option Nat) : VReg :=
  (List.range n).foldl (fun (v : VReg) i => match f i with
    | some x =>
      let m : VReg := BitVec.ofNat 512 (2 ^ ew - 1) <<< (ew * i)
      (v &&& ~~~m) ||| (BitVec.ofNat 512 (x % 2 ^ ew) <<< (ew * i))
    | none => v) v

/-- The number of elements acted on. -/
def Core.count (k : Core) (ew : Nat) : Nat := min k.vl (512 / ew)

/-- Is element i selected by predicate K (0: always)? -/
def Core.sel (k : Core) (p : Fin 8) (i : Nat) : Bool := p == 0 || k.k[p].getLsbD i

/-- The active elements, in ascending order. -/
def Core.actives (k : Core) (p : Fin 8) (ew : Nat) : List Nat := (List.range (k.count ew)).filter (k.sel p)

/-- Write vector register rd: active elements take f, the others keep their values. -/
def Core.vput (k : Core) (p : Fin 8) (ew : Nat) (rd : Fin 32) (f : Nat → Nat) : Core :=
  { k with v := vset k.v rd (putElems k.v[rd] ew (k.count ew) (fun i => if k.sel p i then some (f i) else none)) }

/-- Write predicate register rd: active bits take f, every other bit 0. -/
def Core.kput (k : Core) (p : Fin 8) (ew : Nat) (rd : Fin 32) (f : Nat → Bool) : Core :=
  let m := BitVec.ofNat 64 ((k.actives p ew).foldl (fun n i => n + b2n (f i) * 2 ^ i) 0)
  { k with k := vset k.k ⟨rd.val % 8, Nat.mod_lt _ (by decide)⟩ m }

/-- An element read as signed. -/
def elemSigned (ew n : Nat) : Int := if n < 2 ^ (ew - 1) then n else (n : Int) - 2 ^ ew

/-- A signed number cut to an element. -/
def elemOf (ew : Nat) (i : Int) : Nat := (i % (2 ^ ew : Nat)).toNat

/-! ### Integer operations: major 0x2F (10 R296) -/

/-- VSETL: vl := min(ga, 512 ÷ ew); gd := vl (10 R295). -/
def execVsetl (c : CoreId) (ew : Fin 4) (rd ra : Fin 32) (s : State) : Out :=
  runInstr c true s (fun s =>
    let k := s.core c
    let n := min (k.gr ra).toNat (512 / ewBits ew)
    .next (s.setCore c (({ k with vl := n }).gw rd (BitVec.ofNat 64 n))))

/-- A vector instruction that changes only its core. -/
def vecRun (c : CoreId) (ok : Bool) (s : State) (f : Core → Core) : Out :=
  runInstr c true s (fun s => if ok then .next (s.setCore c (f (s.core c))) else illegal c s)

/-- An element-wise operation into a vector register. -/
def vecOp (o : VecOp) (s : State) (f : Nat → Nat → Nat → Nat) : Out :=
  vecRun o.c true s (fun k =>
    let ew := ewBits o.ew
    k.vput o.k ew o.rd (fun i => f ew (elem k.v[o.ra] ew i) (elem k.v[o.rb] ew i)))

/-- An element-wise compare into a predicate register. -/
def vecCmp (o : VecOp) (s : State) (f : Nat → Nat → Nat → Bool) : Out :=
  vecRun o.c (decide (o.rd.val < 8)) s (fun k =>
    let ew := ewBits o.ew
    k.kput o.k ew o.rd (fun i => f ew (elem k.v[o.ra] ew i) (elem k.v[o.rb] ew i)))

/-- VADD. -/
def execVadd (o : VecOp) (s : State) : Out := vecOp o s (fun _ a b => a + b)

/-- VSUB. -/
def execVsub (o : VecOp) (s : State) : Out := vecOp o s (fun ew a b => a + 2 ^ ew - b)

/-- VMUL. -/
def execVmul (o : VecOp) (s : State) : Out := vecOp o s (fun _ a b => a * b)

/-- VAND. -/
def execVand (o : VecOp) (s : State) : Out := vecOp o s (fun _ a b => a &&& b)

/-- VOR. -/
def execVor (o : VecOp) (s : State) : Out := vecOp o s (fun _ a b => a ||| b)

/-- VXOR. -/
def execVxor (o : VecOp) (s : State) : Out := vecOp o s (fun _ a b => a ^^^ b)

/-- VSHL: amounts 0 to 127 honoured literally (09 R256). -/
def execVshl (o : VecOp) (s : State) : Out :=
  vecOp o s (fun ew a b => if b % 128 < ew then a * 2 ^ (b % 128) else 0)

/-- VSHRL. -/
def execVshrl (o : VecOp) (s : State) : Out := vecOp o s (fun _ a b => a / 2 ^ (b % 128))

/-- VSHRA. -/
def execVshra (o : VecOp) (s : State) : Out :=
  vecOp o s (fun ew a b => elemOf ew (elemSigned ew a / (2 ^ (b % 128) : Nat)))

/-- VMINS. -/
def execVmins (o : VecOp) (s : State) : Out :=
  vecOp o s (fun ew a b => if elemSigned ew a ≤ elemSigned ew b then a else b)

/-- VMAXS. -/
def execVmaxs (o : VecOp) (s : State) : Out :=
  vecOp o s (fun ew a b => if elemSigned ew a ≤ elemSigned ew b then b else a)

/-- VMINU. -/
def execVminu (o : VecOp) (s : State) : Out := vecOp o s (fun _ a b => min a b)

/-- VMAXU. -/
def execVmaxu (o : VecOp) (s : State) : Out := vecOp o s (fun _ a b => max a b)

/-- VCMPEQ. -/
def execVcmpeq (o : VecOp) (s : State) : Out := vecCmp o s (fun _ a b => a == b)

/-- VCMPLTS. -/
def execVcmplts (o : VecOp) (s : State) : Out :=
  vecCmp o s (fun ew a b => decide (elemSigned ew a < elemSigned ew b))

/-- VCMPLTU. -/
def execVcmpltu (o : VecOp) (s : State) : Out := vecCmp o s (fun _ a b => decide (a < b))

/-- VREDSUM: gd := gb + the sum of the active elements, each sign-extended. -/
def execVredsum (o : VecOp) (s : State) : Out :=
  vecRun o.c true s (fun k =>
    let ew := ewBits o.ew
    let sum := (k.actives o.k ew).foldl (fun (n : Int) i => n + elemSigned ew (elem k.v[o.ra] ew i)) 0
    k.gw o.rd (k.gr o.rb + BitVec.ofInt 64 sum))

/-! ### Floating point: major 0x30 (10 R296, R297) -/

/-- A vector floating-point instruction with a legal rounding direction. -/
def vfpRun (o : VecFp) (ok : Bool) (s : State) (f : Core → Nat → Core) : Out :=
  runInstr o.c true s (fun s =>
    match (s.core o.c).rounding o.rm with
    | some rm => if ok then .next (s.setCore o.c (f (s.core o.c) rm)) else illegal o.c s
    | none => illegal o.c s)

/-- An element-wise operation with flags: the OR of the active elements' flags goes into FSR. -/
def vfpOp (o : VecFp) (ok : Bool) (s : State) (f : Fmt → Nat → Nat → Nat → Nat → Nat × Nat) : Out :=
  vfpRun o ok s (fun k rm =>
    let t := fpFmt o.d
    let ew := t.width
    let r (i : Nat) : Nat × Nat := f t rm (elem k.v[o.ra] ew i) (elem k.v[o.rb] ew i) (elem k.v[o.rd] ew i)
    (k.vput o.k ew o.rd (fun i => (r i).1)).raise ((k.actives o.k ew).foldl (fun fl i => fl ||| (r i).2) 0))

/-- VFADD. -/
def execVfadd (o : VecFp) (s : State) : Out := vfpOp o true s (fun t rm a b _ => t.add rm a b)

/-- VFSUB. -/
def execVfsub (o : VecFp) (s : State) : Out := vfpOp o true s (fun t rm a b _ => t.sub rm a b)

/-- VFMUL. -/
def execVfmul (o : VecFp) (s : State) : Out := vfpOp o true s (fun t rm a b _ => t.mul rm a b)

/-- VFMA: va × vb + vd. -/
def execVfma (o : VecFp) (s : State) : Out := vfpOp o true s (fun t rm a b d => t.fma rm a b d)

/-- VFSQRT. -/
def execVfsqrt (o : VecFp) (s : State) : Out := vfpOp o (o.rb == 0) s (fun t rm a _ _ => t.sqrt rm a)

/-- VFRE. -/
def execVfre (o : VecFp) (s : State) : Out := vfpOp o (o.rb == 0 && o.rm == 0) s (fun t _ a _ _ => (t.fre a, 0))

/-- VFRS. -/
def execVfrs (o : VecFp) (s : State) : Out := vfpOp o (o.rb == 0 && o.rm == 0) s (fun t _ a _ d => (t.frs d a, 0))

/-- VFDC. -/
def execVfdc (o : VecFp) (s : State) : Out := vfpOp o true s (fun t rm a b d => t.fdc rm d a b)

/-- VFMIN. -/
def execVfmin (o : VecFp) (s : State) : Out := vfpOp o (o.rm == 0) s (fun t _ a b _ => t.minMax false a b)

/-- VFMAX. -/
def execVfmax (o : VecFp) (s : State) : Out := vfpOp o (o.rm == 0) s (fun t _ a b _ => t.minMax true a b)

/-- A compare into a predicate register; p of the relation of 0 less, 1 equal, 2 greater, 3 unordered. -/
def vfpCmp (o : VecFp) (signals : Bool) (s : State) (p : Nat → Bool) : Out :=
  vfpRun o (decide (o.rd.val < 8) && o.rm == 0) s (fun k _ =>
    let t := fpFmt o.d
    let ew := t.width
    let x (i : Nat) : FV := t.dec (elem k.v[o.ra] ew i)
    let y (i : Nat) : FV := t.dec (elem k.v[o.rb] ew i)
    (k.kput o.k ew o.rd (fun i => p (cmpV (x i) (y i)))).raise
      ((k.actives o.k ew).foldl (fun fl i => fl ||| cmpFlags signals (x i) (y i)) 0))

/-- VFCMPEQ: quiet. -/
def execVfcmpeq (o : VecFp) (s : State) : Out := vfpCmp o false s (fun r => r == 1)

/-- VFCMPLT: signalling. -/
def execVfcmplt (o : VecFp) (s : State) : Out := vfpCmp o true s (fun r => r == 0)

/-- VFCMPLE: signalling. -/
def execVfcmple (o : VecFp) (s : State) : Out := vfpCmp o true s (fun r => r == 0 || r == 1)

/-- VFCVTI: to a signed integer of the same width (10 R286). -/
def execVfcvti (o : VecFp) (s : State) : Out :=
  vfpOp o (o.rb == 0) s (fun t rm a _ _ =>
    let r := t.toInt rm (-(2 ^ (t.width - 1) : Nat)) ((2 ^ (t.width - 1) : Nat) - 1) a
    (elemOf t.width r.1, r.2))

/-- VFICVT: from a signed integer of the same width. -/
def execVficvt (o : VecFp) (s : State) : Out :=
  vfpOp o (o.rb == 0) s (fun t rm a _ _ => t.ofInt rm (elemSigned t.width a))

/-- VFREDSUM: fd := fb + the active elements in ascending order, each addition rounded (10 R297). -/
def execVfredsum (o : VecFp) (s : State) : Out :=
  vfpRun o true s (fun k rm =>
    let t := fpFmt o.d
    let r := (k.actives o.k t.width).foldl (fun (x : Nat × Nat) i =>
      let y := t.add rm x.1 (elem k.v[o.ra] t.width i)
      (y.1, x.2 ||| y.2)) (k.fr o.rb t.width, 0)
    (k.fw o.rd r.1).raise r.2)

/-! ### Moves and predicates: major 0x31 (10 R296) -/

/-- VBCAST. -/
def execVbcast (o : VecOp) (s : State) : Out :=
  vecRun o.c (o.rb == 0) s (fun k => k.vput o.k (ewBits o.ew) o.rd (fun _ => elem k.v[o.ra] (ewBits o.ew) 0))

/-- VBCASTG. -/
def execVbcastg (o : VecOp) (s : State) : Out :=
  vecRun o.c (o.rb == 0) s (fun k => k.vput o.k (ewBits o.ew) o.rd (fun _ => (k.gr o.ra).toNat))

/-- VMOV. -/
def execVmov (o : VecOp) (s : State) : Out :=
  vecRun o.c (o.rb == 0) s (fun k =>
    k.vput o.k (ewBits o.ew) o.rd (fun i => elem k.v[o.ra] (ewBits o.ew) i))

/-- VSEL: every element below c, from va where kK has its bit (K = 0: everywhere), else from vb. -/
def execVsel (o : VecOp) (s : State) : Out :=
  vecRun o.c true s (fun k =>
    let ew := ewBits o.ew
    k.vput 0 ew o.rd (fun i => if k.sel o.k i then elem k.v[o.ra] ew i else elem k.v[o.rb] ew i))

/-- Predicate register i of an operand field; fields above 7 are illegal. -/
def Core.kr (k : Core) (i : Fin 32) : Dbl := k.k[i.val % 8]'(Nat.mod_lt _ (by decide))

/-- Write predicate register i. -/
def Core.kw (k : Core) (i : Fin 32) (v : Dbl) : Core :=
  { k with k := vset k.k ⟨i.val % 8, Nat.mod_lt _ (by decide)⟩ v }

/-- Does the field name a predicate register? -/
def isK (i : Fin 32) : Bool := decide (i.val < 8)

/-- An operation on whole predicate registers. -/
def kOp (o : KOp) (s : State) (f : Dbl → Dbl → Dbl) : Out :=
  vecRun o.c (isK o.rd && isK o.ra && isK o.rb) s (fun k => k.kw o.rd (f (k.kr o.ra) (k.kr o.rb)))

/-- A number computed from a predicate register. -/
def kGet (o : KOp) (s : State) (f : Dbl → Dbl) : Out :=
  vecRun o.c (isK o.ra && o.rb == 0) s (fun k => k.gw o.rd (f (k.kr o.ra)))

/-- KAND. -/
def execKand (o : KOp) (s : State) : Out := kOp o s (fun a b => a &&& b)

/-- KOR. -/
def execKor (o : KOp) (s : State) : Out := kOp o s (fun a b => a ||| b)

/-- KXOR. -/
def execKxor (o : KOp) (s : State) : Out := kOp o s (fun a b => a ^^^ b)

/-- KANDN. -/
def execKandn (o : KOp) (s : State) : Out := kOp o s (fun a b => a &&& ~~~b)

/-- KMOVG: kd := ga. -/
def execKmovg (o : KOp) (s : State) : Out :=
  vecRun o.c (isK o.rd && o.rb == 0) s (fun k => k.kw o.rd (k.gr o.ra))

/-- KMOVK: gd := ka. -/
def execKmovk (o : KOp) (s : State) : Out := kGet o s (fun x => x)

/-- KPOPC. -/
def execKpopc (o : KOp) (s : State) : Out := kGet o s (fun x => BitVec.ofNat 64 (onesOf x.toNat))

/-- KFIRST: the lowest set bit, or −1. -/
def execKfirst (o : KOp) (s : State) : Out :=
  kGet o s (fun x => match (List.range 64).find? (fun i => x.getLsbD i) with
    | some i => BitVec.ofNat 64 i
    | none => BitVec.allOnes 64)

end Sys2Proof.Machine
end

