-- ==== Sys2Proof/Machine/CoreVmem.lean ====
section
/-! DEFINITION. Vector loads and stores: every active element is checked before any is read or written
(10 R298 to R301). -/
namespace Sys2Proof.Machine

/-- One element access: the element's index, its address, the register offset of its field. -/
structure VAcc where
  idx : Nat
  addr : Nat
  reg : Nat
  deriving DecidableEq, Repr

/-- The fault of one element before anything is accessed: alignment, task window, region (10 R299). -/
def State.elemFault (s : State) (c : CoreId) (write : Bool) (n : Nat) (x : VAcc) : Option (Nat × Nat) :=
  if x.addr % n ≠ 0 then some (5, x.idx + wrBit write)
  else match s.windowFault c write x.addr n with
    | some (cause, synd) => some (cause, x.idx + synd)
    | none => if inMem x.addr n then none else some (6, x.idx + wrBit write)

/-- The first element that faults: cause, address, SYND. -/
def State.vecFault (s : State) (c : CoreId) (write : Bool) (n : Nat) (l : List VAcc) : Option (Nat × Nat × Nat) :=
  l.findSome? (fun x => (s.elemFault c write n x).map (fun f => (f.1, x.addr, f.2)))

/-- Read the elements in order, up to the first one answered with a code other than OK, which is logged: the state, and that
element with its code (06 R173, R182; 10 R299). -/
def State.vecRead (s : State) (q : Requester) (n : Nat) (bad : List (Nat × Ecc)) : List (VAcc × Nat) → State × Option (VAcc × Nat)
  | [] => (s, none)
  | (x, i) :: l =>
    let code := accessCode s q false x.addr n
    let ecc := eccAt bad i
    if code ≠ 0 then (logUntagged s q x.addr code, some (x, code))
    else if ecc = .lost then (logUntagged (s.memEcc x.addr ecc) q x.addr 6, some (x, 6))
    else (s.memEcc x.addr ecc).vecRead q n bad l

/-- A vector load of elements of n bytes into registers rd, rd + 1, …: nothing is written where an element faults or is
answered with an error; bad: the elements, by their place in the list, whose check words show one (10 R299). -/
def vecLoad (c : CoreId) (rd : Fin 32) (n : Nat) (bad : List (Nat × Ecc)) (l : List VAcc) (s : State) : Act :=
  match s.vecFault c false n l with
  | some (cause, a, synd) => .fault s cause a (some synd)
  | none =>
    if s.coreCut c then .stay s
    else
    let r := s.vecRead (s.coreReq c) n bad l.zipIdx
    let s := r.1
    match r.2 with
    | some (x, code) => .fault s 7 x.addr (some (256 * code + x.idx))
    | none =>
      let k := s.core c
      let put (k : Core) (x : VAcc) : Core :=
        let r : Fin 32 := ⟨(rd.val + x.reg) % 32, Nat.mod_lt _ (by decide)⟩
        { k with v := vset k.v r (putElems k.v[r] (8 * n) (x.idx + 1)
            (fun i => if i = x.idx then some (s.memNat x.addr n) else none)) }
      dataEnd c false s (s.setCore c (l.foldl put k)) (l.map (fun x => (x.addr, n, s.memNat x.addr n)))

/-- The addresses at which the writes of a granule's bytes begin: one write for each contiguous run (11 R306). -/
def runStarts (g : Nat) (l : List (Nat × Nat)) : List Nat :=
  let has (b : Nat) : Bool := l.any (fun p => decide (p.1 ≤ b) && decide (b < p.1 + p.2))
  ((List.range 64).map (64 * g + ·)).filter (fun b => has b && (b % 64 == 0 || !has (b - 1)))

/-- A vector store of elements of n bytes: in ascending element order, so that the highest-numbered one remains; a
granule answered with an error is not written and raises cause 17; an isolated station's stores are discarded (10 R300; 11
R318). -/
def vecStore (c : CoreId) (rd : Fin 32) (n : Nat) (l : List VAcc) (s : State) : Act :=
  match s.vecFault c true n l with
  | some (cause, a, synd) => .fault s cause a (some synd)
  | none =>
    let q := s.coreReq c
    let cut := s.coreCut c
    let val (x : VAcc) : Nat := match (s.core c).v[(rd.val + x.reg) % 32]? with
      | some v => elem v (8 * n) x.idx
      | none => 0
    let spans := l.map (fun x => (x.addr, n))
    let grans := (l.map (fun x => x.addr / 64)).eraseDups
    let t := grans.foldl (fun t g => (runStarts g spans).foldl (fun (t : State) a =>
      let code := accessCode s q true a 1
      if code ≠ 0 && !cut then t.storeError c a code else t) t) s
    let t := l.foldl (fun (t : State) x =>
      if cut || accessCode s q true x.addr n != 0 then t else t.memStore q.src x.addr n (val x)) t
    dataEnd c true s t (l.map (fun x => (x.addr, n, val x)))

/-- The active elements of a plain vector access, element i at g + f i. -/
def plainAccs (o : VecOp) (s : State) (f : Core → Nat → Int) : List VAcc :=
  let k := s.core o.c
  (k.actives o.k (ewBits o.ew)).map (fun i => ⟨i, (k.gr o.ra + BitVec.ofInt 64 (f k i)).toNat, 0⟩)

/-- The bytes of an element. -/
def ewBytes (ew : Fin 4) : Nat := 2 ^ ew.val

/-- Offsets of unit-stride and strided elements. -/
def strideOff (o : VecOp) (strided : Bool) (k : Core) (i : Nat) : Int :=
  if strided then i * (k.gr o.rb).toInt else i * ewBytes o.ew

/-- Offsets of indexed elements. -/
def indexOff (o : VecOp) (k : Core) (i : Nat) : Int := elem k.v[o.rb] (ewBits o.ew) i

/-- VLD: unit-stride or strided. -/
def execVld (o : VecOp) (strided : Bool) (bad : List (Nat × Ecc)) (s : State) : Out :=
  runInstr o.c true s (fun s =>
    if !strided && o.rb != 0 then illegal o.c s
    else vecLoad o.c o.rd (ewBytes o.ew) bad (plainAccs o s (strideOff o strided)) s)

/-- VST. -/
def execVst (o : VecOp) (strided : Bool) (s : State) : Out :=
  runInstr o.c true s (fun s =>
    if !strided && o.rb != 0 then illegal o.c s
    else vecStore o.c o.rd (ewBytes o.ew) (plainAccs o s (strideOff o strided)) s)

/-- VLDX. -/
def execVldx (o : VecOp) (bad : List (Nat × Ecc)) (s : State) : Out :=
  runInstr o.c true s (fun s => vecLoad o.c o.rd (ewBytes o.ew) bad (plainAccs o s (indexOff o)) s)

/-- VSTX. -/
def execVstx (o : VecOp) (s : State) : Out :=
  runInstr o.c true s (fun s => vecStore o.c o.rd (ewBytes o.ew) (plainAccs o s (indexOff o)) s)

/-- The accesses of a structure instruction of nf fields: field j of element i. -/
def segAccs (o : VecOp) (nf : Nat) (s : State) : List VAcc :=
  let k := s.core o.c
  (k.actives o.k (ewBits o.ew)).flatMap (fun i => (List.range nf).map (fun j =>
    ⟨i, (k.gr o.ra + BitVec.ofNat 64 ((i * nf + j) * ewBytes o.ew)).toNat, j⟩))

/-- Is a structure instruction legal: 2 to 4 fields, in registers up to v31, rb 0? nf is the encoded NF − 1. -/
def segOk (o : VecOp) (nf : Fin 4) : Bool := nf != 0 && decide (o.rd.val + nf.val ≤ 31) && o.rb == 0

/-- VLSEG. -/
def execVlseg (o : VecOp) (nf : Fin 4) (bad : List (Nat × Ecc)) (s : State) : Out :=
  runInstr o.c true s (fun s =>
    if segOk o nf then vecLoad o.c o.rd (ewBytes o.ew) bad (segAccs o (nf.val + 1) s) s else illegal o.c s)

/-- VSSEG. -/
def execVsseg (o : VecOp) (nf : Fin 4) (s : State) : Out :=
  runInstr o.c true s (fun s =>
    if segOk o nf then vecStore o.c o.rd (ewBytes o.ew) (segAccs o (nf.val + 1) s) s else illegal o.c s)

end Sys2Proof.Machine
end

