-- ==== Sys2Proof/Machine/Pins.lean ====
section
/-! DEFINITION. The pins: what each does in each mode, the picture that a boundary scan takes, the lands (14 R394 to R397). -/
namespace Sys2Proof.Machine

/-! ### States in each mode (14 R394) -/

/-- A pin that is driven, released to the board's pull-up, toggling, or without power. -/
inductive OutPin where
  | unpowered | low | high | released | toggling
  deriving DecidableEq, Repr

/-- A JESD transmit lane: without power, electrically idle, sending frames of zero samples, or granted ones. -/
inductive LanePin where
  | unpowered | idle | zeroFrames | granted
  deriving DecidableEq, Repr

/-- TX_OWN (13 R351; 14 R394). -/
def State.txOwnPin (s : State) : OutPin :=
  if s.mode = .off then .unpowered else if s.txOwn then .high else .low

/-- HB_OUT_P; HB_OUT_N is its opposite: static is P low, N high (13 R351; 14 R394). -/
def State.hbPin (s : State) : OutPin :=
  if s.mode = .off then .unpowered else if s.heartbeat then .toggling else .low

/-- The enabled transmit link that holds lane l. -/
def State.txLinkOf (s : State) (l : Nat) : Option (Fin 4) :=
  (List.finRange 4).find? (fun k => s.jesd.txEn.getLsbD k.val && (cfgLanes (s.txCfg k.val)).contains l)

/-- JESD_TX lane l: idle in Reset, Bare, Priming and Quiescent and while no link in data holds it; in data it sends granted
samples, and zero ones otherwise, whatever the valve says (08 R231; 14 R394). -/
def State.txLanePin (s : State) (l : Nat) : LanePin :=
  match s.mode, s.txLinkOf l with
  | .off, _ => .unpowered
  | .reset, _ | .bare, _ | .priming, _ | .quiescent, _ => .idle
  | _, none => .idle
  | _, some k => if s.jesd.txSt[k] != 2 then .idle else if s.valve.link[k].granting then .granted else .zeroFrames

/-- EF_IO i: without power in Off, and before Ready output disabled with a weak pull-down (07 R211, R223; 14 R394). -/
def State.efPin (s : State) (i : Fin 48) : PinState :=
  match s.mode with
  | .off => .float
  | .reset | .bare | .priming => .pullDown
  | _ => s.userPin i

/-- THERM_TRIP_N, an open drain: low from a trip until the start-up sequence ends (14 R394, R398). -/
def State.thermTripPin (s : State) : OutPin :=
  if s.mode = .off then .unpowered else if s.wh.trip then .low else .released

/-- SMB_ALERT_N, an open drain: low while a thermal alert stands (14 R394, R398). -/
def State.smbAlertPin (s : State) : OutPin :=
  if s.mode = .off then .unpowered else if s.wh.alert then .low else .released

/-! ### The boundary scan (14 R397; 16 R418)

The pins of the 1.8 V CMOS row in its order: 0 to 47 EF_IO, 48 PERST_N, 49 TX_PERMIT, 50 TAMPER_N, 51 PAIR_SEL, 52 OWN_IN,
53 TX_OWN, 54 TCK, 55 TMS, 56 TDI, 57 TDO, 58 TRST_N. -/

/-- What TX_PERMIT and PAIR_SEL read: the level driven, 0 by the weak pull-down when undriven or left open. The levels that
TX_PERMIT and the start-up sequence carry are such readings (14 R397). -/
def pulledDown (driven : Option Bool) : Bool := driven.getD false

/-- Pin i as the device holds it, if it does; outside: as the board does. EXTEST drives the device's outputs. -/
def State.pinLevel (s : State) (outside : PinPic) (i : Nat) : Bool :=
  let test (own : Bool) : Bool := match s.dbg.drive with
    | some p => p.getLsbD i
    | none => own
  if h : i < 48 then
    (match s.dbg.drive, s.efPin ⟨i, h⟩ with
    | some p, _ => p.getLsbD i
    | none, .drive v => v
    | none, _ => outside.getLsbD i)
  else if i = 48 then !s.wh.perstLow
  else if i = 49 then s.valve.permitPin
  else if i = 50 then !s.wh.tamper
  else if i = 53 then test s.txOwn
  else if i = 57 then test (outside.getLsbD i)
  else outside.getLsbD i

/-- The picture that SAMPLE takes of the 59 pins. -/
def State.pinPicture (s : State) (outside : PinPic) : PinPic :=
  BitVec.ofFnLE (fun i : Fin 64 => decide (i.val < 59) && s.pinLevel outside i.val)

/-! ### Lands (14 R395, R396) -/

/-- Row and column of a land. -/
abbrev Land := Nat × Nat

/-- The ten rails' lands, and ground's (14 R395); the number is the rail's place in the table. -/
def railOf (x : Land) : Option Nat :=
  let (r, c) := x
  let core : Bool := decide (5 ≤ c) && decide (c ≤ 72) && (r + c) % 2 == 0
  let row (a b : Nat) : Bool := decide (a ≤ r) && decide (r ≤ b)
  if core && row 5 40 then some 0
  else if core && row 41 52 then some 1
  else if core && row 53 64 then some 2
  else if core && row 65 68 then some 3
  else if core && row 69 72 then some 4
  else if row 5 38 && (c == 73 || c == 74) then some 5
  else if row 39 72 && (c == 73 || c == 74) then some 6
  else if row 5 12 && c == 75 then some 7
  else if row 13 20 && c == 75 then some 8
  else if row 55 72 && c == 1 then some 9
  else none

/-- The lands of a pair: P, then N beside it. -/
def landPair (r c : Nat) : List Land := [(r, c), (r, c + 1)]

/-- The signal lands, in the table's order (14 R396). -/
def signalLands : List Land :=
  (List.range 16).flatMap (fun l => landPair 2 (5 + 4 * l)) ++ (List.range 16).flatMap (fun l => landPair 4 (5 + 4 * l)) ++
  landPair 2 69 ++ [(4, 69)] ++
  (List.range 8).flatMap (fun j => landPair 1 (5 + 4 * j)) ++ (List.range 8).flatMap (fun j => landPair 3 (5 + 4 * j)) ++
  landPair 1 37 ++ landPair 3 37 ++ [(1, 41), (1, 43), (3, 41)] ++
  (List.range 16).flatMap (fun l => landPair 75 (5 + 4 * l)) ++ (List.range 16).flatMap (fun l => landPair 73 (5 + 4 * l)) ++
  landPair 75 69 ++ landPair 73 69 ++ [(76, 72)] ++ (List.range 48).map (fun n => (5 + n, 2)) ++
  [(5, 4), (6, 4), (10, 4), (12, 4), (14, 4), (15, 4), (16, 4)] ++ (List.range 5).map (fun i => (20 + i, 4)) ++
  [(30, 4), (31, 4), (33, 4), (34, 4)]

/-- Is the land one of VSS: named neither for a rail nor for a signal (14 R395)? -/
def isGround (x : Land) : Bool := (railOf x).isNone && !signalLands.contains x

end Sys2Proof.Machine
end

