-- ==== Sys2Proof/Machine/Dap.lean ====
section
/-! DEFINITION. The test access port: its instructions, register accesses through it, the unlock (16 R418 to R422). -/
namespace Sys2Proof.Machine

/-- Is this instruction available (16 R418)? always: also in Scrapped; locked: also in Deployed while locked. -/
def State.tapAvail (s : State) (always locked : Bool) : Bool :=
  always || s.tapOpen || (locked && s.wh.flash.lc == 1)

/-- The port's instruction and data registers take these values; pins are driven by EXTEST alone. -/
def State.tapLoad (s : State) (ir v : Nat) : State :=
  { s with dbg := { s.dbg with tapIr := ir, tapData := BitVec.ofNat 2048 v, drive := none } }

/-- BYPASS: one bit, captured as 0 (16 R418, IEEE 1149.1). -/
def State.tapBypass (s : State) : State := s.tapLoad 0xFF 0

/-- The instruction with code ir where it is available; otherwise it acts as BYPASS. The port is in the wellhead, which
runs whenever the device is not off. -/
def tapRun (s : State) (always locked : Bool) (f : State → State) : Out :=
  when (s.mode != .off) s (fun s => if s.tapAvail always locked then f s else s.tapBypass)

/-- IDCODE (16 R418). -/
def execIdcode (s : State) : Out :=
  tapRun s true true (fun s =>
    s.tapLoad 0x01 (1 + 2 * Config.jedec.toNat + 2 ^ 12 * 0x2048 + 2 ^ 28 * (s.wh.flash.stepping.toNat % 16)))

/-- SAMPLE: every 1.8 V CMOS pin; pins: as the board holds them (16 R418). -/
def execSample (pins : PinPic) (s : State) : Out := tapRun s false true (fun s => s.tapLoad 0x02 (s.pinPicture pins).toNat)

/-- EXTEST: drives those pins; in Bare and Ready only (16 R418). -/
def execExtest (pins : PinPic) (s : State) : Out :=
  tapRun s false false (fun s =>
    if s.mode = .bare ∨ s.mode = .ready then
      let s := s.tapLoad 0x03 pins.toNat
      { s with dbg := { s.dbg with drive := some pins } }
    else s.tapBypass)

/-- BYPASS (16 R418). -/
def execBypass (s : State) : Out := tapRun s true true State.tapBypass

/-- RESETREQ: Update-DR with 1 (16 R418; 14 R390). -/
def execResetreq (b : Bool) (s : State) : Out :=
  tapRun s false false (fun s =>
    let s := s.tapLoad 0x30 0
    if b then s.resetTo 8 else s)

/-- The port's requester: station 24 (16 R419). -/
def portReq24 : Requester := ⟨24, false, false, false, false⟩

/-- What Capture-DR loads after a DBGREG access: status, response code, data; where no data was read they are free. -/
def State.dbgRegDone (s : State) (status code : Nat) (data : Option Nat) : State :=
  let v := match data with
    | some d => d
    | none => Config.freeNat s.free % 2 ^ 32
  let s := (s.useFree (b2n data.isNone)).tapLoad 0x10 (status + 4 * code + 2 ^ 16 * v)
  { s with dbg := { s.dbg with tapStatus := BitVec.ofNat 4 status } }

/-- DBGREG: a read or write of the DBG register at word offset off, as a request from station 24; while locked only
DBG_LOCK. In Reset the ring does not answer: the access stays in progress (16 R418, R419). -/
def execDbgreg (wr : Bool) (off : BitVec 14) (v : Word) (s : State) : Out :=
  tapRun s false true (fun s =>
    let a := 0x20120000 + 4 * off.toNat
    if !s.tapOpen && a != Reg.dbgLock then s.dbgRegDone 3 0 none
    else if !s.alive then s.dbgRegDone 1 0 none
    else
      let x := s.access portReq24 wr a 4 v.toNat .clean
      let s := logUntagged x.1 portReq24 a x.2.1
      if x.2.1 ≠ 0 then s.dbgRegDone 2 x.2.1 none
      else s.dbgRegDone 0 0 (if wr then none else some x.2.2))

/-- DBGCHAL: a fresh nonce and the serial number (16 R421). -/
def execDbgchal (s : State) : Out :=
  tapRun s false true (fun s =>
    let n := Config.nonce s.free
    let s := (s.useFree 1).tapLoad 0x20 (n.toNat + 2 ^ 256 * s.wh.flash.serial.toNat)
    { s with dbg := { s.dbg with nonce := some n } })

/-- A failed response: FAILS counts, the nonce is discarded, STATE is 0 (16 R421). -/
def State.unlockFail (s : State) : State :=
  { s with dbg := { s.dbg with unlocked := 0, fails := min (s.dbg.fails + 1) 3, nonce := none, respHeld := none } }

/-- DBGRESP: verification begins; without a valid nonce it fails; ignored once FAILS is 3, and while a verification runs or
the device is unlocked (16 R421; log 35). -/
def execDbgresp (slot : Byte) (r sig : BitVec 384) (s : State) : Out :=
  tapRun s false true (fun s =>
    let s := s.tapLoad 0x21 0
    if s.dbg.fails = 3 ∨ s.dbg.unlocked ≠ 0 then s
    else match s.dbg.nonce with
      | none => s.unlockFail
      | some n => { s with dbg := { s.dbg with unlocked := 1, respHeld := some (slot, r, sig, n) } })

/-- Is the response right: a slot of 1 to 3 with a key in the flash, and the key's signature of the SHA-384 digest of the 40
bytes of nonce and serial number (16 R421)? -/
def State.respOk (s : State) (slot : Nat) (r sig : BitVec 384) (nonce : BitVec 256) : Bool :=
  let fl := s.wh.flash
  decide (1 ≤ slot) && decide (slot ≤ 3) && fl.keys.getLsbD slot &&
    (match fl.pub[slot]? with
    | some key => ecdsaOk key (sha384 (leBytes 32 nonce.toNat ++ leBytes 8 fl.serial.toNat)) r sig
    | none => false)

/-- UNLOCK_VERIFY: the verification of the response ends (16 R421). -/
def execUnlockVerify (s : State) : Out :=
  when (s.mode != .off && s.dbg.unlocked == 1) s (fun s =>
    match s.dbg.respHeld with
    | none => s.unlockFail
    | some (slot, r, sig, n) =>
      if s.respOk slot.toNat r sig n then
        ({ s with dbg := { s.dbg with unlocked := 2, slot := slot.setWidth 2, respHeld := none } }).wellheadEvent
      else s.unlockFail)

end Sys2Proof.Machine
end

