-- ==== Sys2Proof/Machine/Dispatch.lean ====
section
/-! DEFINITION. The dispatch: one arm for each command of spec/opcode_table.json. -/
namespace Sys2Proof.Machine

def exec (i : Instr) (s : State) : Host.Outcome State Fault Refusal :=
  match i with
  | .issn c rtn pd ps1 ps2 s0 sv => Sys2Proof.Machine.execIssn c rtn pd ps1 ps2 s0 sv s
  | .issu c rtn pd ps1 ps2 s0 sv => Sys2Proof.Machine.execIssu c rtn pd ps1 ps2 s0 sv s
  | .await c u => Sys2Proof.Machine.execAwait c u s
  | .sread c gd s0 => Sys2Proof.Machine.execSread c gd s0 s
  | .tend c d => Sys2Proof.Machine.execTend c d s
  | .ppset c gs p => Sys2Proof.Machine.execPpset c gs p s
  | .ppget c gd p => Sys2Proof.Machine.execPpget c gd p s
  | .ppadd c p imm => Sys2Proof.Machine.execPpadd c p imm s
  | .add o => Sys2Proof.Machine.execAdd o s
  | .sub o => Sys2Proof.Machine.execSub o s
  | .adc o => Sys2Proof.Machine.execAdc o s
  | .sbc o => Sys2Proof.Machine.execSbc o s
  | .neg o => Sys2Proof.Machine.execNeg o s
  | .abs o => Sys2Proof.Machine.execAbs o s
  | .cmp o => Sys2Proof.Machine.execCmp o s
  | .and o => Sys2Proof.Machine.execAnd o s
  | .or o => Sys2Proof.Machine.execOr o s
  | .xor o => Sys2Proof.Machine.execXor o s
  | .andn o => Sys2Proof.Machine.execAndn o s
  | .shl o => Sys2Proof.Machine.execShl o s
  | .shrl o => Sys2Proof.Machine.execShrl o s
  | .shra o => Sys2Proof.Machine.execShra o s
  | .mul o => Sys2Proof.Machine.execMul o s
  | .mulhu o => Sys2Proof.Machine.execMulhu o s
  | .mulhs o => Sys2Proof.Machine.execMulhs o s
  | .clz o => Sys2Proof.Machine.execClz o s
  | .popc o => Sys2Proof.Machine.execPopc o s
  | .mov o => Sys2Proof.Machine.execMov o s
  | .addi o => Sys2Proof.Machine.execAddi o s
  | .cmpi o => Sys2Proof.Machine.execCmpi o s
  | .andi o => Sys2Proof.Machine.execAndi o s
  | .ori o => Sys2Proof.Machine.execOri o s
  | .xori o => Sys2Proof.Machine.execXori o s
  | .ldiz c rd imm => Sys2Proof.Machine.execLdiz c rd imm s
  | .ldis c rd imm => Sys2Proof.Machine.execLdis c rd imm s
  | .shin c rd imm => Sys2Proof.Machine.execShin c rd imm s
  | .shiftByImmediate c rd ra amount op w => Sys2Proof.Machine.execShiftByImmediate c rd ra amount op w s
  | .dvsetu o => Sys2Proof.Machine.execDvsetu o s
  | .dvsets o => Sys2Proof.Machine.execDvsets o s
  | .dvstep c => Sys2Proof.Machine.execDvstep c s
  | .dvq c rd => Sys2Proof.Machine.execDvq c rd s
  | .dvr c rd => Sys2Proof.Machine.execDvr c rd s
  | .rpt c next => Sys2Proof.Machine.execRpt c next s
  | .lb o => Sys2Proof.Machine.execLb o s
  | .lbu o => Sys2Proof.Machine.execLbu o s
  | .lh o => Sys2Proof.Machine.execLh o s
  | .lhu o => Sys2Proof.Machine.execLhu o s
  | .lw o => Sys2Proof.Machine.execLw o s
  | .lwu o => Sys2Proof.Machine.execLwu o s
  | .ld o => Sys2Proof.Machine.execLd o s
  | .indexedLoad o ev => Sys2Proof.Machine.execIndexedLoad o ev s
  | .sb o => Sys2Proof.Machine.execSb o s
  | .sh o => Sys2Proof.Machine.execSh o s
  | .sw o => Sys2Proof.Machine.execSw o s
  | .sd o => Sys2Proof.Machine.execSd o s
  | .indexedStore o => Sys2Proof.Machine.execIndexedStore o s
  | .rsvlW c rd ra ev => Sys2Proof.Machine.execRsvlW c rd ra ev s
  | .rsvlD c rd ra ev => Sys2Proof.Machine.execRsvlD c rd ra ev s
  | .cndsW c rd ra rb => Sys2Proof.Machine.execCndsW c rd ra rb s
  | .cndsD c rd ra rb => Sys2Proof.Machine.execCndsD c rd ra rb s
  | .bCond c cond off => Sys2Proof.Machine.execBCond c cond off s
  | .br c off => Sys2Proof.Machine.execBr c off s
  | .call c off => Sys2Proof.Machine.execCall c off s
  | .jr c ra => Sys2Proof.Machine.execJr c ra s
  | .callr c ra => Sys2Proof.Machine.execCallr c ra s
  | .loop c off => Sys2Proof.Machine.execLoop c off s
  | .cbz c ra off => Sys2Proof.Machine.execCbz c ra off s
  | .cbnz c ra off => Sys2Proof.Machine.execCbnz c ra off s
  | .mfcr c rd cr => Sys2Proof.Machine.execMfcr c rd cr s
  | .mtcr c ra cr => Sys2Proof.Machine.execMtcr c ra cr s
  | .rfe c => Sys2Proof.Machine.execRfe c s
  | .trap c code word => Sys2Proof.Machine.execTrap c code word s
  | .bkpt c => Sys2Proof.Machine.execBkpt c s
  | .wfi c => Sys2Proof.Machine.execWfi c s
  | .wfiWake c => Sys2Proof.Machine.execWfiWake c s
  | .fence c => Sys2Proof.Machine.execFence c s
  | .ifence c => Sys2Proof.Machine.execIfence c s
  | .mtlc c ra => Sys2Proof.Machine.execMtlc c ra s
  | .mflc c rd => Sys2Proof.Machine.execMflc c rd s
  | .fadd o => Sys2Proof.Machine.execFadd o s
  | .fsub o => Sys2Proof.Machine.execFsub o s
  | .fmul o => Sys2Proof.Machine.execFmul o s
  | .fma o => Sys2Proof.Machine.execFma o s
  | .fsqrt o => Sys2Proof.Machine.execFsqrt o s
  | .fre o => Sys2Proof.Machine.execFre o s
  | .frs o => Sys2Proof.Machine.execFrs o s
  | .fdc o => Sys2Proof.Machine.execFdc o s
  | .fmin o => Sys2Proof.Machine.execFmin o s
  | .fmax o => Sys2Proof.Machine.execFmax o s
  | .fneg o => Sys2Proof.Machine.execFneg o s
  | .fabs o => Sys2Proof.Machine.execFabs o s
  | .fmov o => Sys2Proof.Machine.execFmov o s
  | .fcmp o => Sys2Proof.Machine.execFcmp o s
  | .fcmps o => Sys2Proof.Machine.execFcmps o s
  | .fcvt o => Sys2Proof.Machine.execFcvt o s
  | .fcvth o => Sys2Proof.Machine.execFcvth o s
  | .fcvtb o => Sys2Proof.Machine.execFcvtb o s
  | .fhcvt o => Sys2Proof.Machine.execFhcvt o s
  | .fbcvt o => Sys2Proof.Machine.execFbcvt o s
  | .fcvtis32 o => Sys2Proof.Machine.execFcvtis32 o s
  | .fcvtiu32 o => Sys2Proof.Machine.execFcvtiu32 o s
  | .fcvtis64 o => Sys2Proof.Machine.execFcvtis64 o s
  | .fcvtiu64 o => Sys2Proof.Machine.execFcvtiu64 o s
  | .icvtfs32 o => Sys2Proof.Machine.execIcvtfs32 o s
  | .icvtfu32 o => Sys2Proof.Machine.execIcvtfu32 o s
  | .icvtfs64 o => Sys2Proof.Machine.execIcvtfs64 o s
  | .icvtfu64 o => Sys2Proof.Machine.execIcvtfu64 o s
  | .fmvgf o => Sys2Proof.Machine.execFmvgf o s
  | .fmvfg o => Sys2Proof.Machine.execFmvfg o s
  | .mffs o => Sys2Proof.Machine.execMffs o s
  | .mtfs o => Sys2Proof.Machine.execMtfs o s
  | .flw o => Sys2Proof.Machine.execFlw o s
  | .fld o => Sys2Proof.Machine.execFld o s
  | .fsw o => Sys2Proof.Machine.execFsw o s
  | .fsd o => Sys2Proof.Machine.execFsd o s
  | .vsetl c ew rd ra => Sys2Proof.Machine.execVsetl c ew rd ra s
  | .vadd o => Sys2Proof.Machine.execVadd o s
  | .vsub o => Sys2Proof.Machine.execVsub o s
  | .vmul o => Sys2Proof.Machine.execVmul o s
  | .vand o => Sys2Proof.Machine.execVand o s
  | .vor o => Sys2Proof.Machine.execVor o s
  | .vxor o => Sys2Proof.Machine.execVxor o s
  | .vshl o => Sys2Proof.Machine.execVshl o s
  | .vshrl o => Sys2Proof.Machine.execVshrl o s
  | .vshra o => Sys2Proof.Machine.execVshra o s
  | .vmins o => Sys2Proof.Machine.execVmins o s
  | .vmaxs o => Sys2Proof.Machine.execVmaxs o s
  | .vminu o => Sys2Proof.Machine.execVminu o s
  | .vmaxu o => Sys2Proof.Machine.execVmaxu o s
  | .vcmpeq o => Sys2Proof.Machine.execVcmpeq o s
  | .vcmplts o => Sys2Proof.Machine.execVcmplts o s
  | .vcmpltu o => Sys2Proof.Machine.execVcmpltu o s
  | .vredsum o => Sys2Proof.Machine.execVredsum o s
  | .vfadd o => Sys2Proof.Machine.execVfadd o s
  | .vfsub o => Sys2Proof.Machine.execVfsub o s
  | .vfmul o => Sys2Proof.Machine.execVfmul o s
  | .vfma o => Sys2Proof.Machine.execVfma o s
  | .vfsqrt o => Sys2Proof.Machine.execVfsqrt o s
  | .vfre o => Sys2Proof.Machine.execVfre o s
  | .vfrs o => Sys2Proof.Machine.execVfrs o s
  | .vfdc o => Sys2Proof.Machine.execVfdc o s
  | .vfmin o => Sys2Proof.Machine.execVfmin o s
  | .vfmax o => Sys2Proof.Machine.execVfmax o s
  | .vfcmpeq o => Sys2Proof.Machine.execVfcmpeq o s
  | .vfcmplt o => Sys2Proof.Machine.execVfcmplt o s
  | .vfcmple o => Sys2Proof.Machine.execVfcmple o s
  | .vfcvti o => Sys2Proof.Machine.execVfcvti o s
  | .vficvt o => Sys2Proof.Machine.execVficvt o s
  | .vfredsum o => Sys2Proof.Machine.execVfredsum o s
  | .vbcast o => Sys2Proof.Machine.execVbcast o s
  | .vbcastg o => Sys2Proof.Machine.execVbcastg o s
  | .vmov o => Sys2Proof.Machine.execVmov o s
  | .vsel o => Sys2Proof.Machine.execVsel o s
  | .kand o => Sys2Proof.Machine.execKand o s
  | .kor o => Sys2Proof.Machine.execKor o s
  | .kxor o => Sys2Proof.Machine.execKxor o s
  | .kandn o => Sys2Proof.Machine.execKandn o s
  | .kmovg o => Sys2Proof.Machine.execKmovg o s
  | .kmovk o => Sys2Proof.Machine.execKmovk o s
  | .kpopc o => Sys2Proof.Machine.execKpopc o s
  | .kfirst o => Sys2Proof.Machine.execKfirst o s
  | .vld o strided bad => Sys2Proof.Machine.execVld o strided bad s
  | .vst o strided => Sys2Proof.Machine.execVst o strided s
  | .vldx o bad => Sys2Proof.Machine.execVldx o bad s
  | .vstx o => Sys2Proof.Machine.execVstx o s
  | .vlseg o nf bad => Sys2Proof.Machine.execVlseg o nf bad s
  | .vsseg o nf => Sys2Proof.Machine.execVsseg o nf s
  | .microword x => Sys2Proof.Machine.execMicroword x s
  | .wellCommit => Sys2Proof.Machine.execWellCommit s
  | .planeSwap x => Sys2Proof.Machine.execPlaneSwap x s
  | .sumpResult parity => Sys2Proof.Machine.execSumpResult parity s
  | .sRegisterValid => Sys2Proof.Machine.execSRegisterValid s
  | .tapCollect => Sys2Proof.Machine.execTapCollect s
  | .scrubOperation upset => Sys2Proof.Machine.execScrubOperation upset s
  | .dispatchPreparation => Sys2Proof.Machine.execDispatchPreparation s
  | .dispatch => Sys2Proof.Machine.execDispatch s
  | .preemption => Sys2Proof.Machine.execPreemption s
  | .commitOverrun => Sys2Proof.Machine.execCommitOverrun s
  | .fieldClear f => Sys2Proof.Machine.execFieldClear f s
  | .fieldLive f => Sys2Proof.Machine.execFieldLive f s
  | .fieldDry f => Sys2Proof.Machine.execFieldDry f s
  | .controlStoreWrite q off wide v => Sys2Proof.Machine.execControlStoreWrite q off wide v s
  | .dispEn q on => Sys2Proof.Machine.execDispEn q on s
  | .entryAccepted => Sys2Proof.Machine.execEntryAccepted s
  | .ovlAdd q => Sys2Proof.Machine.execOvlAdd q s
  | .ovlLog q => Sys2Proof.Machine.execOvlLog q s
  | .ovlClear q => Sys2Proof.Machine.execOvlClear q s
  | .logAppendComplete => Sys2Proof.Machine.execLogAppendComplete s
  | .tileCtlInj q t v => Sys2Proof.Machine.execTileCtlInj q t v s
  | .tileorSnapshot q => Sys2Proof.Machine.execTileorSnapshot q s
  | .latchedHighRead q a => Sys2Proof.Machine.execLatchedHighRead q a s
  | .readClear q a ev => Sys2Proof.Machine.execReadClear q a ev s
  | .registerWrite q a v ev => Sys2Proof.Machine.execRegisterWrite q a v ev s
  | .tickCtl q v => Sys2Proof.Machine.execTickCtl q v s
  | .tickPeriod q v => Sys2Proof.Machine.execTickPeriod q v s
  | .tickFrameLen q v => Sys2Proof.Machine.execTickFrameLen q v s
  | .sysrefCapture d => Sys2Proof.Machine.execSysrefCapture d s
  | .tickBoundary tie => Sys2Proof.Machine.execTickBoundary tie s
  | .lateWarning tie => Sys2Proof.Machine.execLateWarning tie s
  | .devclkLost => Sys2Proof.Machine.execDevclkLost s
  | .devclkPresent khz => Sys2Proof.Machine.execDevclkPresent khz s
  | .issueRetire => Sys2Proof.Machine.execIssueRetire s
  | .awaitRetire => Sys2Proof.Machine.execAwaitRetire s
  | .sreadRetire => Sys2Proof.Machine.execSreadRetire s
  | .tendRetire d => Sys2Proof.Machine.execTendRetire d s
  | .pumpTail q f v => Sys2Proof.Machine.execPumpTail q f v s
  | .descriptorFetch f ecc => Sys2Proof.Machine.execDescriptorFetch f ecc s
  | .pumpPlaneShifted f bad portA => Sys2Proof.Machine.execPumpPlaneShifted f bad portA s
  | .descriptorComplete f => Sys2Proof.Machine.execDescriptorComplete f s
  | .pumpResume q f => Sys2Proof.Machine.execPumpResume q f s
  | .pumpFlush q f => Sys2Proof.Machine.execPumpFlush q f s
  | .cisternPwr q k v => Sys2Proof.Machine.execCisternPwr q k v s
  | .bankStateChangeEnd n => Sys2Proof.Machine.execBankStateChangeEnd n s
  | .cisternPortbOwner q hi v => Sys2Proof.Machine.execCisternPortbOwner q hi v s
  | .ownerChangeEffective n => Sys2Proof.Machine.execOwnerChangeEffective n s
  | .cwReq p a v be portA => Sys2Proof.Machine.execCwReq p a v be portA s
  | .cwDone p => Sys2Proof.Machine.execCwDone p s
  | .crReq p a => Sys2Proof.Machine.execCrReq p a s
  | .crDvalid p ecc => Sys2Proof.Machine.execCrDvalid p ecc s
  | .wipe q => Sys2Proof.Machine.execWipe q s
  | .wipeComplete ok => Sys2Proof.Machine.execWipeComplete ok s
  | .tamperN low => Sys2Proof.Machine.execTamperN low s
  | .voltageGlitch rail => Sys2Proof.Machine.execVoltageGlitch rail s
  | .clockGlitch => Sys2Proof.Machine.execClockGlitch s
  | .load q => Sys2Proof.Machine.execLoad q s
  | .reload q bay atTick => Sys2Proof.Machine.execReload q bay atTick s
  | .start q atTick => Sys2Proof.Machine.execStart q atTick s
  | .stop q => Sys2Proof.Machine.execStop q s
  | .configurationFrame ecc g => Sys2Proof.Machine.execConfigurationFrame ecc g s
  | .fabricRunning d => Sys2Proof.Machine.execFabricRunning d s
  | .bayIsolation d => Sys2Proof.Machine.execBayIsolation d s
  | .bayRelease d => Sys2Proof.Machine.execBayRelease d s
  | .backgroundCheck seq upset => Sys2Proof.Machine.execBackgroundCheck seq upset s
  | .gclkFast n mhz => Sys2Proof.Machine.execGclkFast n mhz s
  | .serDataWrite q n v => Sys2Proof.Machine.execSerDataWrite q n v s
  | .serDataRead q n => Sys2Proof.Machine.execSerDataRead q n s
  | .serCtl q n v => Sys2Proof.Machine.execSerCtl q n v s
  | .serialByteSent n nack => Sys2Proof.Machine.execSerialByteSent n nack s
  | .serialByteReceived n b => Sys2Proof.Machine.execSerialByteReceived n b s
  | .jesdCtl q v => Sys2Proof.Machine.execJesdCtl q v s
  | .rxLaneLock l headers crcBad => Sys2Proof.Machine.execRxLaneLock l headers crcBad s
  | .lossOfLock l headers crcBad => Sys2Proof.Machine.execLossOfLock l headers crcBad s
  | .lemcBoundary d crcBad => Sys2Proof.Machine.execLemcBoundary d crcBad s
  | .rxRelease k d samples crcBad headBad => Sys2Proof.Machine.execRxRelease k d samples crcBad headBad s
  | .burstRequest k d samples => Sys2Proof.Machine.execBurstRequest k d samples s
  | .burstTruncation k samples => Sys2Proof.Machine.execBurstTruncation k samples s
  | .valveClose d => Sys2Proof.Machine.execValveClose d s
  | .valveOpen d => Sys2Proof.Machine.execValveOpen d s
  | .slotBoundary d => Sys2Proof.Machine.execSlotBoundary d s
  | .txPermit level d late => Sys2Proof.Machine.execTxPermit level d late s
  | .limitWrite off v => Sys2Proof.Machine.execLimitWrite off v s
  | .valveLock => Sys2Proof.Machine.execValveLock s
  | .valveShut q v => Sys2Proof.Machine.execValveShut q v s
  | .interrupt c => Sys2Proof.Machine.execInterrupt c s
  | .wdogCtl q c v => Sys2Proof.Machine.execWdogCtl q c v s
  | .wdogKick q c v => Sys2Proof.Machine.execWdogKick q c v s
  | .coreWatchdogExpiry c => Sys2Proof.Machine.execCoreWatchdogExpiry c s
  | .irqSet q c v => Sys2Proof.Machine.execIrqSet q c v s
  | .seqcoreRelGo q => Sys2Proof.Machine.execSeqcoreRelGo q s
  | .request r => Sys2Proof.Machine.execRequest r s
  | .response waiting parity => Sys2Proof.Machine.execResponse waiting parity s
  | .snoop x => Sys2Proof.Machine.execSnoop x s
  | .urgencyAging net n => Sys2Proof.Machine.execUrgencyAging net n s
  | .isolation s0 unanswered => Sys2Proof.Machine.execIsolation s0 unanswered s
  | .drainEnd s0 unanswered => Sys2Proof.Machine.execDrainEnd s0 unanswered s
  | .flip q => Sys2Proof.Machine.execFlip q s
  | .hostAccess winb off write len v bad => Sys2Proof.Machine.execHostAccess winb off write len v bad s
  | .doorbell r tail => Sys2Proof.Machine.execDoorbell r tail s
  | .commandStart s0 => Sys2Proof.Machine.execCommandStart s0 s
  | .ringEnable ring v written => Sys2Proof.Machine.execRingEnable ring v written s
  | .event code v written => Sys2Proof.Machine.execEvent code v written s
  | .msixSend q vec => Sys2Proof.Machine.execMsixSend q vec s
  | .identify buf len dmaOk => Sys2Proof.Machine.execIdentify buf len dmaOk s
  | .status => Sys2Proof.Machine.execStatus s
  | .lcQuery => Sys2Proof.Machine.execLcQuery s
  | .prime img => Sys2Proof.Machine.execPrime img s
  | .fwCommit => Sys2Proof.Machine.execFwCommit s
  | .wlLoad img => Sys2Proof.Machine.execWlLoad img s
  | .fabricStart atTick => Sys2Proof.Machine.execFabricStart atTick s
  | .fabricStop => Sys2Proof.Machine.execFabricStop s
  | .bayReload bay frames dmaOk => Sys2Proof.Machine.execBayReload bay frames dmaOk s
  | .linkUp timeoutMs => Sys2Proof.Machine.execLinkUp timeoutMs s
  | .run role => Sys2Proof.Machine.execRun role s
  | .stopRun => Sys2Proof.Machine.execStopRun s
  | .dataWrite dst content dmaOk => Sys2Proof.Machine.execDataWrite dst content dmaOk s
  | .dataRead src len dmaOk bad => Sys2Proof.Machine.execDataRead src len dmaOk bad s
  | .seed s0 => Sys2Proof.Machine.execSeed s0 s
  | .selftestFull repair log => Sys2Proof.Machine.execSelftestFull repair log s
  | .selftestSlack => Sys2Proof.Machine.execSelftestSlack s
  | .quiesce => Sys2Proof.Machine.execQuiesce s
  | .user params res0 res1 => Sys2Proof.Machine.execUser params res0 res1 s
  | .hostifBReset v => Sys2Proof.Machine.execHostifBReset v s
  | .functionLevelReset => Sys2Proof.Machine.execFunctionLevelReset s
  | .perstN => Sys2Proof.Machine.execPerstN s
  | .hostifBLcReq v => Sys2Proof.Machine.execHostifBLcReq v s
  | .lifeCycleReset wipeOk => Sys2Proof.Machine.execLifeCycleReset wipeOk s
  | .primingTimeout => Sys2Proof.Machine.execPrimingTimeout s
  | .hello h retx => Sys2Proof.Machine.execHello h retx s
  | .helloTimeout => Sys2Proof.Machine.execHelloTimeout s
  | .arm retx => Sys2Proof.Machine.execArm retx s
  | .joinMsg n phase frame inframe retx => Sys2Proof.Machine.execJoinMsg n phase frame inframe retx s
  | .ckpt f regions crcs ended retx => Sys2Proof.Machine.execCkpt f regions crcs ended retx s
  | .faultMsg d retx => Sys2Proof.Machine.execFaultMsg d retx s
  | .stepdown boundary d retx => Sys2Proof.Machine.execStepdown boundary d retx s
  | .fwd t x code retx => Sys2Proof.Machine.execFwd t x code retx s
  | .ack t retx => Sys2Proof.Machine.execAck t retx s
  | .digest tick value retx => Sys2Proof.Machine.execDigest tick value retx s
  | .heartbeatSilence d => Sys2Proof.Machine.execHeartbeatSilence d s
  | .ownInTimeout => Sys2Proof.Machine.execOwnInTimeout s
  | .takeover d => Sys2Proof.Machine.execTakeover d s
  | .ownershipConflict => Sys2Proof.Machine.execOwnershipConflict s
  | .twinLinkDown => Sys2Proof.Machine.execTwinLinkDown s
  | .digestLate => Sys2Proof.Machine.execDigestLate s
  | .mirrorDeadline => Sys2Proof.Machine.execMirrorDeadline s
  | .twinCkptGo q => Sys2Proof.Machine.execTwinCkptGo q s
  | .checkpointComplete ended => Sys2Proof.Machine.execCheckpointComplete ended s
  | .enterLockstep => Sys2Proof.Machine.execEnterLockstep s
  | .resyncFail => Sys2Proof.Machine.execResyncFail s
  | .handover d => Sys2Proof.Machine.execHandover d s
  | .powerFldReq q v => Sys2Proof.Machine.execPowerFldReq q v s
  | .fieldSwitchEnd f => Sys2Proof.Machine.execFieldSwitchEnd f s
  | .bcastReq q on => Sys2Proof.Machine.execBcastReq q on s
  | .edgeReq q on ready => Sys2Proof.Machine.execEdgeReq q on ready s
  | .powerOn => Sys2Proof.Machine.execPowerOn s
  | .vddAonRemoved => Sys2Proof.Machine.execVddAonRemoved s
  | .startUpSequence x => Sys2Proof.Machine.execStartUpSequence x s
  | .wake => Sys2Proof.Machine.execWake s
  | .thermalSample temps => Sys2Proof.Machine.execThermalSample temps s
  | .wellheadWdog q v => Sys2Proof.Machine.execWellheadWdog q v s
  | .wellheadWdogKick q v => Sys2Proof.Machine.execWellheadWdogKick q v s
  | .wellheadWatchdogExpiry => Sys2Proof.Machine.execWellheadWatchdogExpiry s
  | .faultHoldEntry => Sys2Proof.Machine.execFaultHoldEntry s
  | .selftestComplete r => Sys2Proof.Machine.execSelftestComplete r s
  | .slackRoutine x => Sys2Proof.Machine.execSlackRoutine x s
  | .idcode => Sys2Proof.Machine.execIdcode s
  | .sample pins => Sys2Proof.Machine.execSample pins s
  | .extest pins => Sys2Proof.Machine.execExtest pins s
  | .dbgreg wr off v => Sys2Proof.Machine.execDbgreg wr off v s
  | .dbgchal => Sys2Proof.Machine.execDbgchal s
  | .dbgresp slot r s0 => Sys2Proof.Machine.execDbgresp slot r s0 s
  | .unlockVerify => Sys2Proof.Machine.execUnlockVerify s
  | .resetreq b => Sys2Proof.Machine.execResetreq b s
  | .bypass => Sys2Proof.Machine.execBypass s
  | .halt q c => Sys2Proof.Machine.execHalt q c s
  | .coreHalt c => Sys2Proof.Machine.execCoreHalt c s
  | .resume q c => Sys2Proof.Machine.execResume q c s
  | .step q c => Sys2Proof.Machine.execStep q c s
  | .stepBlocked c => Sys2Proof.Machine.execStepBlocked c s
  | .dbgMemoryGo c => Sys2Proof.Machine.execDbgMemoryGo c s
  | .dbgReg q c hi wr v => Sys2Proof.Machine.execDbgReg q c hi wr v s
  | .mstep q => Sys2Proof.Machine.execMstep q s
  | .freeze q on => Sys2Proof.Machine.execFreeze q on s
  | .dbgTxd q c wr b => Sys2Proof.Machine.execDbgTxd q c wr b s
  | .dbgRxd q c wr b => Sys2Proof.Machine.execDbgRxd q c wr b s
  | .burstRequestEnd k samples => Sys2Proof.Machine.execBurstRequestEnd k samples s
  | .valveBlockBoundary d => Sys2Proof.Machine.execValveBlockBoundary d s
  | .ownInChange level d => Sys2Proof.Machine.execOwnInChange level d s
  | .twinLinkUp => Sys2Proof.Machine.execTwinLinkUp s
  | .endOfExtendedMultiblockMarker l crcBad => Sys2Proof.Machine.execEndOfExtendedMultiblockMarker l crcBad s
  | .tapClockEdge passed trees pins => Sys2Proof.Machine.execTapClockEdge passed trees pins s
  | .perstNRelease => Sys2Proof.Machine.execPerstNRelease s
  | .linkUpTimeout => Sys2Proof.Machine.execLinkUpTimeout s
  | .checkpointCopyEnd => Sys2Proof.Machine.execCheckpointCopyEnd s

end Sys2Proof.Machine
end

