-- ==== Sys2Proof/Safety.lean ====
section
/-! DEFINITION. What claims are stated in: canonical storage, the transitions between modes, a core that is about to run
an instruction, runs of many steps. -/
namespace Sys2Proof.Machine

/-- Memory in canonical form: addresses strictly rising, no entry equal to what an unlisted address reads as. -/
def State.memWf (s : State) : Bool := swf memDefault s.mem

/-- Stored registers in canonical form. -/
def State.regsWf (s : State) : Bool := swf regDefault s.regs

/-- The transitions that 14 R379 lists, with staying in a mode. -/
def modeStep (m m' : Mode) : Bool := m' == m || legalMode m m'

/-- Core c is about to run an instruction: it may retire, no interrupt is due, the fetch is answered, and no instruction
break matches (09 R250, R260, R261; 16 R431). -/
def State.ready (s : State) (c : CoreId) : Bool :=
  s.coreFree c && !s.intDue c && (s.fetchFault c).isNone &&
    ((s.core c).skips || (s.iMatches c (s.core c).ipc).isEmpty)

/-- The same, outside a repetition: for instructions that RPT does not repeat (09 R259). -/
def State.readyOnce (s : State) (c : CoreId) : Bool := s.ready c && !(s.core c).rpt

/-- Core c as its instruction finds it: the one break that a resume skips has been skipped (16 R427). -/
def State.head (s : State) (c : CoreId) : Core := (s.core c).skipped

/-- Core k after an instruction that gives rd the w-bit value r and sets the flags N, Z, C and V, and retires
(09 R254: W results are sign-extended). -/
def Core.gives (k : Core) (w : Bool) (rd : Fin 32) (r : Nat) (n z c v : Bool) : Core :=
  (((((k.gw rd (wres w r)).setPs 3 n).setPs 2 z).setPs 1 c).setPs 0 v).retire

/-- The value of a w-bit number read as two's complement lies outside the w-bit signed range. -/
def overflows (w : Bool) (x : Int) : Bool := decide (x < -(2 ^ (wid w - 1) : Nat) ∨ (2 ^ (wid w - 1) : Nat) ≤ x)

/-- Core k after a division has been set up: dividend a, divisor b of w bits (09 R257). -/
def Core.divided (k : Core) (w signed : Bool) (a b : Nat) : Core :=
  (((({ k with
    dvQ := BitVec.ofNat 64 a
    dvR := BitVec.ofNat 64 b
    dvSt := BitVec.ofNat 64 (2 ^ 62 * b2n w + 2 ^ 63 * b2n signed) } : Core).setPs 3 false).setPs 2 false).setPs 1
      (decide (b = 0))).setPs 0 (signed && decide (a = 2 ^ (wid w - 1)) && decide (b = 2 ^ wid w - 1))

/-- A 32-bit access by q to the register at a reaches it: the control die runs and no rule refuses it (11 R315). -/
def State.admitted (s : State) (q : Requester) (write : Bool) (a : Nat) : Bool := s.alive && accessCode s q write a 4 == 0

/-- The command with this opcode is in execution, and the ROM or firmware executes it outside Fault-hold (12 R333). -/
def State.executing (s : State) (op : Nat) : Bool := s.serving op && s.serves && s.mode != .faultHold

/-- The command that s has in execution has its one reply in t, with this status and these results where they are named:
written to the reply ring, or held where its write fails (12 R333, R334). -/
def answered (s t : State) (status : Nat) (res0 res1 : Option Dbl) : Prop :=
  ∃ (c : CurCmd) (x : Reply), s.host.cur = some c ∧ t.host.cur = none ∧ x.status = BitVec.ofNat 16 status ∧
    x.tag = c.slot.tag ∧ x.opcode = c.slot.opcode ∧ x.seq = c.slot.seq ∧ x.ring = c.ring ∧
    (∀ v, res0 = some v → x.res0 = v) ∧ (∀ v, res1 = some v → x.res1 = v) ∧
    (if c.slot.replyOk then t.host.replies = s.host.replies ++ [x]
      else t.host.held = some x ∧ t.host.replies = s.host.replies)

/-- n steps; none where one of them stops. -/
def runSteps : Nat → State → Option State
  | 0, s => some s
  | n + 1, s => match step s with
    | .next t => runSteps n t
    | _ => none

end Sys2Proof.Machine
end

