-- ==== Sys2Proof/WellFormed.lean ====
section
/-! DEFINITION. Which commands are well formed: the operand ranges that the types of Syntax.lean do not already hold. Every
meaning is total; what lies outside these ranges has no counterpart outside the block. -/
namespace Sys2Proof

/-- The bytes from a to a + len − 1, 1 to 64 of them, lie in one aligned 64-byte granule (11 R306). -/
def oneGranule (a len : Nat) : Bool := 1 ≤ len && len ≤ 64 && a % 64 + len ≤ 64

/-- A requester is one of the 32 ring stations (11 R304, R306). -/
def Requester.wf (q : Requester) : Bool := q.src < 32

/-- A request has an operation and a length that the format has (11 R306). -/
def ReqFlit.wf (r : ReqFlit) : Bool := r.who.wf && oneGranule r.addr.toNat r.len

/-- The link settings hold one word for each of the four links (08 R225). -/
def JesdSet.wf (j : JesdSet) : Bool := j.rx.length == 4 && j.tx.length == 4 && j.rbd.length == 4

/-- A HELLO holds the 14 words of link settings and no more than 64 checkpoint regions (13 R353, R354, R369). -/
def Hello.wf (h : Hello) : Bool := h.links.length == 14 && h.ckptTable.length ≤ 64

/-- A mirrored input's parts fit their command slots (12 R335; 13 R358). -/
def Mirrored.wf : Mirrored → Bool
  | .data _ content => content.length ≤ 2 ^ 24
  | .seed _ => true
  | .user opcode params => 0x1000 ≤ opcode.toNat && opcode.toNat ≤ 0x7FFF && params.length ≤ 48
  | .bay _ _ => true

/-- The requester of a command that a ring station sends, if it is one. -/
def Instr.requester? : Instr → Option Requester
  | .controlStoreWrite q _ _ _ | .dispEn q _ | .ovlAdd q | .ovlLog q | .ovlClear q | .tileCtlInj q _ _
  | .tileorSnapshot q | .latchedHighRead q _ | .readClear q _ _ | .registerWrite q _ _ _ | .tickCtl q _
  | .tickPeriod q _ | .tickFrameLen q _ | .pumpTail q _ _ | .pumpResume q _ | .pumpFlush q _ | .cisternPwr q _ _
  | .cisternPortbOwner q _ _ | .wipe q | .load q | .reload q _ _ | .start q _ | .stop q | .serDataWrite q _ _
  | .serDataRead q _ | .serCtl q _ _ | .jesdCtl q _ | .valveShut q _ | .wdogCtl q _ _ | .wdogKick q _ _
  | .irqSet q _ _ | .seqcoreRelGo q | .flip q | .msixSend q _ | .twinCkptGo q | .powerFldReq q _ | .bcastReq q _
  | .edgeReq q _ _ | .wellheadWdog q _ | .wellheadWdogKick q _ | .halt q _ | .resume q _ | .step q _
  | .dbgReg q _ _ _ _ | .mstep q | .freeze q _ | .dbgTxd q _ _ _ | .dbgRxd q _ _ _ => some q
  | _ => none

/-- The checks of the operands that only one command has. -/
def Instr.operandsWf : Instr → Bool
  | .request r => r.wf
  | .hostAccess _ _ write len v _ => 1 ≤ len && (if write then len ≤ 512 && v.length == len else len ≤ 4096)
  | .snoop x => 1 ≤ x.ty.toNat && x.ty.toNat ≤ 5
  | .commandStart x => x.params.length == 48
  | .limitWrite off _ => off.toNat % 4 == 0
  | .dbgreg _ off _ => off.toNat % 4 == 0
  | .thermalSample temps => temps.length == 64
  | .identify _ len _ => len < 2 ^ 32
  | .linkUp ms => ms < 2 ^ 32
  | .wlLoad img => match img.jesd with
    | some j => j.wf
    | none => true
  | .hello h _ => h.wf
  | .fwd _ x _ _ => x.wf
  | .user params _ _ => params.length ≤ 48
  | _ => true

/-- Is the command well formed? -/
def Instr.wf (i : Instr) : Bool := i.requester?.all Requester.wf && i.operandsWf

end Sys2Proof
end

