-- ==== Sys2Proof/Certificates/Slice0/Obligations.lean ====
section
/-! DEFINITION. The statements for the provers. k is core c as its instruction finds it (State.head); a statement about an
instruction says of a core that is ready (State.ready) which state exec answers. -/
open Sys2Proof Sys2Proof.Machine

/-! ### The block as a whole -/

/-- A step takes the command at the front of the queue and runs exec on it with the queue's rest; on an empty queue the
block idles (the model's choice, log 1). -/
def Obligations.StepRunsFrontCommand : Prop :=
  (∀ (s : State) (c : Instr) (rest : List Instr),
    step { s with pending := c :: rest } = exec c { s with pending := rest }) ∧
  (∀ s : State, s.pending = [] → step s = .next s)

/-- Every command completes: exec always answers a next state, and leaves the queue to the step (logs 1, 5).
A queue is worked off first in, first out: n commands in n steps, none of which stops, and what stands behind them
stays queued in its order; a step leaves the rest of the queue as it was. -/
def Obligations.QueueServedInOrder : Prop :=
  (∀ (i : Instr) (s : State), ∃ t, exec i s = .next t ∧ t.pending = s.pending) ∧
  ((∀ (l rest : List Instr) (s : State), ∃ t, runSteps l.length { s with pending := l ++ rest } = some t ∧ t.pending = rest) ∧
  (∀ s t : State, step s = .next t → t.pending = s.pending.tail))

/-- The mode changes only along the transitions that R379 lists, whatever the command: every other pair of modes is shut
out, for one command and for one step. Here src and dst are the modes before and after. -/
def Obligations.ModeChangesOnlyAsListed : Prop :=
  let listed (src dst : Mode) : Prop :=
    dst = .off ∨ (src = .off ∧ dst = .reset) ∨ (src ≠ .off ∧ dst = .reset) ∨ (src = .reset ∧ dst = .bare) ∨
    (src ≠ .off ∧ src ≠ .reset ∧ dst = .faultHold) ∨ (src = .bare ∧ dst = .priming) ∨
    (src = .priming ∧ (dst = .ready ∨ dst = .bare)) ∨
    (src = .ready ∧ (dst = .solo ∨ dst = .active ∨ dst = .shadow ∨ dst = .selfTest ∨ dst = .quiescent ∨ dst = .halted)) ∨
    (src = .selfTest ∧ dst = .ready) ∨ (src = .quiescent ∧ dst = .ready) ∨
    (src = .solo ∧ (dst = .ready ∨ dst = .halted)) ∨ (src = .active ∧ (dst = .ready ∨ dst = .halted)) ∨
    (src = .shadow ∧ (dst = .ready ∨ dst = .active ∨ dst = .halted)) ∨
    (src = .halted ∧ (dst = .ready ∨ dst = .solo))
  (∀ (i : Instr) (s t : State), exec i s = .next t → t.mode = s.mode ∨ listed s.mode t.mode) ∧
  (∀ s t : State, step s = .next t → t.mode = s.mode ∨ listed s.mode t.mode)

/-- No workload runs on a device that has not been primed: whatever commands come, a run of any length from Off or Reset
that ends in Solo, Active, Shadow or Self-test has been in Bare, later in Priming and later in Ready. -/
def Obligations.NoRunWithoutPriming : Prop :=
  ∀ (n : Nat) (s t : State), runSteps n s = some t → (s.mode = .off ∨ s.mode = .reset) →
    (t.mode = .solo ∨ t.mode = .active ∨ t.mode = .shadow ∨ t.mode = .selfTest) →
    ∃ (a b c : Nat) (x y z : State), a < b ∧ b < c ∧ c < n ∧ runSteps a s = some x ∧ x.mode = .bare ∧
      runSteps b s = some y ∧ y.mode = .priming ∧ runSteps c s = some z ∧ z.mode = .ready

/-! ### The cores: registers, retirement, repetition (09 R246 to R249, R259) -/

/-- g0 reads 0 and discards what is written; a written register reads back and every other keeps its value; g31 names the
supervisor stack pointer while S = 1 and the task stack pointer while S = 0; supervisor code reaches the task copy as CR3;
an exception frame goes on the supervisor stack, 64 bytes below it, whatever S was. -/
def Obligations.GeneralRegisters : Prop :=
  (∀ (k : Core) (i j : Fin 32) (v : Dbl),
    k.gr 0 = 0 ∧ k.gw 0 v = k ∧ (i ≠ 0 → (k.gw i v).gr i = v) ∧ (j ≠ i → (k.gw i v).gr j = k.gr j)) ∧
  (∀ (k : Core) (v : Dbl),
    (k.sup = true → k.gr 31 = k.ssp ∧ (k.gw 31 v).ssp = v ∧ (k.gw 31 v).g = k.g) ∧
    (k.sup = false → k.gr 31 = k.g[31] ∧ (k.gw 31 v).g[31] = v ∧ (k.gw 31 v).ssp = k.ssp) ∧
    k.crRead 3 = some k.g[31] ∧ ∃ k', k.crWrite 3 v = some k' ∧ k'.g[31] = v ∧ k'.ssp = k.ssp) ∧
  (∀ (s : State) (c : CoreId) (cause faddr : Nat) (synd : Option Nat),
    frameOk s c true ((s.core c).ssp - 64).toNat = true →
    ((s.exc c cause faddr synd).core c).ssp = (s.core c).ssp - 64 ∧
    ((s.exc c cause faddr synd).core c).g = (s.core c).g)

/-- Retirement outside a repetition goes on 4 bytes further; in one it counts lc down and ends the repetition, 8 bytes
further, when lc has become 0. Either way one more instruction has retired, a step ends, and nothing else of the core
changes but the program counter, lc and the marks of repetition and halt.
RPT with lc = 0 skips the instruction that follows; otherwise that instruction is repeated: the prefix stays the
program counter, so that an interrupt or exception in between returns to it. Before an instruction that writes lc,
transfers control, or is a system, array-group or RPT instruction, RPT is illegal: cause 2 with the pc at the prefix and
nothing executed. -/
def Obligations.RetirementAndRepetition : Prop :=
  (∀ k : Core,
    (k.rpt = false → k.retire.pc = k.pc + 4 ∧ k.retire.lc = k.lc ∧ k.retire.rpt = false) ∧
    (k.rpt = true → k.retire.lc = k.lc - 1 ∧
      (k.lc = 1 → k.retire.pc = k.pc + 8 ∧ k.retire.rpt = false) ∧
      (k.lc ≠ 1 → k.retire.pc = k.pc ∧ k.retire.rpt = true)) ∧
    k.retire.ret = k.ret + 1 ∧
    (k.stepping = true → k.haltReq = 0 → k.retire.haltReq = 5) ∧ (k.stepping = false → k.retire.haltReq = k.haltReq) ∧
    { k.retire with pc := k.pc, lc := k.lc, rpt := k.rpt, ret := k.ret, haltReq := k.haltReq } = k) ∧
  (∀ (c : CoreId) (next : Word) (s : State), s.readyOnce c = true →
    let k := s.head c
    (notRepeatable next = false → k.lc = 0 → exec (.rpt c next) s = .next (s.setCore c { k.retire with pc := k.pc + 8 })) ∧
    (notRepeatable next = false → k.lc ≠ 0 →
      exec (.rpt c next) s = .next (s.setCore c { k with rpt := true, ret := k.ret + 1 })) ∧
    (notRepeatable next = true → exec (.rpt c next) s = .next ((s.setCore c k).exc c 2 k.pc.toNat none)))

/-! ### Integer instructions (09 R252, R254 to R258) -/

/-- ADD, SUB, ADC, SBC, CMP, ADDI and CMPI: the wrapped result, sign-extended for W; N and Z of it; C the carry out, or
the borrow; V where the exact signed result is out of range. Nothing else changes; CMP and CMPI write no register. -/
def Obligations.AdditionAndSubtraction : Prop :=
  (∀ (o : IntR) (s : State), s.ready o.c = true →
    let k := s.head o.c
    let m := 2 ^ wid o.w
    let a := k.opnd o.w o.ra
    let b := k.opnd o.w o.rb
    let cin := if k.ps 1 then 1 else 0
    let x := toSigned o.w a
    let y := toSigned o.w b
    let sum (n : Nat) : Core := k.gives o.w o.rd ((a + b + n) % m) (decide (m / 2 ≤ (a + b + n) % m))
      (decide ((a + b + n) % m = 0)) (decide (m ≤ a + b + n)) (overflows o.w (x + y + n))
    let diff (rd : Fin 32) (n : Nat) : Core := k.gives o.w rd ((m + m + a - b - n) % m)
      (decide (m / 2 ≤ (m + m + a - b - n) % m)) (decide ((m + m + a - b - n) % m = 0)) (decide (a < b + n))
      (overflows o.w (x - y - n))
    exec (.add o) s = .next (s.setCore o.c (sum 0)) ∧ exec (.adc o) s = .next (s.setCore o.c (sum cin)) ∧
    exec (.sub o) s = .next (s.setCore o.c (diff o.rd 0)) ∧ exec (.sbc o) s = .next (s.setCore o.c (diff o.rd cin)) ∧
    (o.rd = 0 → exec (.cmp o) s = .next (s.setCore o.c (diff 0 0)))) ∧
  (∀ (o : IntI) (s : State), s.ready o.c = true →
    let k := s.head o.c
    let m := 2 ^ 64
    let a := (k.gr o.ra).toNat
    let b := (o.imm.signExtend 64).toNat
    let x := (k.gr o.ra).toInt
    let y := o.imm.toInt
    exec (.addi o) s = .next (s.setCore o.c (k.gives false o.rd ((a + b) % m) (decide (m / 2 ≤ (a + b) % m))
      (decide ((a + b) % m = 0)) (decide (m ≤ a + b)) (overflows false (x + y)))) ∧
    (o.rd = 0 → exec (.cmpi o) s = .next (s.setCore o.c (k.gives false 0 ((m + a - b) % m)
      (decide (m / 2 ≤ (m + a - b) % m)) (decide ((m + a - b) % m = 0)) (decide (a < b)) (overflows false (x - y))))))

/-- NEG, ABS and MUL: NEG sets C for a nonzero operand, ABS clears it, MUL sets C and V where the unsigned and the signed
product do not fit; V of NEG and ABS marks the most negative operand. MULHU and MULHS give the high half of the product
and change no flag. -/
def Obligations.NegationAndMultiplication : Prop :=
  ∀ (o : IntR) (s : State), s.ready o.c = true →
    let k := s.head o.c
    let m := 2 ^ wid o.w
    let a := k.opnd o.w o.ra
    let b := k.opnd o.w o.rb
    let x := toSigned o.w a
    let y := toSigned o.w b
    let neg := (m - a) % m
    let abs := x.natAbs % m
    let low := a * b % m
    (o.rb = 0 → exec (.neg o) s = .next (s.setCore o.c (k.gives o.w o.rd neg (decide (m / 2 ≤ neg)) (decide (neg = 0))
      (decide (a ≠ 0)) (overflows o.w (-x))))) ∧
    (o.rb = 0 → exec (.abs o) s = .next (s.setCore o.c (k.gives o.w o.rd abs (decide (m / 2 ≤ abs)) (decide (abs = 0))
      false (overflows o.w x.natAbs)))) ∧
    exec (.mul o) s = .next (s.setCore o.c (k.gives o.w o.rd low (decide (m / 2 ≤ low)) (decide (low = 0))
      (decide (m ≤ a * b)) (overflows o.w (x * y)))) ∧
    exec (.mulhu o) s = .next (s.setCore o.c (k.gw o.rd (wres o.w (a * b / m))).retire) ∧
    exec (.mulhs o) s = .next (s.setCore o.c (k.gw o.rd (wres o.w (ofSigned o.w (x * y / m)))).retire)

/-- AND, OR, XOR, ANDN, ANDI, ORI and XORI act bit by bit, the immediate zero-extended; N and Z follow the result, C and V
keep their values.
CLZ, POPC, MOV, LDIZ, LDIS and SHIN write rd and change no flag: the leading zeros, the ones, the operand, the
immediate zero- or sign-extended, and rd moved up by 16 bits with the immediate below. -/
def Obligations.LogicAndMoves : Prop :=
  (let put (k : Core) (w : Bool) (rd : Fin 32) (r : Nat) : Core :=
    k.gives w rd r (r.testBit (wid w - 1)) (decide (r = 0)) (k.ps 1) (k.ps 0)
  (∀ (o : IntR) (s : State), s.ready o.c = true →
    let k := s.head o.c
    let a := k.opnd o.w o.ra
    let b := k.opnd o.w o.rb
    exec (.and o) s = .next (s.setCore o.c (put k o.w o.rd (a &&& b))) ∧
    exec (.or o) s = .next (s.setCore o.c (put k o.w o.rd (a ||| b))) ∧
    exec (.xor o) s = .next (s.setCore o.c (put k o.w o.rd (a ^^^ b))) ∧
    (∃ r, (∀ i, r.testBit i = (a.testBit i && !b.testBit i)) ∧
      exec (.andn o) s = .next (s.setCore o.c (put k o.w o.rd r)))) ∧
  (∀ (o : IntI) (s : State), s.ready o.c = true →
    let k := s.head o.c
    let a := (k.gr o.ra).toNat
    let b := o.imm.toNat
    exec (.andi o) s = .next (s.setCore o.c (put k false o.rd (a &&& b))) ∧
    exec (.ori o) s = .next (s.setCore o.c (put k false o.rd (a ||| b))) ∧
    exec (.xori o) s = .next (s.setCore o.c (put k false o.rd (a ^^^ b))))) ∧
  ((∀ (o : IntR) (s : State), s.ready o.c = true → o.rb = 0 →
    let k := s.head o.c
    let a := k.opnd o.w o.ra
    (∃ n, (a = 0 → n = wid o.w) ∧ (a ≠ 0 → n < wid o.w ∧ 2 ^ (wid o.w - 1 - n) ≤ a ∧ a < 2 ^ (wid o.w - n)) ∧
      exec (.clz o) s = .next (s.setCore o.c (k.gw o.rd (BitVec.ofNat 64 n)).retire)) ∧
    exec (.popc o) s = .next (s.setCore o.c (k.gw o.rd (BitVec.ofNat 64 ((List.range 64).countP a.testBit))).retire) ∧
    exec (.mov o) s = .next (s.setCore o.c (k.gw o.rd (wres o.w a)).retire)) ∧
  (∀ (c : CoreId) (rd : Fin 32) (imm : BitVec 16) (s : State), s.ready c = true →
    let k := s.head c
    exec (.ldiz c rd imm) s = .next (s.setCore c (k.gw rd (imm.setWidth 64)).retire) ∧
    exec (.ldis c rd imm) s = .next (s.setCore c (k.gw rd (imm.signExtend 64)).retire) ∧
    exec (.shin c rd imm) s = .next (s.setCore c (k.gw rd (((k.gr rd).setWidth 48 ++ imm : BitVec 64))).retire)))

/-- SHL, SHRL, SHRA by rb[6:0] and SHIFT_BY_IMMEDIATE honour every amount from 0 to 127: zeros enter, the sign enters for
SHRA; C is the last bit shifted out for amounts 1 to w, beyond that 0, the sign for SHRA, and 0 for amount 0; V keeps its
value. -/
def Obligations.ShiftAmounts : Prop :=
  let put (k : Core) (w : Bool) (rd : Fin 32) (r : Nat) (c : Bool) : Core :=
    k.gives w rd r (r.testBit (wid w - 1)) (decide (r = 0)) c (k.ps 0)
  let left (k : Core) (w : Bool) (rd : Fin 32) (a n : Nat) : Core :=
    put k w rd (a * 2 ^ n % 2 ^ wid w) (decide (1 ≤ n ∧ n ≤ wid w) && a.testBit (wid w - n))
  let right (k : Core) (w : Bool) (rd : Fin 32) (a n : Nat) : Core :=
    put k w rd (a / 2 ^ n) (decide (1 ≤ n ∧ n ≤ wid w) && a.testBit (n - 1))
  let arith (k : Core) (w : Bool) (rd : Fin 32) (a n : Nat) : Core :=
    put k w rd ((toSigned w a / 2 ^ n) % 2 ^ wid w).toNat
      (if n = 0 then false else if n ≤ wid w then a.testBit (n - 1) else a.testBit (wid w - 1))
  (∀ (o : IntR) (s : State), s.ready o.c = true →
    let k := s.head o.c
    let a := k.opnd o.w o.ra
    let n := (k.gr o.rb).toNat % 128
    exec (.shl o) s = .next (s.setCore o.c (left k o.w o.rd a n)) ∧
    exec (.shrl o) s = .next (s.setCore o.c (right k o.w o.rd a n)) ∧
    exec (.shra o) s = .next (s.setCore o.c (arith k o.w o.rd a n))) ∧
  (∀ (c : CoreId) (rd ra : Fin 32) (n : BitVec 7) (w : Bool) (s : State), s.ready c = true →
    let k := s.head c
    let a := k.opnd w ra
    exec (.shiftByImmediate c rd ra n 0 w) s = .next (s.setCore c (left k w rd a n.toNat)) ∧
    exec (.shiftByImmediate c rd ra n 1 w) s = .next (s.setCore c (right k w rd a n.toNat)) ∧
    exec (.shiftByImmediate c rd ra n 2 w) s = .next (s.setCore c (arith k w rd a n.toNat)))

/-- The division sequence: DVSETU and DVSETS take the operands, clear the step count, N and Z, set C for a divisor of 0 and
V for the most negative dividend and a divisor of −1; DVSTEP takes one step; DVQ and DVR deliver with N and Z, C and V as
they are.
After a setup and w steps DVQ and DVR hold the quotient and the remainder: truncated towards zero, the remainder with
the dividend's sign; a divisor of 0 gives all ones and the dividend, the most negative dividend over −1 itself and 0. Any
further step changes nothing, and before the last step the results are not there (DIVST is below w). -/
def Obligations.Division : Prop :=
  ((∀ (o : IntR) (s : State), s.ready o.c = true → o.rd = 0 →
    let k := s.head o.c
    let a := k.opnd o.w o.ra
    let b := k.opnd o.w o.rb
    ∃ u v : Core,
      exec (.dvsetu o) s = .next (s.setCore o.c u.retire) ∧ exec (.dvsets o) s = .next (s.setCore o.c v.retire) ∧
      u = k.divided o.w false a b ∧ v = k.divided o.w true a b ∧ divCount u.dvSt = 0 ∧ divCount v.dvSt = 0 ∧
      u.ps 3 = false ∧ u.ps 2 = false ∧ u.ps 1 = decide (b = 0) ∧ u.ps 0 = false ∧
      v.ps 3 = false ∧ v.ps 2 = false ∧ v.ps 1 = decide (b = 0) ∧
      v.ps 0 = (decide (toSigned o.w a = -(2 ^ (wid o.w - 1) : Nat)) && decide (toSigned o.w b = -1))) ∧
  (∀ (c : CoreId) (s : State), s.ready c = true →
    exec (.dvstep c) s = .next (s.setCore c (s.head c).divStep.retire)) ∧
  (∀ (c : CoreId) (rd : Fin 32) (s : State), s.ready c = true →
    let k := s.head c
    let w := k.dvSt.getLsbD 62
    wid w ≤ divCount k.dvSt →
      exec (.dvq c rd) s = .next (s.setCore c (((k.gw rd k.dvQ).setPs 3 (k.dvQ.toNat.testBit (wid w - 1))).setPs 2
        (decide (k.dvQ.toNat % 2 ^ wid w = 0))).retire) ∧
      exec (.dvr c rd) s = .next (s.setCore c (((k.gw rd k.dvR).setPs 3 (k.dvR.toNat.testBit (wid w - 1))).setPs 2
        (decide (k.dvR.toNat % 2 ^ wid w = 0))).retire))) ∧
  (∀ (k : Core) (w : Bool) (a b : Nat), a < 2 ^ wid w → b < 2 ^ wid w →
    let x := toSigned w a
    let y := toSigned w b
    let after (signed : Bool) (n : Nat) : Core := n.repeat Core.divStep (k.divided w signed a b)
    (∀ (signed : Bool) (n : Nat), divCount (after signed n).dvSt = min n (wid w)) ∧
    (∀ n, wid w ≤ n →
      (after false n).dvQ = wres w (if b = 0 then 2 ^ wid w - 1 else a / b) ∧
      (after false n).dvR = wres w (if b = 0 then a else a % b) ∧
      (after true n).dvQ = wres w (ofSigned w (if b = 0 then -1 else x.tdiv y)) ∧
      (after true n).dvR = wres w (ofSigned w (if b = 0 then x else x.tmod y))))

/-! ### Loads, stores, reservations (09 R250, R252, R263, R266) -/

/-- Loads from cisterns and bulk memory: rd takes the little-endian bytes at the effective address, sign-extended by LB, LH
and LW (LD takes all 64 bits), zero-extended by LBU, LHU and LWU; INDEXED_LOAD by its size and its bit; FLW and FLD write
the low bits of an f register and clear the rest of the vector register. Nothing else changes, no byte of memory among it.
The access is aligned, granted by a window in task mode, answered OK, meets no error in memory or L1, and matches no data
break. A word load from a register block performs the register's read with its side effects and delivers its value.
A load that meets bad parity in a register file, or an L1 word that cannot be corrected, is a fatal error of its core; one
whose memory word cannot be corrected takes cause 7 with code 6, and the error is counted and logged. -/
def Obligations.Loads : Prop :=
  let calm : LoadEv := ⟨.clean, .clean, false, false⟩
  (let ok (u : State) (c : CoreId) (a n : Nat) : Prop :=
    u.accessFault c false a n = none ∧ u.coreCut c = false ∧ inMem a n = true ∧ accessCode u (u.coreReq c) false a n = 0 ∧
      u.dMatches c false [(a, n, u.memNat a n)] = []
  (∀ (o : LoadI) (s : State), s.ready o.c = true → o.ev = calm →
    let k := s.head o.c
    let u := s.setCore o.c k
    let a := (k.gr o.ra + o.imm.signExtend 64).toNat
    let got (v : Dbl) : State := s.setCore o.c (k.gw o.rd v).retire
    let gotF (v : Nat) : State := s.setCore o.c { k with v := vset k.v o.rd (BitVec.ofNat 512 v) }.retire
    (ok u o.c a 1 →
      exec (.lb o) s = .next (got ((BitVec.ofNat 8 (u.memNat a 1)).signExtend 64)) ∧
      exec (.lbu o) s = .next (got (BitVec.ofNat 64 (u.memNat a 1)))) ∧
    (ok u o.c a 2 →
      exec (.lh o) s = .next (got ((BitVec.ofNat 16 (u.memNat a 2)).signExtend 64)) ∧
      exec (.lhu o) s = .next (got (BitVec.ofNat 64 (u.memNat a 2)))) ∧
    (ok u o.c a 4 →
      exec (.lw o) s = .next (got ((BitVec.ofNat 32 (u.memNat a 4)).signExtend 64)) ∧
      exec (.lwu o) s = .next (got (BitVec.ofNat 64 (u.memNat a 4))) ∧ exec (.flw o) s = .next (gotF (u.memNat a 4))) ∧
    (ok u o.c a 8 →
      exec (.ld o) s = .next (got (BitVec.ofNat 64 (u.memNat a 8))) ∧ exec (.fld o) s = .next (gotF (u.memNat a 8)))) ∧
  (∀ (o : IdxOp) (s : State), s.ready o.c = true → o.size.toNat < 4 →
    let k := s.head o.c
    let u := s.setCore o.c k
    let a := (k.gr o.ra + k.gr o.rb).toNat
    let n := 2 ^ o.size.toNat
    ok u o.c a n → exec (.indexedLoad o calm) s = .next (s.setCore o.c (k.gw o.rd (if o.zext then BitVec.ofNat 64 (u.memNat a n)
      else ((BitVec.ofNat (8 * n) (u.memNat a n)).signExtend 64))).retire))) ∧
  (∀ (o : LoadI) (s : State) (b : Nat), s.ready o.c = true → o.ev = calm →
    let k := s.head o.c
    let u := s.setCore o.c k
    let a := (k.gr o.ra + o.imm.signExtend 64).toNat
    let r := u.readReg (coreStation o.c) a false
    regionOf a = some (.block b) → u.accessFault o.c false a 4 = none → u.coreCut o.c = false → accessCode u (u.coreReq o.c) false a 4 = 0 →
    u.dMatches o.c false [(a, 4, r.2.toNat)] = [] → r.1.pending = s.pending → r.1.mode = s.mode →
    exec (.lwu o) s = .next (r.1.setCore o.c ((r.1.core o.c).gw o.rd (r.2.setWidth 64)).retire) ∧
    exec (.lw o) s = .next (r.1.setCore o.c ((r.1.core o.c).gw o.rd (r.2.signExtend 64)).retire)) ∧
  (∀ (o : LoadI) (s : State) (p : Instr × Nat), s.ready o.c = true →
    p ∈ [(.lb o, 1), (.lbu o, 1), (.lh o, 2), (.lhu o, 2), (.lw o, 4), (.lwu o, 4), (.ld o, 8), (.flw o, 4), (.fld o, 8)] →
    let k := s.head o.c
    let u := s.setCore o.c k
    let a := (k.gr o.ra + o.imm.signExtend 64).toNat
    u.accessFault o.c false a p.2 = none → u.coreCut o.c = false →
    (o.ev.parity = true → exec p.1 s = .next (u.coreFatal o.c 1)) ∧
    (o.ev.parity = false → o.ev.l1 = .lost → exec p.1 s = .next (u.coreFatal o.c 2)) ∧
    (o.ev = ⟨.lost, .clean, false, false⟩ → inMem a p.2 = true → accessCode u (u.coreReq o.c) false a p.2 = 0 →
      exec p.1 s = .next ((logUntagged (u.memEcc a .lost) (u.coreReq o.c) a 6).exc o.c 7 a (some (256 * 6)))))

/-- Stores to cisterns and bulk memory: SB, SH, SW, SD, INDEXED_STORE, FSW and FSD write the low bytes of the register,
lowest byte first, at the effective address; every other byte of memory keeps its value; the core only retires, the other
core only loses a reservation of the granule, and everything else is as before.
RSVL loads a word (sign-extended) or a doubleword of bulk memory and reserves its granule. CNDS without a reservation
stores nothing and writes 0; with one it stores, writes 1 and clears it. No flag changes. -/
def Obligations.StoresAndReservations : Prop :=
  (let ok (u : State) (c : CoreId) (a n v : Nat) : Prop :=
    u.accessFault c true a n = none ∧ u.coreCut c = false ∧ inMem a n = true ∧ accessCode u (u.coreReq c) true a n = 0 ∧
      u.dMatches c true [(a, n, v % 256 ^ n)] = []
  let stores (i : Instr) (c : CoreId) (s : State) (a n v : Nat) : Prop :=
    ∃ t, exec i s = .next t ∧ t.core c = (s.head c).retire ∧
      (∀ b, b < a ∨ a + n ≤ b → t.byte b = s.byte b) ∧
      (∀ j, j < n → t.byte (a + j) = BitVec.ofNat 8 (v / 256 ^ j)) ∧
      t.core (otherCore c) = { s.core (otherCore c) with
        rsv := if (s.core (otherCore c)).rsv = some (a / 64) then none else (s.core (otherCore c)).rsv } ∧
      t = { s with mem := t.mem, seq := t.seq, cmd := t.cmd }
  (∀ (o : IntI) (s : State), s.ready o.c = true →
    let k := s.head o.c
    let u := s.setCore o.c k
    let a := (k.gr o.ra + o.imm.signExtend 64).toNat
    let v := (k.gr o.rd).toNat
    let f := k.v[o.rd].toNat
    (ok u o.c a 1 v → stores (.sb o) o.c s a 1 v) ∧ (ok u o.c a 2 v → stores (.sh o) o.c s a 2 v) ∧
    (ok u o.c a 4 v → stores (.sw o) o.c s a 4 v) ∧ (ok u o.c a 8 v → stores (.sd o) o.c s a 8 v) ∧
    (ok u o.c a 4 f → stores (.fsw o) o.c s a 4 f) ∧ (ok u o.c a 8 f → stores (.fsd o) o.c s a 8 f)) ∧
  (∀ (o : IdxOp) (s : State), s.ready o.c = true → o.size.toNat < 4 → o.zext = false →
    let k := s.head o.c
    let a := (k.gr o.ra + k.gr o.rb).toNat
    ok (s.setCore o.c k) o.c a (2 ^ o.size.toNat) (k.gr o.rd).toNat →
      stores (.indexedStore o) o.c s a (2 ^ o.size.toNat) (k.gr o.rd).toNat)) ∧
  (∀ (c : CoreId) (rd ra rb : Fin 32) (s : State), s.ready c = true →
    let k := s.head c
    let u := s.setCore c k
    let a := (k.gr ra).toNat
    let calm : LoadEv := ⟨.clean, .clean, false, false⟩
    u.coreCut c = false →
    let load (n : Nat) : Prop := u.accessFault c false a n = none ∧ isBulk a = true ∧ inMem a n = true ∧
      accessCode u (u.coreReq c) false a n = 0 ∧ u.dMatches c false [(a, n, u.memNat a n)] = []
    let store (n : Nat) : Prop := u.accessFault c true a n = none ∧ isBulk a = true ∧ inMem a n = true ∧
      accessCode u (u.coreReq c) true a n = 0 ∧ u.dMatches c true [(a, n, (k.gr rb).toNat % 256 ^ n)] = []
    let held (v : Dbl) : State := s.setCore c { k.gw rd v with rsv := some (a / 64) }.retire
    (load 4 → exec (.rsvlW c rd ra calm) s = .next (held ((BitVec.ofNat 32 (u.memNat a 4)).signExtend 64))) ∧
    (load 8 → exec (.rsvlD c rd ra calm) s = .next (held (BitVec.ofNat 64 (u.memNat a 8)))) ∧
    (k.rsv = none → u.accessFault c true a 4 = none → isBulk a = true →
      exec (.cndsW c rd ra rb) s = .next (s.setCore c (k.gw rd 0).retire)) ∧
    (k.rsv = none → u.accessFault c true a 8 = none → isBulk a = true →
      exec (.cndsD c rd ra rb) s = .next (s.setCore c (k.gw rd 0).retire)) ∧
    (k.rsv ≠ none → store 4 → ∃ t, exec (.cndsW c rd ra rb) s = .next t ∧
      t.core c = { k.gw rd 1 with rsv := none }.retire ∧ t.mem = (s.setMemNat a 4 ((k.gr rb).toNat % 256 ^ 4)).mem) ∧
    (k.rsv ≠ none → store 8 → ∃ t, exec (.cndsD c rd ra rb) s = .next t ∧
      t.core c = { k.gw rd 1 with rsv := none }.retire ∧ t.mem = (s.setMemNat a 8 ((k.gr rb).toNat % 256 ^ 8)).mem))

/-- Every operation on memory keeps its canonical form; a read after a write gives the bytes written, and no other byte
changes. Reset memory has the form. -/
def Obligations.MemoryKeepsItsForm : Prop :=
  State.reset.memWf = true ∧
  (∀ (s : State) (a n v lo hi src : Nat) (l : List Byte), s.memWf = true →
    (s.setMemNat a n v).memWf = true ∧ (s.setBytes a l).memWf = true ∧ (s.clearMem lo hi).memWf = true ∧
    (s.memStore src a n v).memWf = true ∧ (s.memPut src a l).memWf = true) ∧
  (∀ (s : State) (a n v lo hi : Nat) (l : List Byte),
    (s.setMemNat a n v).memNat a n = v % 256 ^ n ∧ (s.setBytes a l).bytes a l.length = l ∧
    (∀ b, (s.clearMem lo hi).byte b = if lo ≤ b ∧ b < hi then 0 else s.byte b)) ∧
  (∀ (s : State) (a n v b : Nat) (l : List Byte),
    (b < a ∨ a + n ≤ b → (s.setMemNat a n v).byte b = s.byte b) ∧
    (b < a ∨ a + l.length ≤ b → (s.setBytes a l).byte b = s.byte b))

/-! ### Control flow, system instructions, exceptions (09 R248 to R263) -/

/-- The conditions of B.cond as R255 tabulates them; condition 15 is illegal; a branch not taken goes on behind it.
C holds the borrow after SUB, CMP and NEG; after CMP, ULT is taken exactly when ra is less than rb unsigned, SLT exactly
when it is less signed. -/
def Obligations.BranchConditions : Prop :=
  (∀ (c : CoreId) (off : BitVec 22) (s : State), s.readyOnce c = true →
    let k := s.head c
    let v := k.ps 0
    let b := k.ps 1
    let z := k.ps 2
    let n := k.ps 3
    let taken : List Bool := [z, !z, n != v, n == v, !z && n == v, z || n != v, b, !b, !b && !z, b || z, n, !n, v, !v, true]
    (∀ (cond : Fin 16) (t : Bool), taken[cond.val]? = some t →
      exec (.bCond c cond off) s = .next (s.setCore c (if t then { k.retire with pc := k.pc + (off.signExtend 48 <<< 2) }
        else k.retire))) ∧
    exec (.bCond c 15 off) s = .next ((s.setCore c k).exc c 2 k.pc.toNat none)) ∧
  (∀ (o : IntR) (s : State), s.ready o.c = true →
    let a := (s.head o.c).opnd o.w o.ra
    let b := (s.head o.c).opnd o.w o.rb
    (∃ t, exec (.sub o) s = .next t ∧ (t.core o.c).ps 1 = decide (a < b)) ∧
    (o.rb = 0 → ∃ t, exec (.neg o) s = .next t ∧ (t.core o.c).ps 1 = decide (0 < a)) ∧
    (o.rd = 0 → ∃ t, exec (.cmp o) s = .next t ∧ (t.core o.c).ps 1 = decide (a < b) ∧
      (t.core o.c).cond 6 = some (decide (a < b)) ∧
      (t.core o.c).cond 2 = some (decide (toSigned o.w a < toSigned o.w b))))

/-- BR, CALL, JR, CALLR, LOOP, CBZ and CBNZ: offsets count instructions from the branch's own address, calls put pc + 4
into g30, LOOP counts lc down and branches while the new lc is not 0, with lc = 0 it does nothing. -/
def Obligations.JumpsAndLoops : Prop :=
  ∀ (c : CoreId) (ra : Fin 32) (off : BitVec 26) (off20 : BitVec 20) (off22 : BitVec 22) (s : State), s.readyOnce c = true →
    let k := s.head c
    let go (k' : Core) (t : BitVec 48) : State := s.setCore c { k'.retire with pc := t }
    let link := k.gw 30 ((k.pc + 4).setWidth 64)
    exec (.br c off) s = .next (go k (k.pc + (off.signExtend 48 <<< 2))) ∧
    exec (.call c off) s = .next (go link (k.pc + (off.signExtend 48 <<< 2))) ∧
    exec (.jr c ra) s = .next (go k ((k.gr ra).setWidth 48)) ∧
    exec (.callr c ra) s = .next (go link ((k.gr ra).setWidth 48)) ∧
    (k.lc = 0 → exec (.loop c off22) s = .next (s.setCore c k.retire)) ∧
    (k.lc = 1 → exec (.loop c off22) s = .next (s.setCore c { k with lc := 0 }.retire)) ∧
    (k.lc ≠ 0 → k.lc ≠ 1 → exec (.loop c off22) s =
      .next (go { k with lc := k.lc - 1 } (k.pc + (off22.signExtend 48 <<< 2)))) ∧
    exec (.cbz c ra off20) s = .next (if k.gr ra = 0 then go k (k.pc + (off20.signExtend 48 <<< 2)) else s.setCore c k.retire) ∧
    exec (.cbnz c ra off20) s = .next (if k.gr ra = 0 then s.setCore c k.retire else go k (k.pc + (off20.signExtend 48 <<< 2)))

/-- MFCR, MTCR, MFLC and MTLC: a control register is read and written as R249 lays it out: PSTAT's reserved bits, the low
nine bits of VBASE and the bits outside the window fields read 0; CR0 is read in task mode too; every other access in task
mode takes cause 3, a reserved number cause 2. -/
def Obligations.ControlRegisters : Prop :=
  ∀ (c : CoreId) (r cr : Fin 32) (s : State), s.readyOnce c = true →
    let k := s.head c
    let u := s.setCore c k
    let rows : List (Nat × Dbl) := [(0, k.pstat.setWidth 64), (1, k.vbase), (2, k.ctxid.setWidth 64), (3, k.g[31]),
      (4, k.synd), (5, k.dvQ), (6, k.dvR), (7, k.dvSt), (8, k.scr0), (9, k.scr1)] ++
      (List.finRange 8).map (fun n => (16 + n.val, k.twb[n])) ++ (List.finRange 8).map (fun n => (24 + n.val, k.twl[n]))
    exec (.mflc c r) s = .next (s.setCore c (k.gw r k.lc).retire) ∧
    exec (.mtlc c r) s = .next (s.setCore c { k with lc := k.gr r }.retire) ∧
    (∀ v, (cr.val, v) ∈ rows → (k.sup = true ∨ cr = 0) → exec (.mfcr c r cr) s = .next (s.setCore c (k.gw r v).retire)) ∧
    (∀ v, (cr.val, v) ∈ rows → k.sup = false → cr ≠ 0 → exec (.mfcr c r cr) s = .next (u.exc c 3 k.pc.toNat none)) ∧
    ((∀ v, (cr.val, v) ∉ rows) → exec (.mfcr c r cr) s = .next (u.exc c 2 k.pc.toNat none) ∧
      exec (.mtcr c r cr) s = .next (u.exc c 2 k.pc.toNat none)) ∧
    (∀ v, (cr.val, v) ∈ rows → k.sup = false → exec (.mtcr c r cr) s = .next (u.exc c 3 k.pc.toNat none)) ∧
    (∀ v, (cr.val, v) ∈ rows → k.sup = true → ∃ k' : Core, exec (.mtcr c r cr) s = .next (s.setCore c k'.retire) ∧
      (cr = 0 → k' = { k with pstat := (k.gr r).setWidth 16 &&& 0x3F#16 }) ∧
      (cr ≠ 0 → k'.crRead cr.val = some (
        if cr.val = 1 then k.gr r &&& ~~~0x1FF#64 else if cr.val = 2 then k.gr r &&& 0xFF#64
        else if 24 ≤ cr.val then k.gr r &&& 0xFFFFFFFFF000#64 else if 16 ≤ cr.val then k.gr r &&& 0xFFFFFFFFF007#64
        else k.gr r) ∧ ∀ n, n ≠ cr.val → k'.crRead n = k.crRead n))

/-- Taking an exception or interrupt: the frame holds g1 to g6, the pc with PSTAT above it, and FADDR with the cause and
CTXID above it; the supervisor stack pointer falls by 64; S = 1, IE = 0; the core goes on at VBASE + 8·cause; SYND changes
only for the causes that describe it; the reservation is lost; every other register is as before.
RFE reads the frame at the supervisor stack pointer: g1 to g6, pc and PSTAT from it, the stack pointer 64 higher; the
core goes on at the restored pc, and memory is as before. -/
def Obligations.ExceptionEntryAndReturn : Prop :=
  (∀ (s : State) (c : CoreId) (cause faddr : Nat) (synd : Option Nat),
    let k := s.core c
    let fa := (k.ssp - 64).toNat
    let t := s.exc c cause faddr synd
    frameOk s c true fa = true → cause < 256 → faddr < 2 ^ 48 →
    t.memNat fa 8 = k.g[1].toNat ∧ t.memNat (fa + 8) 8 = k.g[2].toNat ∧ t.memNat (fa + 16) 8 = k.g[3].toNat ∧
    t.memNat (fa + 24) 8 = k.g[4].toNat ∧ t.memNat (fa + 32) 8 = k.g[5].toNat ∧ t.memNat (fa + 40) 8 = k.g[6].toNat ∧
    t.memNat (fa + 48) 8 = k.pc.toNat + 2 ^ 48 * k.pstat.toNat ∧
    t.memNat (fa + 56) 8 = faddr + 2 ^ 48 * cause + 2 ^ 56 * k.ctxid.toNat ∧
    (∀ b, b < fa ∨ fa + 64 ≤ b → t.byte b = s.byte b) ∧
    (t.core c).ps 4 = true ∧ (t.core c).ps 5 = false ∧ (∀ i, i ≠ 4 → i ≠ 5 → i < 16 → (t.core c).ps i = k.ps i) ∧
    (t.core c).pc = BitVec.ofNat 48 (k.vbase.toNat + 8 * cause) ∧
    t.core c = { k with
      ssp := k.ssp - 64, pstat := (t.core c).pstat, pc := (t.core c).pc
      synd := match synd with
        | some v => BitVec.ofNat 64 v
        | none => k.synd
      rsv := none, rpt := false, wait := none, haltReq := if k.stepping then 5 else k.haltReq }) ∧
  (∀ (c : CoreId) (s : State), s.readyOnce c = true →
    let k := s.head c
    let fa := k.ssp.toNat
    k.sup = true → frameOk (s.setCore c k) c false fa = true →
    ∃ k' : Core, exec (.rfe c) s = .next (s.setCore c k') ∧
      (∀ i : Fin 6, k'.g[i.val + 1]? = some (BitVec.ofNat 64 (s.memNat (fa + 8 * i.val) 8))) ∧
      k'.pc = BitVec.ofNat 48 (s.memNat (fa + 48) 8) ∧ k'.pstat = BitVec.ofNat 16 (s.memNat (fa + 48) 8 / 2 ^ 48 % 64) ∧
      k'.ssp = k.ssp + 64 ∧ (∀ i : Fin 32, (i.val = 0 ∨ 6 < i.val) → k'.g[i] = k.g[i]) ∧
      k' = { k.retire with g := k'.g, pc := k'.pc, pstat := k'.pstat, ssp := k'.ssp })

/-- TRAP takes cause 8 with its code in SYND, BKPT cause 9 (or halts the core where the debugger asked for it); the
privileged instructions take cause 3 in task mode; the pc saved is the instruction's own. A word that is no instruction, the
all-zero word among them, takes cause 2.
An access that is misaligned takes cause 5; one that no task window grants takes cause 6 with the window bit; a load
that is answered with an error code takes cause 7 with the code. The pc stays at the instruction (the frame is written
below the supervisor stack pointer) and rd keeps its value. -/
def Obligations.FaultsTrapsAndPrivilege : Prop :=
  (∀ (c : CoreId) (code : BitVec 5) (s : State), s.readyOnce c = true →
    let k := s.head c
    let u := s.setCore c k
    exec (.trap c code none) s = .next (u.exc c 8 k.pc.toNat (some code.toNat)) ∧
    (bit (s.reg (dbgOf c Reg.dbgCtl)) 4 = false → exec (.bkpt c) s = .next (u.exc c 9 k.pc.toNat (some 0))) ∧
    (bit (s.reg (dbgOf c Reg.dbgCtl)) 4 = true → exec (.bkpt c) s = .next (s.setCore c { k with haltReq := 4 })) ∧
    (k.sup = false → exec (.rfe c) s = .next (u.exc c 3 k.pc.toNat none) ∧
      exec (.wfi c) s = .next (u.exc c 3 k.pc.toNat none))) ∧
  (∀ (c : CoreId) (code : BitVec 5) (w : Word) (s : State), s.ready c = true →
    let k := s.head c
    (w = 0 ∨ decodeCore c w.toNat = none →
      exec (.trap c code (some w)) s = .next ((s.setCore c k).exc c 2 k.pc.toNat none))) ∧
  (∀ (o : LoadI) (s : State), s.ready o.c = true →
    let k := s.head o.c
    let u := s.setCore o.c k
    let a := (k.gr o.ra + o.imm.signExtend 64).toNat
    (a % 8 ≠ 0 → exec (.ld o) s = .next (u.exc o.c 5 a (some 0))) ∧
    (a % 8 = 0 → k.windowOk 0 a 8 = false → exec (.ld o) s = .next (u.exc o.c 6 a (some 0x4000))) ∧
    (u.accessFault o.c false a 8 = none → u.coreCut o.c = false → o.ev = ⟨.clean, .clean, false, false⟩ →
      accessCode u (u.coreReq o.c) false a 8 ≠ 0 →
      exec (.ld o) s = .next ((logUntagged u (u.coreReq o.c) a (accessCode u (u.coreReq o.c) false a 8)).exc o.c 7 a
        (some (256 * accessCode u (u.coreReq o.c) false a 8)))))

/-- Interrupts: cause 16 before cause 17 before the lowest enabled line, at a retirement boundary of a core that runs; a WFI
that waits retires first. WFI goes on at once where something it waits for is there, and waits otherwise; WFI_WAKE ends a
wait without an interrupt. FENCE and IFENCE only retire. -/
def Obligations.InterruptsAndWaiting : Prop :=
  ∀ (c : CoreId) (s : State),
    let k := s.core c
    (s.atBoundary c = true → s.intDue c = true → k.wfi = false →
      (k.nmi16 = true → exec (.interrupt c) s = .next ((s.setCore c { k with nmi16 := false }).exc c 16 0 none)) ∧
      (∀ a code, k.nmi16 = false → k.nmi17 = some (a, code) → exec (.interrupt c) s =
        .next ((s.setCore c { k with nmi17 := none }).exc c 17 a.toNat (some (256 * code.toNat + 0x1000)))) ∧
      (∀ n, k.nmi16 = false → k.nmi17 = none → n < 32 → (s.irqLines c).getLsbD n = true →
        (∀ j, j < n → (s.irqLines c).getLsbD j = false) → exec (.interrupt c) s = .next (s.exc c (32 + n) 0 none))) ∧
    (s.atBoundary c = true → s.intDue c = true → k.wfi = true → (s.endWfi c).core c = { k with wfi := false }.retire ∧
      exec (.interrupt c) s = .next ((s.endWfi c).takeInterrupt c)) ∧
    (s.readyOnce c = true →
      exec (.fence c) s = .next (s.setCore c (s.head c).retire) ∧ exec (.ifence c) s = .next (s.setCore c (s.head c).retire) ∧
      ((s.head c).sup = true → s.wakes c = true → exec (.wfi c) s = .next (s.setCore c (s.head c).retire)) ∧
      ((s.head c).sup = true → s.wakes c = false → exec (.wfi c) s = .next (s.setCore c { s.head c with wfi := true }))) ∧
    (s.atBoundary c = true → k.wfi = true → s.wakes c = true → s.intDue c = false →
      exec (.wfiWake c) s = .next (s.setCore c { k with wfi := false }.retire))

/-! ### Floating point (10 R277 to R292) -/

/-- FADD, FSUB, FMUL, FMA, FSQRT, FMIN, FMAX, FRE, FRS and FDC act on the low bits that D selects, write the result with
zeros above it and add their flags to FSR; RM 7 takes the direction from FSR.RND. Nothing else changes. -/
def Obligations.FloatArithmetic : Prop :=
  ∀ (o : FpOp) (s : State) (rm : Nat), s.ready o.c = true →
    let k := s.head o.c
    let t := fpFmt o.d
    let a := k.v[o.ra].toNat % 2 ^ t.width
    let b := k.v[o.rb].toNat % 2 ^ t.width
    let d := k.v[o.rd].toNat % 2 ^ t.width
    let put (r : Nat × Nat) : State := s.setCore o.c { k with
      v := vset k.v o.rd (BitVec.ofNat 512 (r.1 % 2 ^ 64)), fsr := k.fsr ||| BitVec.ofNat 16 (r.2 % 32) }.retire
    rm = (if o.rm = 7 then k.fsr.toNat / 256 % 8 else o.rm.toNat) → rm ≤ 4 →
    exec (.fadd o) s = .next (put (t.add rm a b)) ∧ exec (.fsub o) s = .next (put (t.sub rm a b)) ∧
    exec (.fmul o) s = .next (put (t.mul rm a b)) ∧ exec (.fma o) s = .next (put (t.fma rm a b d)) ∧
    exec (.fdc o) s = .next (put (t.fdc rm d a b)) ∧
    (o.rb = 0 → exec (.fsqrt o) s = .next (put (t.sqrt rm a))) ∧
    (o.rm = 0 → exec (.fmin o) s = .next (put (t.minMax false a b)) ∧ exec (.fmax o) s = .next (put (t.minMax true a b))) ∧
    (o.rm = 0 → o.rb = 0 → exec (.fre o) s = .next (put (t.fre a, 0)) ∧ exec (.frs o) s = .next (put (t.frs d a, 0)))

/-- The special cases of IEEE arithmetic as R284 decides them, in every format and direction: infinities of opposite sign
added, 0 × ∞, 0 ÷ 0, ∞ ÷ ∞ and the root of a negative number give the canonical NaN with invalid; a finite non-zero number
over 0 gives an infinity with divide-by-zero; an exact zero sum is +0, towards −∞ it is −0; any NaN operand gives the
canonical NaN, with invalid exactly when one is signalling.
Rounding to a normal result: the rounded magnitude is that of an encoding of the format; it raises a flag exactly when it
is not the exact value m · 2^e; towards zero it never grows. -/
def Obligations.FloatSpecialCases : Prop :=
  (∀ (f : Fmt) (rm a b : Nat), (f = fmt16 ∨ f = fmtBf ∨ f = fmt32 ∨ f = fmt64) → rm ≤ 4 →
    let isInf (x : Nat) : Prop := ∃ s, f.dec x = .inf s
    let isZero (x : Nat) : Prop := ∃ s e, f.dec x = .fin s 0 e
    let isNum (x : Nat) : Prop := ∃ s m e, f.dec x = .fin s m e ∧ m ≠ 0
    (∀ s, f.dec a = .inf s → f.dec b = .inf (!s) → f.add rm a b = (f.nan, 1)) ∧
    (∀ s, f.dec a = .inf s → f.dec b = .inf s → f.sub rm a b = (f.nan, 1)) ∧
    (isZero a → isInf b → f.mul rm a b = (f.nan, 1) ∧ f.mul rm b a = (f.nan, 1) ∧ ∀ c, f.fma rm a b c = (f.nan, 1)) ∧
    (isZero a → isZero b → f.div rm a b = (f.nan, 1)) ∧ (isInf a → isInf b → f.div rm a b = (f.nan, 1)) ∧
    (∀ m e, f.dec a = .fin true m e → m ≠ 0 → f.sqrt rm a = (f.nan, 1)) ∧
    (isNum a → isZero b → ∃ s, f.div rm a b = (f.inf s, 2)) ∧
    (∀ s m e, f.dec a = .fin s m e → m ≠ 0 → f.sub rm a a = (f.zero (decide (rm = 4)), 0)) ∧
    ((f.dec a).isNan = true ∨ (f.dec b).isNan = true →
      let r := (f.nan, if (f.dec a).isSnan || (f.dec b).isSnan then 1 else 0)
      f.add rm a b = r ∧ f.sub rm a b = r ∧ f.mul rm a b = r ∧ f.div rm a b = r)) ∧
  (∀ (f : Fmt) (rm : Nat) (s : Bool) (m : Nat) (e : Int), (f = fmt16 ∨ f = fmtBf ∨ f = fmt32 ∨ f = fmt64) → rm ≤ 4 → m ≠ 0 →
    f.qmin + f.fb ≤ (Nat.log2 m : Int) + e → (Nat.log2 m : Int) + e < f.bias →
    ∃ n : Nat, (f.round rm s m e).1 = n + f.zero s ∧ n ≤ f.inf false ∧
      (∀ x q, f.dec n = .fin false x q → m * 2 ^ (e - q).toNat = x * 2 ^ (q - e).toNat → (f.round rm s m e).2 = 0) ∧
      ((f.round rm s m e).2 = 0 → ∃ x q, f.dec n = .fin false x q ∧ m * 2 ^ (e - q).toNat = x * 2 ^ (q - e).toNat) ∧
      (rm = 2 → ∃ x q, f.dec n = .fin false x q ∧ x * 2 ^ (q - e).toNat ≤ m * 2 ^ (e - q).toNat))

/-- FNEG, FABS, FMOV, FMVGF, FMVFG, MFFS and MTFS move bits and raise nothing: the sign inverted, cleared, kept; the low 64
bits to and from a general register; FSR read, and written with bits [7:5] cleared.
A reserved rounding direction (RM 5 or 6, or FSR.RND above 4 with RM 7) and a field that the row does not use make a
floating-point instruction illegal: cause 2, nothing written. -/
def Obligations.FloatMovesAndIllegalForms : Prop :=
  (∀ (o : FpOp) (s : State), s.ready o.c = true → o.rm = 0 → o.rb = 0 →
    let k := s.head o.c
    let n := if o.d then 64 else 32
    let x := k.v[o.ra].toNat
    let put (r : Nat) : State := s.setCore o.c { k with v := vset k.v o.rd (BitVec.ofNat 512 r) }.retire
    (∃ r, (∀ i, r.testBit i = (decide (i < n) && (x.testBit i != decide (i = n - 1)))) ∧ exec (.fneg o) s = .next (put r)) ∧
    exec (.fabs o) s = .next (put (x % 2 ^ (n - 1))) ∧ exec (.fmov o) s = .next (put (x % 2 ^ n)) ∧
    (o.d = false →
      exec (.fmvgf o) s = .next (s.setCore o.c (k.gw o.rd (k.v[o.ra].setWidth 64)).retire) ∧
      exec (.fmvfg o) s = .next (put (k.gr o.ra).toNat) ∧
      (o.ra = 0 → exec (.mffs o) s = .next (s.setCore o.c (k.gw o.rd (k.fsr.setWidth 64)).retire)) ∧
      (o.rd = 0 → exec (.mtfs o) s =
        .next (s.setCore o.c { k with fsr := (k.gr o.ra).setWidth 16 &&& 0x71F#16 }.retire)))) ∧
  (∀ (o : FpOp) (s : State), s.ready o.c = true →
    let k := s.head o.c
    let ill : Host.Outcome State Fault Refusal := .next ((s.setCore o.c k).exc o.c 2 k.pc.toNat none)
    ((o.rm = 5 ∨ o.rm = 6 ∨ (o.rm = 7 ∧ 4 < k.fsr.toNat / 256 % 8)) →
      exec (.fadd o) s = ill ∧ exec (.fma o) s = ill ∧ exec (.fcvt o) s = ill ∧ exec (.fcvtis64 o) s = ill ∧
      exec (.icvtfu32 o) s = ill ∧ exec (.fcmp o) s = ill) ∧
    (o.rb ≠ 0 → exec (.fsqrt o) s = ill ∧ exec (.fneg o) s = ill ∧ exec (.fmvgf o) s = ill) ∧
    (o.rd ≠ 0 → exec (.fcmp o) s = ill ∧ exec (.fcmps o) s = ill ∧ exec (.mtfs o) s = ill) ∧
    (o.rm ≠ 0 → exec (.fmin o) s = ill ∧ exec (.fabs o) s = ill ∧ exec (.fre o) s = ill))

/-- FCMP and FCMPS set N, Z, C and V by the relation of fa to fb: less 1010, equal 0100, greater 0000, unordered 0011;
invalid is raised for a signalling NaN, by FCMPS for any NaN. With these flags the conditions of B.cond test the relations
that R285 lists. -/
def Obligations.FloatCompare : Prop :=
  (∀ (o : FpOp) (s : State), s.ready o.c = true → o.rm = 0 → o.rd = 0 →
    let k := s.head o.c
    let t := fpFmt o.d
    let x := t.dec (k.v[o.ra].toNat % 2 ^ t.width)
    let y := t.dec (k.v[o.rb].toNat % 2 ^ t.width)
    let rel := cmpV x y
    let nan := x.isNan || y.isNan
    let snan := x.isSnan || y.isSnan
    let set (inv : Bool) : State :=
      s.setCore o.c { (((k.setPs 3 (rel == 0)).setPs 2 (rel == 1)).setPs 1 (rel == 0 || rel == 3)).setPs 0 (rel == 3) with
        fsr := if inv then k.fsr ||| 1 else k.fsr }.retire
    exec (.fcmp o) s = .next (set snan) ∧ exec (.fcmps o) s = .next (set (snan || nan))) ∧
  (∀ x y : FV, cmpV x y ≤ 3 ∧ (cmpV x y = 3 ↔ x.isNan = true ∨ y.isNan = true)) ∧
  (∀ (k : Core) (rel : Nat), rel ≤ 3 →
    let k' := (((k.setPs 3 (rel == 0)).setPs 2 (rel == 1)).setPs 1 (rel == 0 || rel == 3)).setPs 0 (rel == 3)
    k'.cond 0 = some (rel == 1) ∧ k'.cond 1 = some (rel != 1) ∧ k'.cond 10 = some (rel == 0) ∧
    k'.cond 11 = some (rel != 0) ∧ k'.cond 6 = some (rel == 0 || rel == 3) ∧ k'.cond 7 = some (rel == 1 || rel == 2) ∧
    k'.cond 8 = some (rel == 2) ∧ k'.cond 9 = some (rel != 2) ∧ k'.cond 2 = some (rel == 0 || rel == 3) ∧
    k'.cond 3 = some (rel == 1 || rel == 2) ∧ k'.cond 4 = some (rel == 2) ∧ k'.cond 5 = some (rel != 2) ∧
    k'.cond 12 = some (rel == 3) ∧ k'.cond 13 = some (rel != 3))

/-- The conversions: between formats by RM (FHCVT and FBCVT exactly), to integers with the range's bounds and invalid for
what lies outside and 0 for a NaN, 32-bit results sign-extended, and from integers by RM. -/
def Obligations.FloatConversions : Prop :=
  (∀ (o : FpOp) (s : State) (rm : Nat), s.ready o.c = true → o.rb = 0 →
    let k := s.head o.c
    let t := fpFmt o.d
    let x := k.v[o.ra].toNat
    let a := x % 2 ^ t.width
    let put (r : Nat × Nat) : State := s.setCore o.c { k with
      v := vset k.v o.rd (BitVec.ofNat 512 (r.1 % 2 ^ 64)), fsr := k.fsr ||| BitVec.ofNat 16 (r.2 % 32) }.retire
    let putG (w : Bool) (r : Int × Nat) : State := s.setCore o.c { k.gw o.rd (wres w (ofSigned w r.1)) with
      fsr := k.fsr ||| BitVec.ofNat 16 (r.2 % 32) }.retire
    rm = (if o.rm = 7 then k.fsr.toNat / 256 % 8 else o.rm.toNat) → rm ≤ 4 →
    exec (.fcvt o) s = .next (put (t.cvt (fpFmt !o.d) rm a)) ∧ exec (.fcvth o) s = .next (put (t.cvt fmt16 rm a)) ∧
    exec (.fcvtb o) s = .next (put (t.cvt fmtBf rm a)) ∧
    (o.rm = 0 → exec (.fhcvt o) s = .next (put (fmt16.cvt t 0 (x % 2 ^ 16))) ∧
      exec (.fbcvt o) s = .next (put (fmtBf.cvt t 0 (x % 2 ^ 16)))) ∧
    exec (.fcvtis32 o) s = .next (putG true (t.toInt rm (-2147483648) 2147483647 a)) ∧
    exec (.fcvtiu32 o) s = .next (putG true (t.toInt rm 0 4294967295 a)) ∧
    exec (.fcvtis64 o) s = .next (putG false (t.toInt rm (-9223372036854775808) 9223372036854775807 a)) ∧
    exec (.fcvtiu64 o) s = .next (putG false (t.toInt rm 0 18446744073709551615 a)) ∧
    exec (.icvtfs32 o) s = .next (put (t.ofInt rm ((k.gr o.ra).setWidth 32).toInt)) ∧
    exec (.icvtfu32 o) s = .next (put (t.ofInt rm ((k.gr o.ra).setWidth 32).toNat)) ∧
    exec (.icvtfs64 o) s = .next (put (t.ofInt rm (k.gr o.ra).toInt)) ∧
    exec (.icvtfu64 o) s = .next (put (t.ofInt rm (k.gr o.ra).toNat))) ∧
  (∀ (f : Fmt) (rm a : Nat) (lo hi : Int), lo ≤ 0 → 0 ≤ hi →
    let r := f.toInt rm lo hi a
    lo ≤ r.1 ∧ r.1 ≤ hi ∧ (r.2 = 0 ∨ r.2 = 1 ∨ r.2 = 16) ∧ ((f.dec a).isNan = true → r = (0, 1)) ∧
    (f.dec a = .inf false → r = (hi, 1)) ∧ (f.dec a = .inf true → r = (lo, 1)))

/-! ### Vectors (10 R294 to R301) -/

/-- VSETL writes vl := min(ga, 512 ÷ ew), compared unsigned, and gd := vl. -/
def Obligations.VectorLength : Prop :=
  ∀ (c : CoreId) (ew : Fin 4) (rd ra : Fin 32) (s : State), s.ready c = true →
    let k := s.head c
    let n := min (k.gr ra).toNat (512 / (8 * 2 ^ ew.val))
    exec (.vsetl c ew rd ra) s = .next (s.setCore c ({ k with vl := n }.gw rd (BitVec.ofNat 64 n)).retire)

/-- What masking means: a vector destination takes the result in its active elements and keeps every other element; a
predicate destination takes it in the bits of active elements and 0 in every other bit. An element is active below
min(vl, 512 ÷ ew) where K is 0 or bit i of kK is 1. -/
def Obligations.VectorMasking : Prop :=
  ∀ (k : Core) (p : Fin 8) (e : Fin 4) (rd r : Fin 32) (f : Nat → Nat) (g : Nat → Bool) (i : Nat),
    let ew := 8 * 2 ^ e.val
    let active : Prop := i < min k.vl (512 / ew) ∧ (p = 0 ∨ k.k[p].getLsbD i = true)
    (i < 512 / ew → active → elem (k.vput p ew rd f).v[rd] ew i = f i % 2 ^ ew) ∧
    (i < 512 / ew → ¬ active → elem (k.vput p ew rd f).v[rd] ew i = elem k.v[rd] ew i) ∧
    (r ≠ rd → (k.vput p ew rd f).v[r] = k.v[r]) ∧ { k.vput p ew rd f with v := k.v } = k ∧
    (rd.val < 8 → ((k.kput p ew rd g).k[rd.val]?.map (·.getLsbD i)) = some (decide active && g i)) ∧
    (∀ j : Fin 8, j.val ≠ rd.val → rd.val < 8 → (k.kput p ew rd g).k[j] = k.k[j]) ∧
    { k.kput p ew rd g with k := k.k } = k

/-- The integer operations element by element, and the compares into a predicate register; rd above 7 makes a compare
illegal. -/
def Obligations.VectorInteger : Prop :=
  ∀ (o : VecOp) (s : State), s.ready o.c = true →
    let k := s.head o.c
    let ew := 8 * 2 ^ o.ew.val
    let a (i : Nat) : Nat := elem k.v[o.ra] ew i
    let b (i : Nat) : Nat := elem k.v[o.rb] ew i
    let sa (i : Nat) : Int := elemSigned ew (a i)
    let sb (i : Nat) : Int := elemSigned ew (b i)
    let put (f : Nat → Nat) : State := s.setCore o.c (k.vput o.k ew o.rd f).retire
    let cmp (f : Nat → Bool) : State := s.setCore o.c (k.kput o.k ew o.rd f).retire
    exec (.vadd o) s = .next (put fun i => a i + b i) ∧ exec (.vsub o) s = .next (put fun i => a i + 2 ^ ew - b i) ∧
    exec (.vmul o) s = .next (put fun i => a i * b i) ∧ exec (.vand o) s = .next (put fun i => a i &&& b i) ∧
    exec (.vor o) s = .next (put fun i => a i ||| b i) ∧ exec (.vxor o) s = .next (put fun i => a i ^^^ b i) ∧
    exec (.vshl o) s = .next (put fun i => a i * 2 ^ (b i % 128)) ∧
    exec (.vshrl o) s = .next (put fun i => a i / 2 ^ (b i % 128)) ∧
    exec (.vshra o) s = .next (put fun i => ((sa i / 2 ^ (b i % 128)) % 2 ^ ew).toNat) ∧
    exec (.vmins o) s = .next (put fun i => if sa i ≤ sb i then a i else b i) ∧
    exec (.vmaxs o) s = .next (put fun i => if sa i ≤ sb i then b i else a i) ∧
    exec (.vminu o) s = .next (put fun i => min (a i) (b i)) ∧ exec (.vmaxu o) s = .next (put fun i => max (a i) (b i)) ∧
    (o.rd.val < 8 → exec (.vcmpeq o) s = .next (cmp fun i => decide (a i = b i)) ∧
      exec (.vcmplts o) s = .next (cmp fun i => decide (sa i < sb i)) ∧
      exec (.vcmpltu o) s = .next (cmp fun i => decide (a i < b i))) ∧
    (8 ≤ o.rd.val → exec (.vcmpeq o) s = .next ((s.setCore o.c k).exc o.c 2 k.pc.toNat none))

/-- VREDSUM adds the active elements, each sign-extended, to gb, modulo 2^64; VBCAST, VBCASTG and VMOV write element 0 of
va, the low bits of ga, the element of va; VSEL takes va where kK has its bit (everywhere with K = 0), else vb, in every
element below min(vl, 512 ÷ ew).
The predicate operations on all 64 bits, moves to and from general registers, the number of ones and the lowest one, −1
for none. -/
def Obligations.VectorReductionsAndMoves : Prop :=
  (∀ (o : VecOp) (s : State), s.ready o.c = true →
    let k := s.head o.c
    let ew := 8 * 2 ^ o.ew.val
    let a (i : Nat) : Nat := elem k.v[o.ra] ew i
    let on (i : Nat) : Bool := o.k == 0 || k.k[o.k].getLsbD i
    let put (p : Fin 8) (f : Nat → Nat) : State := s.setCore o.c (k.vput p ew o.rd f).retire
    exec (.vredsum o) s = .next (s.setCore o.c (k.gw o.rd (k.gr o.rb + BitVec.ofInt 64
      (((List.range (min k.vl (512 / ew))).filter on).map (fun i => elemSigned ew (a i))).sum)).retire) ∧
    exec (.vsel o) s = .next (put 0 fun i => if on i then a i else elem k.v[o.rb] ew i) ∧
    (o.rb = 0 → exec (.vbcast o) s = .next (put o.k fun _ => a 0) ∧
      exec (.vbcastg o) s = .next (put o.k fun _ => (k.gr o.ra).toNat) ∧ exec (.vmov o) s = .next (put o.k a))) ∧
  (∀ (o : KOp) (s : State) (d a b : Fin 8), s.ready o.c = true →
    let k := s.head o.c
    let put (x : Dbl) : State := s.setCore o.c { k with k := vset k.k d x }.retire
    let get (x : Dbl) : State := s.setCore o.c (k.gw o.rd x).retire
    (o.rd.val = d.val → o.ra.val = a.val → o.rb.val = b.val →
      exec (.kand o) s = .next (put (k.k[a] &&& k.k[b])) ∧ exec (.kor o) s = .next (put (k.k[a] ||| k.k[b])) ∧
      exec (.kxor o) s = .next (put (k.k[a] ^^^ k.k[b])) ∧ exec (.kandn o) s = .next (put (k.k[a] &&& ~~~k.k[b]))) ∧
    (o.rd.val = d.val → o.rb = 0 → exec (.kmovg o) s = .next (put (k.gr o.ra))) ∧
    (o.ra.val = a.val → o.rb = 0 →
      exec (.kmovk o) s = .next (get k.k[a]) ∧
      exec (.kpopc o) s = .next (get (BitVec.ofNat 64 ((List.range 64).countP k.k[a].getLsbD))) ∧
      (k.k[a] = 0 → exec (.kfirst o) s = .next (get (BitVec.allOnes 64))) ∧
      (∀ n, n < 64 → k.k[a].getLsbD n = true → (∀ j, j < n → k.k[a].getLsbD j = false) →
        exec (.kfirst o) s = .next (get (BitVec.ofNat 64 n)))))

/-- The vector floating-point operations element by element with the directions of the scalar ones; FSR takes the OR of the
active elements' flags; VFREDSUM adds in ascending order, each addition rounded, and with no active element writes fb and
raises nothing. -/
def Obligations.VectorFloat : Prop :=
  ∀ (o : VecFp) (s : State) (rm : Nat), s.ready o.c = true →
    let k := s.head o.c
    let t := fpFmt o.d
    let ew := t.width
    let a (i : Nat) : Nat := elem k.v[o.ra] ew i
    let b (i : Nat) : Nat := elem k.v[o.rb] ew i
    let d (i : Nat) : Nat := elem k.v[o.rd] ew i
    let act := k.actives o.k ew
    let flags (f : Nat → Nat) : BitVec 16 := k.fsr ||| BitVec.ofNat 16 (act.foldl (fun x i => x ||| f i) 0 % 32)
    let put (f : Nat → Nat × Nat) : State :=
      s.setCore o.c { k.vput o.k ew o.rd (fun i => (f i).1) with fsr := flags (fun i => (f i).2) }.retire
    let cmp (sig : Bool) (p : Nat → Bool) : State :=
      s.setCore o.c { k.kput o.k ew o.rd (fun i => p (cmpV (t.dec (a i)) (t.dec (b i)))) with
        fsr := flags (fun i => cmpFlags sig (t.dec (a i)) (t.dec (b i))) }.retire
    let half := 2 ^ (ew - 1)
    rm = (if o.rm = 7 then k.fsr.toNat / 256 % 8 else o.rm.toNat) → rm ≤ 4 →
    exec (.vfadd o) s = .next (put fun i => t.add rm (a i) (b i)) ∧ exec (.vfsub o) s = .next (put fun i => t.sub rm (a i) (b i)) ∧
    exec (.vfmul o) s = .next (put fun i => t.mul rm (a i) (b i)) ∧
    exec (.vfma o) s = .next (put fun i => t.fma rm (a i) (b i) (d i)) ∧
    exec (.vfdc o) s = .next (put fun i => t.fdc rm (d i) (a i) (b i)) ∧
    (∃ v f, exec (.vfredsum o) s = .next (s.setCore o.c { k with
        v := vset k.v o.rd (BitVec.ofNat 512 v), fsr := k.fsr ||| BitVec.ofNat 16 (f % 32) }.retire) ∧
      (act = [] → v = k.v[o.rb].toNat % 2 ^ ew ∧ f = 0) ∧
      (∀ i, act = [i] → (v, f) = ((t.add rm (k.v[o.rb].toNat % 2 ^ ew) (a i)).1 % 2 ^ 64, (t.add rm (k.v[o.rb].toNat % 2 ^ ew) (a i)).2))) ∧
    (o.rb = 0 → exec (.vfsqrt o) s = .next (put fun i => t.sqrt rm (a i)) ∧
      exec (.vfcvti o) s = .next (put fun i =>
        let r := t.toInt rm (-(half : Nat)) ((half : Nat) - 1) (a i)
        ((r.1 % (2 ^ ew : Nat)).toNat, r.2)) ∧
      exec (.vficvt o) s = .next (put fun i => t.ofInt rm (elemSigned ew (a i)))) ∧
    (o.rm = 0 → exec (.vfmin o) s = .next (put fun i => t.minMax false (a i) (b i)) ∧
      exec (.vfmax o) s = .next (put fun i => t.minMax true (a i) (b i)) ∧
      (o.rb = 0 → exec (.vfre o) s = .next (put fun i => (t.fre (a i), 0)) ∧
        exec (.vfrs o) s = .next (put fun i => (t.frs (d i) (a i), 0))) ∧
      (o.rd.val < 8 → exec (.vfcmpeq o) s = .next (cmp false fun r => r == 1) ∧
        exec (.vfcmplt o) s = .next (cmp true fun r => r == 0) ∧
        exec (.vfcmple o) s = .next (cmp true fun r => r == 0 || r == 1)))

/-- A vector load or store whose elements all pass their check reads or writes them all: a load writes each element of the
registers it names with the little-endian bytes at its address and keeps every other element, register and byte of memory;
a store writes each element's bytes, the last element's where two overlap, and no other byte. One that fails its check
takes the exception of its first failing element and writes nothing; so does a load whose read of an element meets a word
that cannot be corrected (cause 7, the data error in SYND).
Where the elements of a vector access lie (R298): unit stride and strided, indexed, and the fields of a structure. -/
def Obligations.VectorMemory : Prop :=
  (∀ (o : VecOp) (strided : Bool) (nf : Fin 4) (s : State), s.ready o.c = true → (strided = false → o.rb = 0) →
    let k := s.head o.c
    let u := s.setCore o.c k
    let n := 2 ^ o.ew.val
    let q := u.coreReq o.c
    let fits (wr : Bool) (l : List VAcc) : Prop :=
      u.vecFault o.c wr n l = none ∧ u.coreCut o.c = false ∧ (∀ x ∈ l, accessCode u q wr x.addr n = 0) ∧ (∀ i, i < 4 →
        bit (u.reg (dbgOf o.c Reg.dbgDbsLoC0 + 64 * i + 16)) 0 = false)
    let loads (i : List (Nat × Ecc) → Instr) (l : List VAcc) : Prop :=
      (fits false l → ∃ v : Vector VReg 32, exec (i []) s = .next (s.setCore o.c { k with v := v }.retire) ∧
        (∀ (r : Fin 32) (j : Nat), j < 64 / n → elem v[r] (8 * n) j =
          match l.find? (fun x => x.idx == j && o.rd.val + x.reg == r.val) with
          | some x => s.memNat x.addr n
          | none => elem k.v[r] (8 * n) j)) ∧
      (∀ j x, fits false l → l[j]? = some x → exec (i [(j, .lost)]) s =
        .next ((logUntagged (u.memEcc x.addr .lost) q x.addr 6).exc o.c 7 x.addr (some (256 * 6 + x.idx)))) ∧
      (∀ bad c a y, u.vecFault o.c false n l = some (c, a, y) → exec (i bad) s = .next (u.exc o.c c a (some y)))
    let stores (i : Instr) (l : List VAcc) : Prop :=
      (fits true l → ∃ t, exec i s = .next t ∧ t.core o.c = k.retire ∧
        t = { s with mem := t.mem, seq := t.seq, cmd := t.cmd } ∧
        (∀ b, t.byte b = match l.reverse.find? (fun x => decide (x.addr ≤ b) && decide (b < x.addr + n)) with
          | some x =>
            let r : Fin 32 := ⟨(o.rd.val + x.reg) % 32, Nat.mod_lt _ (by decide)⟩
            BitVec.ofNat 8 (elem k.v[r] (8 * n) x.idx / 256 ^ (b - x.addr))
          | none => s.byte b)) ∧
      (∀ c a y, u.vecFault o.c true n l = some (c, a, y) → exec i s = .next (u.exc o.c c a (some y)))
    loads (.vld o strided) (plainAccs o u (strideOff o strided)) ∧ loads (.vldx o) (plainAccs o u (indexOff o)) ∧
    stores (.vst o strided) (plainAccs o u (strideOff o strided)) ∧ stores (.vstx o) (plainAccs o u (indexOff o)) ∧
    (nf ≠ 0 → o.rd.val + nf.val ≤ 31 → o.rb = 0 →
      loads (.vlseg o nf) (segAccs o (nf.val + 1) u) ∧ stores (.vsseg o nf) (segAccs o (nf.val + 1) u))) ∧
  (∀ (o : VecOp) (s : State) (i : Nat),
    let k := s.core o.c
    let ew := 8 * 2 ^ o.ew.val
    let n := 2 ^ o.ew.val
    let g := k.gr o.ra
    let active : Prop := i < min k.vl (512 / ew) ∧ (o.k = 0 ∨ k.k[o.k].getLsbD i = true)
    (∀ x, x ∈ plainAccs o s (strideOff o false) → x.idx = i → active ∧ x.addr = (g + BitVec.ofNat 64 (i * n)).toNat) ∧
    (∀ x, x ∈ plainAccs o s (strideOff o true) → x.idx = i →
      active ∧ x.addr = (g + BitVec.ofNat 64 i * k.gr o.rb).toNat) ∧
    (∀ x, x ∈ plainAccs o s (indexOff o) → x.idx = i →
      active ∧ x.addr = (g + BitVec.ofNat 64 (elem k.v[o.rb] ew i)).toNat) ∧
    (∀ (nf : Nat) (x : VAcc), x ∈ segAccs o nf s → x.idx = i →
      active ∧ x.reg < nf ∧ x.addr = (g + BitVec.ofNat 64 ((i * nf + x.reg) * n)).toNat) ∧
    (active → (∃ x ∈ plainAccs o s (strideOff o false), x.idx = i) ∧ (∃ x ∈ plainAccs o s (strideOff o true), x.idx = i) ∧
      (∃ x ∈ plainAccs o s (indexOff o), x.idx = i) ∧
      ∀ nf j, j < nf → ∃ x ∈ segAccs o nf s, x.idx = i ∧ x.reg = j))

/-! ### The array group of the sequencer core (05) -/

/-- The array-group instructions on the sequencer core: an issue takes a free entry of its queue with copies of its three
plane pointers, and with SV its s register has a new owner and is not valid; a full queue makes it wait; an s register
named with SV 0 is illegal. PPSET takes a well-formed pointer and faults with cause 4 on any other, PPGET and PPADD read
and move one; SREAD delivers a valid register, 0 where no issue has named it, and waits otherwise; AWAIT retires at once
when its streams are idle and waits otherwise. On the command core each of them is illegal.
What ends a tick program and the waits: TEND, at once or when the streams become idle, records the DEVCLK cycles since
the tick's start with the overrun mark, keeps the greatest, and the program is over (no start held, no mirrored input, no
digest in hand); a waiting issue retires when its queue has room, AWAIT in the first idle cycle, SREAD once its register is
valid. A result reaches its s register where the issue that asked for it still owns it. -/
def Obligations.ArrayInstructions : Prop :=
  (∀ (s : State) (rtn : BitVec 10) (pd p1 p2 p : Fin 16) (r : Fin 8) (sv u : Bool) (d : Nat) (g : Fin 32) (imm : BitVec 12),
    (s.readyOnce .cmd = true → ∀ i ∈ [Instr.issn .cmd rtn pd p1 p2 r sv, .issu .cmd rtn pd p1 p2 r sv, .await .cmd u,
        .sread .cmd g r, .tend .cmd d, .ppset .cmd g p, .ppget .cmd g p, .ppadd .cmd p imm],
      exec i s = .next ((s.setCore .cmd (s.head .cmd)).exc .cmd 2 (s.head .cmd).pc.toNat none)) ∧
    (s.readyOnce .seq = true →
      let k := s.head .seq
      let wait (w : Wait) : State := { s with seq := { k with wait := some w } }
      let bad (cause : Nat) : State := (s.setCore .seq k).exc .seq cause k.pc.toNat none
      let i := if u then Instr.issu .seq rtn pd p1 p2 r sv else .issn .seq rtn pd p1 p2 r sv
      let e : Entry := ⟨rtn.toNat, s.iss.ptr[pd], s.iss.ptr[p1], s.iss.ptr[p2], if sv then some r else none, 0, 0, u⟩
      let n := s.iss.issueNo + 1
      (sv = false → r ≠ 0 → exec i s = .next (bad 2)) ∧
      ((sv = true ∨ r = 0) → s.mseq.full u = true → exec i s = .next (wait (.issue e))) ∧
      ((sv = true ∨ r = 0) → s.mseq.full u = false → ∃ q : Vector SReg 8, exec i s = .next { s with
          seq := k.retire
          mseq := { s.mseq with accept := s.mseq.accept ++ [{ e with issue := n, acc := s.mseq.acceptAt u s.acyc }] }
          iss := { s.iss with issueNo := n, sreg := q } } ∧
        (∀ x : Fin 8, q[x] = if sv ∧ x = r then ⟨s.iss.sreg[r].val, false, n, true⟩ else s.iss.sreg[x])) ∧
      (∀ v : Nat, v = (k.gr g).toNat →
        let w := v / 2 ^ 12 % 128
        let f := v / 2 ^ 19 % 16
        let fit := 1 ≤ w ∧ w ≤ 64 ∧ f ≤ 5 ∧ v < 2 ^ 23 ∧ (f = 2 → w = 1) ∧ (f = 3 ∨ f = 4 → w = 16) ∧ (f = 5 → w = 32)
        (fit → ∃ q : Vector Ptr 16, exec (.ppset .seq g p) s = .next { s with seq := k.retire, iss := { s.iss with ptr := q } } ∧
          ∀ x : Fin 16, q[x] = if x = p then ⟨v % 2 ^ 12, w, f⟩ else s.iss.ptr[x]) ∧
        (¬ fit → exec (.ppset .seq g p) s = .next (bad 4))) ∧
      exec (.ppget .seq g p) s = .next { s with seq := (k.gw g (BitVec.ofNat 64
        (s.iss.ptr[p].base + 2 ^ 12 * s.iss.ptr[p].width + 2 ^ 19 * s.iss.ptr[p].fmt))).retire } ∧
      (∃ q : Vector Ptr 16, exec (.ppadd .seq p imm) s = .next { s with seq := k.retire, iss := { s.iss with ptr := q } } ∧
        ∀ x : Fin 16, q[x] = if x = p then { s.iss.ptr[p] with base := (s.iss.ptr[p].base + imm.toNat) % 4096 } else s.iss.ptr[x]) ∧
      (s.iss.sreg[r].named = false → exec (.sread .seq g r) s = .next { s with seq := (k.gw g 0).retire }) ∧
      (s.iss.sreg[r].named = true → s.iss.sreg[r].valid = true →
        exec (.sread .seq g r) s = .next { s with seq := (k.gw g s.iss.sreg[r].val).retire }) ∧
      (s.iss.sreg[r].named = true → s.iss.sreg[r].valid = false →
        exec (.sread .seq g r) s = .next (wait (.sread g r))) ∧
      (s.idleNow u = true → exec (.await .seq u) s = .next { s with seq := k.retire }) ∧
      (s.idleNow u = false → exec (.await .seq u) s = .next (wait (.await u))) ∧
      (s.idleNow true = false → exec (.tend .seq d) s = .next (wait .tend)) ∧
      (s.idleNow true = true → s.tick.inTick = false → exec (.tend .seq d) s = .next { s with seq := k.retire }))) ∧
  (∀ (s : State) (d : Nat),
    let ends (t : State) (u : State) : Prop :=
      let v := min ((if s.wh.devLost then s.dcyc else d) - s.tick.startAt) 0x1FFFFFF
      t.tick.inTick = false ∧ t.tick.isOver = false ∧ t.tick.held = none ∧
      t.reg Reg.tickTendMax = BitVec.ofNat 32 (max (u.reg Reg.tickTendMax).toNat v) ∧
      t.reg Reg.tickTend = BitVec.ofNat 32 (v + if s.tick.isOver then 2 ^ 31 else 0) ∧ t.mem = s.mem
    let plain : Prop := s.tick.inTick = true ∧ s.tick.held = none ∧ s.twin.inputs = [] ∧ s.twin.digTicks = []
    (s.readyOnce .seq = true → s.idleNow true = true → plain → ∃ t, exec (.tend .seq d) s = .next t ∧
      t.seq = (s.head .seq).retire ∧ ends t s) ∧
    (s.waitFree = true →
      let k := { s.seq with wait := none }.retire
      (∀ e, s.seq.wait = some (.issue e) → s.mseq.full e.urgent = false → ∃ t, exec .issueRetire s = .next t ∧ t.seq = k ∧
        t.mseq.accept = s.mseq.accept ++
          [{ e with issue := s.iss.issueNo + 1, acc := s.mseq.acceptAt e.urgent s.acyc }] ∧
        t.regs = s.regs ∧ t.mem = s.mem) ∧
      (∀ u c, s.seq.wait = some (.await u) → s.idleBoth u = some c → s.canReach c = true →
        ∃ t, exec .awaitRetire s = .next t ∧ t.seq = k ∧ t.regs = s.regs ∧ t.mem = s.mem) ∧
      (∀ g r, s.seq.wait = some (.sread g r) → s.iss.sreg[r].valid = true →
        exec .sreadRetire s = .next { s with seq := ({ s.seq with wait := none }.gw g s.iss.sreg[r].val).retire }) ∧
      (∀ c, s.seq.wait = some .tend → s.idleBoth true = some c → s.canReach c = true → plain →
        ∃ t, exec (.tendRetire d) s = .next t ∧ t.seq = k ∧ ends t s)) ∧
    (∀ x : Delivery, argMin (·.due) (s.sump.deliver.filter (fun x => match x.needs with
        | none => true
        | some i => !(s.sump.flight.any (·.id == i)))) = some x →
      let own := s.iss.sreg[x.sreg].owner = x.issue ∧ s.iss.sreg[x.sreg].named = true ∧ s.iss.sreg[x.sreg].valid = false
      (∃ t, exec .sRegisterValid s = .next t ∧ t.mem = s.mem ∧ t.regs = s.regs ∧ t.seq = s.seq ∧
        (∀ y : Fin 8, y ≠ x.sreg → t.iss.sreg[y] = s.iss.sreg[y]) ∧
        (own → s.mode ≠ .faultHold → t.iss.sreg[x.sreg].val = x.value ∧ t.iss.sreg[x.sreg].valid = true) ∧
        (¬ own → t.iss.sreg[x.sreg] = s.iss.sreg[x.sreg]))))

/-! ### The microsequencer, the array and the sump (02, 03) -/

/-- Dispatch and the commands around it, each with the state in which it completes: an accepted issue enters its queue;
preparation takes the urgent head, else the restart slot, else the normal head, and a queue head without a valid table entry
leaves its queue, its s register valid with 0; dispatch starts the prepared routine at START, from a queue head or the restart
slot, in the first cycle that the gap of 03 R105 lets it take, with its stream's accumulator and loop state cleared, but gives
way to an urgent entry accepted before that cycle; preemption puts the running normal routine into the restart slot and counts;
a commit overrun is the fatal cause 5, with the routine and the microword concerned; DISP_EN is stored; a microword written by
halves is stored whole where both parities hold, and refused with CS_ERR where one does not. -/
def Obligations.MicrosequencerCommands : Prop :=
  ∀ (s : State) (q : Requester),
    (∀ e l, s.mode ≠ .faultHold → s.mseq.accept = e :: l → ∃ t, exec .entryAccepted s = .next t ∧ t.mseq.accept = l ∧
      t.mseq.uq = (if e.urgent then s.mseq.uq ++ [e] else s.mseq.uq) ∧
      t.mseq.nq = (if e.urgent then s.mseq.nq else s.mseq.nq ++ [e]) ∧ t.mem = s.mem ∧ t.regs = s.regs ∧ t.arr = s.arr) ∧
    (s.mayDispatch = true → s.mseq.prep = none →
      let fit (e : Entry) : Prop := (s.rtabLo e.rtn).getLsbD 31 = true ∧
        (if e.rtn < 512 then (s.rtabLo e.rtn).toNat % 2 ^ 14 < 8192 else 8192 ≤ (s.rtabLo e.rtn).toNat % 2 ^ 14)
      let ready (p : Prep) : State := { s with mseq := { s.mseq with prep := some p } }
      let refusal (e : Entry) (t : State) : Prop := t.mseq.prep = none ∧ bit (t.reg Reg.mseqStat) 15 = true ∧
        (∀ r, e.sreg = some r → s.mode ≠ .faultHold → s.iss.sreg[r].owner = e.issue → s.iss.sreg[r].named = true →
          s.iss.sreg[r].valid = false → t.iss.sreg[r].valid = true ∧ t.iss.sreg[r].val = 0) ∧ t.mem = s.mem ∧ t.arr = s.arr
      (∀ e l, s.mseq.uq = e :: l → fit e → exec .dispatchPreparation s = .next (ready (.head true))) ∧
      (∀ e l, s.mseq.uq = e :: l → ¬ fit e → ∃ t, exec .dispatchPreparation s = .next t ∧ t.mseq.uq = l ∧
        t.mseq.nq = s.mseq.nq ∧ refusal e t) ∧
      (∀ e, s.mseq.uq = [] → s.mseq.restart = some e → exec .dispatchPreparation s = .next (ready .restart)) ∧
      (∀ e l, s.mseq.uq = [] → s.mseq.restart = none → s.mseq.nq = e :: l → fit e →
        exec .dispatchPreparation s = .next (ready (.head false))) ∧
      (∀ e l, s.mseq.uq = [] → s.mseq.restart = none → s.mseq.nq = e :: l → ¬ fit e →
        ∃ t, exec .dispatchPreparation s = .next t ∧ t.mseq.nq = l ∧ t.mseq.uq = [] ∧ refusal e t)) ∧
    (∀ e p, s.mayDispatch = true → s.mseq.run = none → s.mseq.prep = some p →
      let re : Bool := p == .restart
      let gap := max (if re then 0 else e.acc + 17) (s.mseq.relH + 16)
      let first := match s.mseq.lastP with
        | none => gap
        | some (l, u) => max (l + if u = e.urgent ∧ re = false then 1 else 17) gap
      let starts (t : State) : Prop := ∃ r, t.mseq.run = some r ∧ r.entry = e ∧
        r.next = (s.rtabLo e.rtn).toNat % 2 ^ 14 ∧ r.commitAt = none ∧ r.last = none ∧ t.mseq.prep = none ∧
        t.mseq.curRtn = e.rtn ∧ t.acyc = max s.acyc first ∧ t.mseq.loop e.urgent = LoopSt.reset ∧
        (if e.urgent then t.sump.uacc = 0 ∧ t.sump.nacc = s.sump.nacc else t.sump.nacc = 0 ∧ t.sump.uacc = s.sump.uacc) ∧
        t.mem = s.mem ∧ t.arr = { s.arr with slackGaps := [] }
      (p = .restart → s.mseq.restart = some e → s.mseq.uq = [] → ∃ t, exec .dispatch s = .next t ∧ starts t ∧
        t.mseq.restart = none ∧ t.mseq.nq = s.mseq.nq) ∧
      (∀ l, p = .head true → s.mseq.uq = e :: l → ∃ t, exec .dispatch s = .next t ∧ starts t ∧
        t.mseq.uq = l ∧ t.mseq.nq = s.mseq.nq ∧ t.mseq.restart = s.mseq.restart) ∧
      (∀ l, p = .head false → s.mseq.nq = e :: l → s.mseq.uq = [] → ∃ t, exec .dispatch s = .next t ∧ starts t ∧
        t.mseq.nq = l ∧ t.mseq.restart = s.mseq.restart) ∧
      (∀ x l, (p = .restart ∧ s.mseq.restart = some e) ∨ (p = .head false ∧ s.mseq.nq.head? = some e) → s.mseq.uq = x :: l →
        max s.acyc (x.acc + 1) ≤ first → exec .dispatch s = .next s)) ∧
    (∀ r c, s.mseq.run = some r → s.preemptAt = some c → ∃ t, exec .preemption s = .next t ∧ t.mseq.run = none ∧
      t.mseq.restart = some r.entry ∧ r.entry.urgent = false ∧ r.commitAt = none ∧ t.mseq.uq = s.mseq.uq ∧
      t.mseq.nq = s.mseq.nq ∧ t.mseq.lastP = some (c - 1, false) ∧ t.acyc = max s.acyc c ∧ t.mem = s.mem ∧
      ((s.reg Reg.mseqPreempt).toNat < 2 ^ 32 - 1 → (t.reg Reg.mseqPreempt).toNat = (s.reg Reg.mseqPreempt).toNat + 1)) ∧
    (∀ r, s.mseq.run = some r → s.mseqDown = false → (s.mseq.brk = none ∨ s.dbg.mstep = true) → s.preemptAt = none →
      s.overrunDue r = true → ∃ t, exec .commitOverrun s = .next t ∧
        t.reg Reg.mseqFatal = BitVec.ofNat 32 (5 + 256 * s.addrOf r + 2 ^ 22 * r.entry.rtn) ∧ t.fatalSeen = true ∧
        (s.fatalSeen = false → t.fld Reg.errorFatal 5 0 = 7) ∧ t.mem = s.mem) ∧
    (∀ on, s.admitted q true Reg.mseqCtl = true → ∃ t, exec (.dispEn q on) s = .next t ∧ t.mseq.dispEn = on ∧
      (on = false → t.mseq.prep = none) ∧ t.mem = s.mem ∧ t.regs = s.regs ∧ t.arr = s.arr ∧ t.mseq.run = s.mseq.run ∧
      t.mseq.uq = s.mseq.uq ∧ t.mseq.nq = s.mseq.nq) ∧
    (∀ (n : Fin 16384) (w : Micro), accessCode s q true (0x30000000 + 16 * n.val) 8 = 0 → s.alive = true → ∃ t u,
        exec (.controlStoreWrite q (BitVec.ofNat 18 (16 * n.val)) true (w.setWidth 64)) s = .next t ∧
        exec (.controlStoreWrite q (BitVec.ofNat 18 (16 * n.val + 8)) true ((w >>> 64).setWidth 64)) t = .next u ∧
        t.mseq.cs = s.mseq.cs ∧ t.regs = s.regs ∧ u.mem = s.mem ∧ u.arr = s.arr ∧
        (parityOk w = true → u.regs = s.regs ∧ ∀ m : Nat, sget (fun _ => (0 : Micro)) u.mseq.cs m =
          if m = n.val then w else sget (fun _ => (0 : Micro)) s.mseq.cs m) ∧
        (parityOk w = false → u.mseq.cs = s.mseq.cs ∧ bit (u.reg Reg.mseqStat) 16 = true)) ∧
    (∀ (n : Fin 16384) (i : Fin 4) (x : Word), accessCode s q true (0x30000000 + 16 * n.val + 4 * i.val) 4 = 0 →
      s.alive = true → ∃ t, exec (.controlStoreWrite q (BitVec.ofNat 18 (16 * n.val + 4 * i.val)) false (x.setWidth 64)) s =
          .next t ∧ (i.val < 3 → t = { s with mseq := t.mseq } ∧ t.mseq.cs = s.mseq.cs) ∧ t.mem = s.mem ∧ t.arr = s.arr ∧
        ∀ m : Nat, m ≠ n.val → sget (fun _ => (0 : Micro)) t.mseq.cs m = sget (fun _ => (0 : Micro)) s.mseq.cs m)

/-- A stored microword runs in its last cycle: it is shown as broadcast, the clock stands behind that cycle, and the next
one is the one its sequencing operation names: the following address, the target of LOOP while its count is not 0, of the
branches on the tested OR, of CALL, the return address, or the end of the routine. Its plane write stands in flight until
two cycles after it. PLANE_SWAP is such a microword with its swap bit set. -/
def Obligations.MicrowordRuns : Prop :=
  ∀ (s : State) (r : Running) (m : Micro),
    let quiet : MwEvents := ⟨false, none, none⟩
    let l := s.mseq.loop r.entry.urgent
    let o := opOf m r.entry l.lidx r.edge
    let e := s.lastCycle r
    let v := mf m 90 88
    let dst := mf m 104 91
    let tested := match r.last with
      | some c => c.or
      | none => false
    let goes (t : State) (a : Nat) : Prop := ∃ x, t.mseq.run = some x ∧ x.next = a ∧ x.entry = r.entry
    s.mseq.run = some r → s.fromLib r = false → sget (fun _ => (0 : Micro)) s.mseq.cs r.next = m → s.mseqDown = false →
    (s.mseq.brk = none ∨ s.dbg.mstep = true) → s.preemptAt = none → s.overrunDue r = false → illegalMicro m = false → r.entry.rtn < 512 →
    s.arr.errs = [] → s.arr.inj = [] → mf m 107 105 = 0 → r.next < 16383 →
    (∃ t, exec (.microword quiet) s = .next t ∧ t.acyc = e + 1 ∧ t.mseq.curAddr = r.next ∧ t.mseq.curRtn = r.entry.rtn ∧
      t.mem = s.mem ∧
      (v ≤ 3 → goes t (if v = 0 ∨ (v = 1 ∧ l.lcnt = 0) ∨ (v = 2 ∧ tested = false) ∨ (v = 3 ∧ tested = true)
        then r.next + 1 else dst)) ∧
      (v = 1 → (t.mseq.loop r.entry.urgent).lcnt = l.lcnt - 1 ∧ (t.mseq.loop r.entry.urgent).lidx = (l.lidx + 1) % 256) ∧
      (v = 4 → l.calls.length < 4 → goes t dst ∧ (t.mseq.loop r.entry.urgent).calls = (r.next + 1) :: l.calls) ∧
      (∀ a c, v = 5 → l.calls = a :: c → goes t a ∧ (t.mseq.loop r.entry.urgent).calls = c) ∧
      (v = 6 → t.mseq.run = none ∧ t.mseq.lastP = some (e, r.entry.urgent)) ∧
      (∀ p cond, o.wr = some (p, cond) → v = 0 → ∃ w ∈ t.arr.flight, w.plane = p ∧ w.due = e + 2 ∧
        w.urgent = r.entry.urgent ∧ w.scrub = none) ∧
      (m.getLsbD 119 = true → exec (.planeSwap quiet) s = .next t ∧
        (v = 0 → ∃ w ∈ t.arr.flight, w.isSwap = true ∧ w.due = e + 2)))

/-- The wells and the fields: a write commits at the end of its cycle E + 2 in the lanes it covers; the clear that ends a
power-up leaves every plane and latch of the field 0 and every other field as it was; a cleared field becomes live, but where the
broadcast tree or its own path does not reach it, and a field to be switched leaves the array only between routines, each in one cycle, and its pump's descriptor and injections
end; the scrubber goes plane by plane and counts a pass at plane 4,095; the overlay takes, logs and forgets rows; TILE_CTL
stores SUMP_EXCL and accepts injections in Ready and Self-test for live tiles only. -/
def Obligations.ArrayCells : Prop :=
  ∀ (s : State) (q : Requester) (f : Fin 16),
    let b := 1#16 <<< f.val
    (∀ w l, s.arr.flight = w :: l → (∀ x ∈ l, w.due < x.due) → w.scrub = none → (s.mseq.run = none ∨ w.due < s.acyc) → ∃ t, exec .wellCommit s = .next t ∧
      t.arr.flight = l ∧ t.well w.plane = (w.val &&& w.mask) ||| (s.well w.plane &&& ~~~w.mask) ∧
      (∀ p, p ≠ w.plane → t.well p = s.well p) ∧ t.mem = s.mem ∧ t.regs = s.regs ∧ t.sump = s.sump) ∧
    (s.arr.clearing.getLsbD f.val = true → s.arr.flight = [] → ∃ t, exec (.fieldClear f) s = .next t ∧
      (∀ p, p < 4096 → t.well p = s.well p &&& ~~~(fieldMask f.val)) ∧
      t.arr.cy = s.arr.cy &&& ~~~(fieldMask f.val) ∧ t.arr.tg = s.arr.tg &&& ~~~(fieldMask f.val) ∧
      t.arr.lk = s.arr.lk &&& ~~~(fieldMask f.val) ∧ t.arr.an = s.arr.an &&& ~~~(fieldMask f.val) ∧
      t.arr.au = s.arr.au &&& ~~~(fieldMask f.val) ∧ t.arr.io = s.arr.io &&& ~~~(fieldMask f.val) ∧
      t.arr.clearing = s.arr.clearing &&& ~~~b ∧ t.arr.cleared = s.arr.cleared ||| b ∧ t.mem = s.mem ∧ t.regs = s.regs) ∧
    (s.arr.cleared.getLsbD f.val = true → s.mseq.run = none → s.mseq.uq = [] → s.mode ≠ .faultHold → s.pwr.bcast = true →
      s.arr.pathBad.getLsbD f.val = false → exec (.fieldLive f) s = .next { s with
        acyc := s.acyc + 1, arr := { s.arr with live := s.arr.live ||| b, cleared := s.arr.cleared &&& ~~~b } }) ∧
    (s.pwr.bcast = false ∨ s.arr.pathBad.getLsbD f.val = true → exec (.fieldLive f) s = .next s) ∧
    (s.arr.live.getLsbD f.val = true → s.mseq.run = none → s.mseq.uq = [] → s.mode ≠ .faultHold → s.arr.flight = [] →
      (∃ g, (f.val, g) ∈ s.pwr.chg ∧ g ≠ .on) → ∃ t, exec (.fieldDry f) s = .next t ∧
        t.arr = { s.arr with live := s.arr.live &&& ~~~b, inj := s.arr.inj.filter (fun i => fieldOfTile i.1 != f.val) } ∧
        (s.pump[f].desc ≠ none → s.pump[f].result = none → t.pump[f].result = some 2) ∧
        (∀ g : Fin 16, g ≠ f → t.pump[g] = s.pump[g]) ∧ t.acyc = s.acyc + 1 ∧ t.mem = s.mem ∧ t.regs = s.regs) ∧
    (∀ c, s.scrubCycle = some c → bit (s.reg Reg.arrayScrub) 0 = true → s.mseqDown = false → s.arr.live ≠ 0 →
      s.arr.flight = [] → s.arr.errs = [] → ∃ t, exec (.scrubOperation none) s = .next t ∧
        t.arr.scrubPlane = (s.arr.scrubPlane + 1) % 4096 ∧ t.arr.wells = s.arr.wells ∧ t.arr.flight = [] ∧
        t.arr.errs = [] ∧ t.mem = s.mem ∧ (s.arr.scrubPlane ≠ 4095 → t.regs = s.regs) ∧
        (s.arr.scrubPlane = 4095 → (s.reg Reg.arrayScrubPasses).toNat < 2 ^ 32 - 1 →
          (t.reg Reg.arrayScrubPasses).toNat = (s.reg Reg.arrayScrubPasses).toNat + 1)) ∧
    (s.admitted q true Reg.arrayOvlCmd = true → s.arr.logging = none →
      let w := s.reg Reg.arrayOvlRow
      let row := w.toNat % 2 ^ 19
      let x : BitVec 4 := BitVec.ofNat 4 (w.toNat / 2 ^ 20)
      ((s.arr.overlay.any (·.1 == row) = true ∨ s.arr.overlay.length < 256) → exec (.ovlAdd q) s = .next { s with
        arr := { s.arr with overlay := s.arr.overlay.filter (·.1 != row) ++ [(row, x)] } }) ∧
      (s.wh.flash.log.length < 1000 → exec (.ovlLog q) s = .next { s with arr := { s.arr with logging := some (row, x) } }) ∧
      exec (.ovlClear q) s = .next { s with arr := { s.arr with overlay := [] } }) ∧
    (∀ e, s.arr.logging = some e → exec .logAppendComplete s = .next { s with
      arr := { s.arr with logging := none }
      wh := { s.wh with flash := { s.wh.flash with log := s.wh.flash.log ++ [e] } } }) ∧
    (∀ (t : Fin 1024) (v : Word), s.admitted q true (Reg.tileCtl + 16 * t.val) = true →
      let k := v.toNat / 2 % 4
      let taken : Prop := (s.mode = .ready ∨ s.mode = .selfTest) ∧ (k = 1 ∨ k = 2)
      (s.arr.live.getLsbD (fieldOfTile t.val) = false → exec (.tileCtlInj q t v) s = .next s) ∧
      (s.arr.live.getLsbD (fieldOfTile t.val) = true → ∃ excl inj, exec (.tileCtlInj q t v) s = .next { s with
          arr := { s.arr with excl := excl, inj := inj } } ∧
        (∀ j, j < 1024 → excl.getLsbD j = if j = t.val then v.getLsbD 0 else s.arr.excl.getLsbD j) ∧
        (taken → inj = s.arr.inj.filter (·.1 != t.val) ++ [(t.val, k)]) ∧ (¬ taken → inj = s.arr.inj)))

/-- The sump: the earliest result due appears, an OR with its tile vector first, a count in the count form or an
accumulator's value afterwards; with a parity error it is fatal too. A collected result waits for the tap clock's edges,
which present every result the synchroniser has passed, by stream and by the tile groups' masks, and nothing while TAP_EN is
0; the same edge clocks the flip-flops of the trees that rise, and nothing rises while the fabric does not run. Clearing TAP_EN
discards what has been collected and clears the outputs. A read of SUMP_TILEOR takes the snapshot. -/
def Obligations.SumpAndTap : Prop :=
  ∀ (s : State) (q : Requester),
    (∀ c, argMin Contrib.due s.sump.flight = some c → ∃ t, exec (.sumpResult false) s = .next t ∧ t.mem = s.mem ∧
      t.arr = s.arr ∧ t.sump.nacc = s.sump.nacc ∧ t.sump.uacc = s.sump.uacc ∧ t.sump.snap = s.sump.snap ∧
      (c.stage = 0 → t.sump.tiles = c.tiles ∧ t.regs = s.regs ∧
        (c.op = 1 → t.sump.flight = s.sump.flight.filter (fun x => x.id != c.id)) ∧
        (c.op ≠ 1 → t.sump.flight = s.sump.flight.map (fun x => if x.id == c.id then { x with stage := 1 } else x))) ∧
      (c.stage ≠ 0 → t.sump.tiles = s.sump.tiles ∧ t.sump.flight = s.sump.flight.filter (fun x => x.id != c.id) ∧
        (c.op = 2 → t.sump.last = BitVec.ofNat 64 (c.count + (if c.or then 2 ^ 23 + 2 ^ 46 else 0) + 2 ^ 24 * c.first)) ∧
        (c.op ≠ 2 → c.urgent = true → t.sump.uaccShown = c.acc ∧ t.sump.naccShown = s.sump.naccShown) ∧
        (c.op ≠ 2 → c.urgent = false → t.sump.naccShown = c.acc ∧ t.sump.uaccShown = s.sump.uaccShown)) ∧
      ∃ u, exec (.sumpResult true) s = .next u ∧ (bit (u.reg Reg.sumpStat) 2 = true ∧ u.fatalSeen = true) ∧
        u.sump.flight = t.sump.flight) ∧
    (∀ x l, s.sump.tapFlight = x :: l → ∃ t, exec .tapCollect s = .next t ∧ t.sump = { s.sump with
        tapFlight := l
        collected := s.sump.collected ++ if (s.reg Reg.sumpCtl).getLsbD 0 then [x] else [] } ∧
      t.mem = s.mem ∧ t.regs = s.regs ∧ t.arr = s.arr) ∧
    (∀ (n : Nat) (trees : BitVec 4) (pins : BitVec 48),
      let rises (i : Fin 4) : Bool := trees.getLsbD i.val && s.treeRuns i
      (s.edgeActs = false → exec (.tapClockEdge n trees pins) s = .next s) ∧
      (s.edgeActs = true → ∃ t, exec (.tapClockEdge n trees pins) s = .next t ∧ t.mem = s.mem ∧ t.regs = s.regs ∧ t.arr = s.arr ∧
        t.edge.pinIn = pins ∧
        (∀ i, i < 32768 → t.edge.ff.getLsbD i =
          if rises (Config.cellCfg s.edge.frames i).clk ∧ s.edge.isolated.getLsbD (i / 8 % 64 / 8) = false
            then ({ s with edge := { s.edge with pinIn := pins } } : State).ffNext i else s.edge.ff.getLsbD i) ∧
        (rises (Config.tapTree s.edge.frames) = false → t.sump = s.sump) ∧
        (rises (Config.tapTree s.edge.frames) = true →
          let young := (s.sump.collected.filter (fun x => x.age == 0)).zipIdx
          let out := s.sump.collected.filter (fun x => x.age != 0) ++ (young.filter (fun x => n.testBit x.2)).map (·.1)
          t.sump = { s.sump with
            tap := t.sump.tap, collected := (young.filter (fun x => !n.testBit x.2)).map (fun x => { x.1 with age := 1 }) } ∧
          ((s.reg Reg.sumpCtl).getLsbD 0 = false → t.sump.tap = ⟨false, false, false, false, false, 0⟩) ∧
          ((s.reg Reg.sumpCtl).getLsbD 0 = true →
            t.sump.tap.nv = out.any (fun x => !x.urgent) ∧ t.sump.tap.uv = out.any (fun x => x.urgent) ∧
            t.sump.tap.nor = out.any (fun x => !x.urgent && x.or) ∧ t.sump.tap.uor = out.any (fun x => x.urgent && x.or) ∧
            (∀ g, g < 4 → t.sump.tap.g.getLsbD g =
              out.any (fun x => tapSrc (s.reg Reg.sumpCtl) g x.urgent && x.tiles &&& s.tgMask g != 0)))))) ∧
    (∀ v ev, s.alive = true → s.admitted q true Reg.sumpCtl = true → ∃ t,
      exec (.registerWrite q (BitVec.ofNat 48 Reg.sumpCtl) v ev) s = .next t ∧ t.mem = s.mem ∧ t.arr = s.arr ∧
      (∀ b, b ≠ Reg.sumpCtl → t.reg b = s.reg b) ∧
      t.sump = { s.sump with
        collected := if v.getLsbD 0 then s.sump.collected else []
        tap := if v.getLsbD 0 then s.sump.tap else ⟨false, false, false, false, false, 0⟩ }) ∧
    (s.admitted q false Reg.sumpTileor = true → exec (.tileorSnapshot q) s = .next { s with
      sump := if q.quiet then { s.sump with dbgSnap := s.sump.tiles } else { s.sump with snap := s.sump.tiles } })

/-! ### Registers, ticks (00 R8, R9; 05; 15 R408) -/

/-- Accesses to registers as commands: a refused one changes nothing but the logs of the refusal; a write stores the RW bits
of a register, clears the W1C bits where it has 1 and leaves the rest and every other register; a read of an RC counter
delivers its value and clears it, the saturation bit staying; where a hardware event of the same cycle sets a bit, or puts a
value into an RC field, that stays; a read of the low word of a latched pair holds the high half
for its station, which that station's next read of the high word delivers. -/
def Obligations.RegisterAccess : Prop :=
  ∀ (s : State) (q : Requester) (v ev : Word), s.alive = true → q.src ≠ 15 →
    (∀ a : BitVec 48, accessCode s q true a.toNat 4 ≠ 0 →
      exec (.registerWrite q a v ev) s = .next (logUntagged s q a.toNat (accessCode s q true a.toNat 4))) ∧
    (∀ x ∈ [(Reg.tickOffset, 0x1FFFFFF, 0), (Reg.tickStat, 0, 0x3A0), (Reg.arrayEdge, 0xF, 0),
        (Reg.arrayScrub, 0xFFFF0001, 0), (Reg.arrayEccStat, 0, 0x6000000), (Reg.mseqStat, 0, 0x3FC000),
        (Reg.sumpStat, 0, 3), (Reg.cisternStat, 0, 0xC0C0), (Reg.bulkStat, 0, 0x34), (Reg.ringStat, 0, 0x34),
        (Reg.edgeStat, 0, 0x3F0000), (Reg.jesdStat, 0, 0x30000), (Reg.jesdSysrefDly, 0xFFF, 0), (Reg.valveStat, 0, 0x800),
        (Reg.twinStat, 0, 0x1C00), (Reg.powerStat, 0, 0x70000), (Reg.clockStat, 0, 0x20), (Reg.pumpIrq, 0, 0xFFFF),
        (Reg.errorContLog, 0, 0xC0), (Reg.seqcoreIrqEn, 0xFFFFFFFF, 0), (Reg.pumpRbase, 0xFFFFFFC0, 0)],
      s.admitted q true x.1 = true → ∃ t, exec (.registerWrite q (BitVec.ofNat 48 x.1) v ev) s = .next t ∧
        t = { s with regs := t.regs } ∧ (∀ b, b ≠ x.1 → t.reg b = s.reg b) ∧
        (∀ i, i < 32 → (ev.getLsbD i = false ∨ Nat.testBit x.2.2 i = false → (t.reg x.1).getLsbD i =
            if Nat.testBit x.2.1 i then v.getLsbD i else (s.reg x.1).getLsbD i && !(Nat.testBit x.2.2 i && v.getLsbD i)) ∧
          (ev.getLsbD i = true → Nat.testBit x.2.2 i = true → (s.reg x.1).getLsbD i = true →
            (t.reg x.1).getLsbD i = true))) ∧
    (∀ x ∈ [(Reg.tickOverruns, 0xFFFFFFFF), (Reg.tickSkips, 0xFFFFFFFF), (Reg.tickLates, 0xFFFFFFFF),
        (Reg.arrayEccCorr, 0xFFFFFFFF), (Reg.arrayScrubPasses, 0xFFFFFFFF), (Reg.mseqDispatch, 0xFFFFFFFF),
        (Reg.mseqPreempt, 0xFFFFFFFF), (Reg.pumpDone, 0xFFFFFFFF), (Reg.cisternCorr, 0xFFFFFFFF),
        (Reg.cisternColl, 0xFFFF), (Reg.bulkCorr, 0xFFFFFFFF), (Reg.ringErrcnt, 0xFFFFFFFF), (Reg.ringAged, 0xFFFFFFFF),
        (Reg.jesdSrErr, 0xFFFF), (Reg.jesdLaneErr, 0xFFFFFF), (Reg.valveClips, 0xFFFFFFFF),
        (Reg.twinFailover, 0xFFFFFFFF), (Reg.errorContCnt, 0xFFFFFFFF), (Reg.errorStPasses, 0xFFFFFFFF)],
      s.admitted q false x.1 = true → q.quiet = false → ∃ t, exec (.readClear q (BitVec.ofNat 48 x.1) ev) s = .next t ∧
        t.ring.readVal = some (s.reg x.1) ∧ (∀ b, b ≠ x.1 → t.reg b = s.reg b) ∧ t.mem = s.mem ∧
        (∀ i, i < 32 → (t.reg x.1).getLsbD i = if Nat.testBit x.2 i then ev.getLsbD i else (s.reg x.1).getLsbD i)) ∧
    (∀ a a' : BitVec 48, latchedPairs.contains a.toNat = true → a'.toNat = a.toNat + 4 → s.admitted q false a.toNat = true →
      ∃ t, exec (.latchedHighRead q a) s = .next t ∧ t.ring.readVal = some (loHalf (t.pairVal a.toNat)) ∧
        (t.admitted q false a'.toNat = true → ∃ u, exec (.latchedHighRead q a') t = .next u ∧
          u.ring.readVal = some (hiHalf (t.pairVal a.toNat))))

/-- The tick registers and DEVCLK: TICK_CTL sets policy and warning and, on EN's rise, arms with count, frame and numbers 0;
the reserved policy is ignored with CFG_ERR; TICK_PERIOD and TICK_FRAME_LEN act at once while EN is 0, are pending while it
is 1, and out of range are ignored with CFG_ERR; the capture after arming puts the first boundary TICK_OFFSET cycles later;
a lost DEVCLK stops the generator with EN kept, shuts the links off, and is fatal in Solo, Active and Shadow only; DEVCLK is
present again with the frequency measured, and links still enabled leave off (log 18).
A tick's boundaries: the pulse begins on the first edge of a tree of divider div at or after the boundary and lasts one of
its periods; the next boundary follows a period later; outside a join the tick, frame and in-frame numbers go on from
0; the tick that ends is judged by whether its TEND has retired: an overrun counts, under HOLD it is fatal outside Ready and
Halted, under LOG the start is withheld and counted, and otherwise held; a start delivered raises the sequencer core's line
0. A waiting TEND that retires in the core cycle of the synchronised boundary counts as retired before it: no overrun. The late
warning comes once a tick while TEND is outstanding. -/
def Obligations.TickGenerator : Prop :=
  (∀ (s : State) (q : Requester) (v : Word) (d : Nat),
    (s.admitted q true Reg.tickCtl = true →
      let p := v.toNat / 2 % 4
      (p = 3 → exec (.tickCtl q v) s = .next (s.setBit Reg.tickStat 5)) ∧
      (p ≠ 3 → ∃ t, exec (.tickCtl q v) s = .next t ∧ t.tick.en = v.getLsbD 0 ∧ t.tick.policy = BitVec.ofNat 2 p ∧
        t.tick.warnEn = v.getLsbD 3 ∧ t.regs = s.regs ∧ t.mem = s.mem ∧
        (s.tick.en = false → v.getLsbD 0 = true → t.tick.armed = true ∧ t.tick.run = false ∧ t.tick.count = 0 ∧
          t.tick.frame = 0 ∧ t.tick.inframe = 0 ∧ t.tick.cur = 0) ∧
        (s.tick.en = true → v.getLsbD 0 = false → t.tick.armed = false ∧ t.tick.run = false ∧
          t.tick.period = s.tick.pendPeriod.getD s.tick.period ∧ t.tick.frameLen = s.tick.pendFrame.getD s.tick.frameLen) ∧
        (s.tick.en = v.getLsbD 0 → t = { s with tick := t.tick } ∧ t.tick.run = s.tick.run ∧ t.tick.count = s.tick.count))) ∧
    (s.admitted q true Reg.tickPeriod = true →
      let n := v.toNat % 2 ^ 25
      (n < 64 ∨ 2 ^ 24 < n → exec (.tickPeriod q v) s = .next (s.setBit Reg.tickStat 5)) ∧
      (64 ≤ n → n ≤ 2 ^ 24 → exec (.tickPeriod q v) s = .next { s with
        tick := if s.tick.en then { s.tick with pendPeriod := some n } else { s.tick with period := n } })) ∧
    (s.admitted q true Reg.tickFrameLen = true →
      let n := v.toNat % 2 ^ 17
      (n = 0 ∨ 65536 < n → exec (.tickFrameLen q v) s = .next (s.setBit Reg.tickStat 5)) ∧
      (1 ≤ n → n ≤ 65536 → exec (.tickFrameLen q v) s = .next { s with
        tick := if s.tick.en then { s.tick with pendFrame := some n } else { s.tick with frameLen := n } })) ∧
    (s.devRuns = true → s.tick.armed = true → s.tick.first = false → s.tick.join = none → s.twin.joinCap = none →
      s.twin.join = false → s.twin.armStep = 0 → s.jesd.srSeen = false → 0 < s.tick.period → ∃ t,
        exec (.sysrefCapture d) s = .next t ∧ t.tick.first = true ∧
        t.tick.nextB = d + (s.reg Reg.tickOffset).toNat % 2 ^ 25 % s.tick.period ∧ t.tick.run = s.tick.run ∧
        t.jesd.srSeen = true ∧ t.jesd.lemc0 = d + (s.reg Reg.jesdSysrefDly).toNat % 2 ^ 12 ∧ t.mem = s.mem ∧ t.regs = s.regs) ∧
    (s.alive = true → s.mode ≠ .quiescent → s.wh.devLost = false → ∃ t, exec .devclkLost s = .next t ∧
      t.tick.run = false ∧ t.tick.armed = false ∧ t.tick.en = s.tick.en ∧ t.wh.devLost = true ∧ t.wh.devOk = false ∧
      (∀ k : Fin 4, t.jesd.rxSt[k] = 0 ∧ t.jesd.txSt[k] = 0) ∧ t.jesd.rxEn = s.jesd.rxEn ∧ t.jesd.txEn = s.jesd.txEn ∧
      bit (t.reg Reg.clockStat) 5 = true ∧ (s.running = true → t.fatalSeen = true) ∧
      (s.running = false → t.fatalSeen = s.fatalSeen) ∧ t.mem = s.mem) ∧
    (s.alive = true → s.mode ≠ .quiescent → 100000 ≤ d → d ≤ 750000 → ∃ t, exec (.devclkPresent d) s = .next t ∧
      t = { s with wh := t.wh, jesd := s.jesd.resume } ∧ t.wh.devLost = false ∧ t.wh.devOk = true ∧ t.wh.khz = d)) ∧
  ((∀ (t : Tick) (div : Nat),
    let u := t.boundary div
    u.lastB = t.nextB ∧ u.run = true ∧ u.lateDone = false ∧
    u.nextB = t.nextB + u.period ∧
    (t.first = true → t.join = none → u.count = 0 ∧ u.frame = 0 ∧ u.inframe = 0) ∧
    (t.first = false → t.join = none → u.count = t.count + 1 ∧
      (t.inframe + 1 < t.frameLen → u.frame = t.frame ∧ u.inframe = t.inframe + 1 ∧
        u.period = t.period ∧ u.frameLen = t.frameLen) ∧
      (t.frameLen ≤ t.inframe + 1 → u.frame = t.frame + 1 ∧ u.inframe = 0 ∧
        u.period = t.pendPeriod.getD t.period ∧ u.frameLen = t.pendFrame.getD t.frameLen)) ∧
    (∀ n f i, t.join = some (n, f, i) → u.count = BitVec.ofNat 64 n ∧ u.inframe = i) ∧
    (0 < div → t.divAt ≤ t.nextB → t.nextB ≤ u.pulse ∧ u.pulse < t.nextB + div ∧ (u.pulse - t.divAt) % div = 0 ∧
      u.pulseLen = div ∧ (u.inframe = 0 → u.framePulse = u.pulse))) ∧
  (∀ s : State, s.devRuns = true → s.tick.coming = true → s.stopped = false → s.tick.first = false → s.tick.join = none →
    s.tick.inframe + 1 < s.tick.frameLen → s.mode ≠ .active → s.mode ≠ .shadow → s.twin.digTicks = [] → s.twin.inputs = [] →
    (∀ c, s.waitFree = true → s.seq.wait = some .tend → s.idleBoth true = some c → s.canReach c = true → s.tick.inTick = true →
      s.tick.held = none → ∃ t, exec (.tickBoundary true) s = .next t ∧ t.tick.count = s.tick.count + 1 ∧
        t.tick.cur = s.tick.count + 1 ∧ t.tick.inTick = true ∧ t.tick.isOver = false ∧
        t.reg Reg.tickOverruns = s.reg Reg.tickOverruns ∧ t.seq.wait = none) ∧
    ∀ tie, tie = false ∨ s.seq.wait ≠ some .tend → ∃ t, exec (.tickBoundary tie) s = .next t ∧ t.tick.count = s.tick.count + 1 ∧ t.tick.lastB = s.tick.nextB ∧ t.mem = s.mem ∧
      (s.tick.inTick = false → t.tick.cur = s.tick.count + 1 ∧ t.tick.inTick = true ∧ t.tick.startAt = s.tick.nextB ∧
        t.regs = s.regs ∧ t.seq = { s.seq with irqPend := s.seq.irqPend ||| 1#32 } ∧ t.cmd = s.cmd) ∧
      (s.tick.inTick = true → t.tick.cur = s.tick.cur ∧ t.tick.inTick = true ∧
        (s.tick.judged = false → t.tick.isOver = true ∧ t.tick.judged = true ∧
          t.reg Reg.tickOverruns = (if (s.reg Reg.tickOverruns).toNat = 2 ^ 32 - 1 then s.reg Reg.tickOverruns
            else s.reg Reg.tickOverruns + 1) ∧
          (s.tick.policy = 2 → s.mode ≠ .ready → s.mode ≠ .halted → t.fatalSeen = true) ∧
          (s.tick.policy ≠ 2 ∨ s.mode = .ready ∨ s.mode = .halted → t.fatalSeen = false)) ∧
        (s.tick.policy = 1 → t.tick.held = s.tick.held ∧ t.reg Reg.tickSkips =
          (if (s.reg Reg.tickSkips).toNat = 2 ^ 32 - 1 then s.reg Reg.tickSkips else s.reg Reg.tickSkips + 1)) ∧
        (s.tick.policy = 0 → t.tick.held = some (s.tick.count + 1)))) ∧
  (∀ (s : State) (tie : Bool), s.devRuns = true → s.tick.coming = true → s.tick.warnEn = true → s.tick.inTick = true →
    s.tick.lateDone = false → s.stopped = false → (tie = false ∨ s.seq.wait ≠ some .tend) →
    ∃ t, exec (.lateWarning tie) s = .next t ∧
      t.tick = { s.tick with lateDone := true } ∧ t.seq = { s.seq with irqPend := s.seq.irqPend ||| 4#32 } ∧
      t.reg Reg.tickLates = (if (s.reg Reg.tickLates).toNat = 2 ^ 32 - 1 then s.reg Reg.tickLates
        else s.reg Reg.tickLates + 1) ∧ t.mem = s.mem))

/-! ### Pumps, cisterns, edge fabric (06, 07) -/

/-- The pumps, each command with the state in which it completes: TAIL is stored; an enabled pump without a descriptor fetches
the entry at HEAD and checks it, a dry field giving status 2, a bad format 3, an address outside memory 8; a pump that carries
out a descriptor fetches the entry after it; a fetch that is refused sets FETCH_ERR and, without a descriptor, stops the pump.
An IN plane shifted has its group of eight read and the next group after it, leaves its rows in the field's IO and the pump
waiting for a swap; a refused or uncorrectable read ends the descriptor with its status. An OUT plane leaves 0 in IO and stays
in the turn buffer until its group's last plane puts the group in memory, after what port A writes to the same words in the same
cycles, which counts as a collision. Completion writes the status and the planes moved, advances HEAD, raises the interrupt the
descriptor asks for, and statuses 3 to 6 and 8 stop the pump until RESUME; otherwise an entry fetched meanwhile is begun. FLUSH
ends the descriptor with status 7 and puts HEAD at TAIL. -/
def Obligations.PumpCommands : Prop :=
  ∀ (s : State) (q : Requester) (f : Fin 16) (v : Word),
    let p := s.pump[f]
    let size := 2 ^ min ((s.reg (Reg.pumpRsize + 0x40 * f.val)).toNat % 16) 12
    let tail := Reg.pumpTail + 0x40 * f.val
    let stat := Reg.pumpStat + 0x40 * f.val
    let others (t : State) : Prop := ∀ g : Fin 16, g ≠ f → t.pump[g] = s.pump[g]
    (s.admitted q true tail = true → ∃ t, exec (.pumpTail q f v) s = .next t ∧
      t = { s with regs := t.regs } ∧ t.reg tail = v &&& 0xFFF#32 ∧ (∀ b, b ≠ tail → t.reg b = s.reg b)) ∧
    (s.pumpsRun = true → s.pumpEn f = true → p.st ≠ .error → s.portIso f = false → p.next = none →
      let at_ (k : Nat) : Nat := (s.reg (Reg.pumpRbase + 0x40 * f.val)).toNat + 64 * ((p.head + k) % size)
      let served (k : Nat) : Prop := s.pumpWork f k = true ∧ accessCode s (portReq f) false (at_ k) 64 = 0
      (p.desc = none → served 0 → ∃ t d, exec (.descriptorFetch f .clean) s = .next t ∧ d = readDesc s (at_ 0) ∧
        t.pump[f].desc = some d ∧ t.pump[f].j = 0 ∧ t.pump[f].head = p.head ∧ others t ∧ t.mem = s.mem ∧ t.regs = s.regs ∧
        t.arr = s.arr ∧
        (s.arr.live.getLsbD f.val = false → t.pump[f].result = some 2) ∧
        (s.arr.live.getLsbD f.val = true → d.formatOk = false → t.pump[f].result = some 3) ∧
        (s.arr.live.getLsbD f.val = true → d.formatOk = true → d.inMemory s = false → t.pump[f].result = some 8) ∧
        (s.arr.live.getLsbD f.val = true → d.formatOk = true → d.inMemory s = true → t.pump[f].result = none ∧
          t.pump[f].st = if d.op = 2 ∧ d.noWait = false then .wait else .shift)) ∧
      (p.desc ≠ none → served 1 → exec (.descriptorFetch f .clean) s = .next { s with
        pump := s.pump.set f.val { p with next := some (some (readDesc s (at_ 1))) } }) ∧
      (∀ ecc, p.desc = none → s.pumpWork f 0 = true → accessCode s (portReq f) false (at_ 0) 64 ≠ 0 ∨ ecc = .lost →
        ∃ t, exec (.descriptorFetch f ecc) s = .next t ∧ t.pump[f].st = .error ∧ t.pump[f].desc = none ∧
          bit (t.reg stat) 27 = true ∧ others t ∧ t.mem = s.mem)) ∧
    (∀ d portA, s.pumpsRun = true → s.pwr.bcast = true → p.st = .shift → p.desc = some d → p.result = none →
      (d.op = 1 → d.groupFail s p.j = none →
        let planes := if p.turn = [] then (d.group p.j).map (fun i => inPlane s f.val d i) else p.turn
        let j' := 8 * (p.j / 8 + 1)
        ∃ t, exec (.pumpPlaneShifted f [] portA) s = .next t ∧ t.pump[f].st = .wait ∧ t.pump[f].j = p.j ∧
          t.pump[f].turn = planes ∧ t.pump[f].result = none ∧ others t ∧ t.mem = s.mem ∧
          (p.j % 8 ≠ 0 ∨ d.npl ≤ j' ∨ d.groupFail s j' = none → t.regs = s.regs) ∧
          (p.j % 8 = 0 → j' < d.npl → d.groupFail s j' = none → t.pump[f].aheadEnd = none ∧
            t.pump[f].ahead = (d.group j').map (fun i => inPlane s f.val d i)) ∧
          (p.rows = 0 → t.arr = { s.arr with
            io := (planes.getD (p.j % 8) 0 &&& fieldMask f.val) ||| (s.arr.io &&& ~~~(fieldMask f.val)) })) ∧
      (d.op = 1 → p.j % 8 = 0 → p.judged = false →
        (∀ i, d.groupFail s p.j = some i → ∃ t, exec (.pumpPlaneShifted f [] portA) s = .next t ∧
          t.pump[f].result = some (d.reach s i) ∧ others t ∧ t.arr = s.arr ∧ t.mem = s.mem) ∧
        (∀ a : BitVec 48, d.groupFail s p.j = none → d.touches p.j a.toNat = true →
          ∃ t, exec (.pumpPlaneShifted f [(a, .lost)] portA) s = .next t ∧ t.pump[f].result = some 6 ∧ others t ∧
            t.arr = s.arr ∧ t.mem = s.mem)) ∧
      (d.op ≠ 1 → d.groupFail s p.j = none →
        let turn := p.turn ++ [p.emitted f.val 512 s.arr.io]
        let ends : Prop := p.j + 1 = d.npl ∨ (p.j + 1) % 8 = 0
        ∃ t, exec (.pumpPlaneShifted f [] portA) s = .next t ∧ others t ∧
          (ends → t.mem = (outGroup (s.portAWrites d p.j portA) f.val d p.j turn).mem ∧ t.pump[f].turn = []) ∧
          (¬ ends → t.mem = s.mem ∧ t.pump[f].turn = turn) ∧ (portA = [] → t.regs = s.regs) ∧ t.pump[f].j = p.j + 1 ∧
          (p.j + 1 = d.npl → t.pump[f].result = some 1) ∧
          (p.j + 1 ≠ d.npl → t.pump[f].result = none ∧ t.pump[f].st = .wait) ∧
          (p.rows = 0 → t.arr = { s.arr with io := s.arr.io &&& ~~~(fieldMask f.val) }) ∧
          (∀ x n, portA = [x] → ends → d.touches p.j x.1.toNat = true → regionOf x.1.toNat = some (.cistern n) →
            s.fld (Reg.cisternColl + 4 * n) 15 0 < 65535 →
            t.fld (Reg.cisternColl + 4 * n) 15 0 = s.fld (Reg.cisternColl + 4 * n) 15 0 + 1)) ∧
      (∀ i, d.op ≠ 1 → d.groupFail s p.j = some i → p.j + 1 = d.npl ∨ (p.j + 1) % 8 = 0 →
        ∃ t, exec (.pumpPlaneShifted f [] portA) s = .next t ∧ t.pump[f].result = some (d.reach s i) ∧ others t ∧
          t.mem = s.mem)) ∧
    (∀ d n, s.pumpsRun = true → s.portIso f = false → p.desc = some d → p.result = some n →
      let a := (s.reg (Reg.pumpRbase + 0x40 * f.val)).toNat + 64 * (p.head % size) + 40
      let moved := if d.op = 2 then p.j - p.turn.length else p.j
      let stops : Prop := n ∈ [3, 4, 5, 6, 8]
      let written : Prop := accessCode s (portReq f) true a 2 = 0
      ∃ t, exec (.descriptorComplete f) s = .next t ∧ t.pump[f].last = n ∧ t.pump[f].head = (p.head + 1) % size ∧
        others t ∧ t.arr = s.arr ∧ (d.irq = true → bit (t.reg Reg.pumpIrq) f.val = true) ∧
        (p.next = none ∨ stops → t.pump[f].desc = none ∧ t.pump[f].result = none) ∧
        (p.next = none → written → (t.pump[f].st = .error ↔ stops)) ∧
        (∀ d', p.next = some (some d') → s.pumpEn f = true → written → ¬ stops →
          t.pump[f].desc = some d' ∧ t.pump[f].j = 0 ∧ t.pump[f].next = none) ∧
        (written → t.mem = (s.setMemNat a 2 (n + 256 * moved)).mem) ∧
        (¬ written → t.mem = s.mem ∧ t.pump[f].st = .error ∧ bit (t.reg stat) 27 = true)) ∧
    (s.admitted q true (Reg.pumpCtl + 0x40 * f.val) = true →
      exec (.pumpResume q f) s = .next { s with pump := s.pump.set f.val (if p.st = .error then { p with st := .idle } else p) }) ∧
    (s.admitted q true (Reg.pumpCtl + 0x40 * f.val) = true → ∃ t, exec (.pumpFlush q f) s = .next t ∧ others t ∧
      t.arr = s.arr ∧ t.pump[f].head = (s.reg tail).toNat % 2 ^ 12 % size ∧ t.pump[f].next = none ∧
      (p.desc = none → t.mem = s.mem) ∧ (p.desc ≠ none → t.pump[f].desc = none ∧ t.pump[f].last = 7))

/-- The cisterns, each command with the state in which it completes: a bank's change begins with the request, or waits for the
change in progress, and ends at its own command once the accesses it has accepted are complete, from off to on with every word 0
and at off with the contents lost, and the request that waited then begins; off to retention and the code 3 are refused; a
port-B owner becomes effective when the old owner's accesses are done; the fabric's ports write and read 32 bytes of a bank they
own, a refused access and a lost word answer with an error and 0, and the completion of an access from before a stop or an
isolation is discarded; when both ports write a word in one cycle port B's bytes win and the collision counts. A wipe clears the
secure cistern, or closes it until reset where its verification fails. -/
def Obligations.CisternCommands : Prop :=
  ∀ (s : State) (q : Requester) (n : Fin 64) (p : Fin 8) (a : BitVec 20) (k : Fin 4) (v : Word),
    let bank (m : Nat) : BankSt := s.cist.st[m]?.getD .off
    let quiet : Prop := s.cist.chg = [] ∧ s.cist.req = []
    let reg := Reg.cisternPwr + 4 * k.val
    let code (i : Nat) : Nat := bits v.toNat (2 * i + 1) (2 * i)
    let lo := 0x10000000 + n.val * 0x80000
    let addr := 0x10000000 + 32 * a.toNat
    let b := a.toNat / 16384
    let owns := s.fabricOwns b
    let refusal (t : State) : Prop := bit (t.reg Reg.cisternStat) 6 = true ∧ t.fld Reg.cisternStat 5 0 = b
    (s.admitted q true reg = true → ∃ t, exec (.cisternPwr q k v) s = .next t ∧ t.cist.st = s.cist.st ∧ t.mem = s.mem ∧
      ((∀ i, i < 16 → code i ≠ 3) → t.reg reg = v) ∧
      ((∃ i, i < 16 ∧ code i = 3) → bit (t.reg Reg.cisternStat) 7 = true) ∧
      (∀ (i : Nat) (x : BankSt), i < 16 → bankCode (code i) = some x →
        let m := 16 * k.val + i
        (s.cist.chg.any (·.1 == m) = true → (m, x) ∈ t.cist.req) ∧
        (quiet → ((m, x) ∈ t.cist.chg ↔ bank m ≠ x ∧ ¬ (bank m = .off ∧ x = .retention)) ∧
          (bank m = .off → x = .retention → bit (t.reg Reg.cisternStat) 7 = true)))) ∧
    (∀ x, s.mode ≠ .off → s.portBusy n.val = false → s.cist.chg = [(n.val, x)] →
      ∃ t, exec (.bankStateChangeEnd n) s = .next t ∧
      t.cist.st[n] = x ∧ (∀ m : Fin 64, m ≠ n → t.cist.st[m] = s.cist.st[m]) ∧
      (s.cist.req = [] → t.cist.chg = [] ∧ t.regs = s.regs) ∧
      (∀ y, s.cist.req = [(n.val, y)] → y ≠ x → ¬ (x = .off ∧ y = .retention) → t.cist.chg = [(n.val, y)] ∧ t.cist.req = []) ∧
      (∀ x, x < lo ∨ lo + 0x80000 ≤ x → t.byte x = s.byte x) ∧
      (∀ y, lo ≤ y → y < lo + 0x80000 → t.byte y = if x = .off ∨ s.cist.st[n] = .off then 0 else s.byte y)) ∧
    (s.portBusy n.val = true → exec (.bankStateChangeEnd n) s = .next s ∧ exec (.ownerChangeEffective n) s = .next s) ∧
    (∀ hi, s.admitted q true (if hi then Reg.cisternPortbOwnerHi else Reg.cisternPortbOwnerLo) = true →
      let o := s.cist.owner
      let o' : BitVec 64 := if hi then v ++ o.setWidth 32 else (o >>> 32).setWidth 32 ++ v
      exec (.cisternPortbOwner q hi v) s = .next { s with cist := { s.cist with owner := o' } }) ∧
    (s.alive = true → s.portBusy n.val = false → ∃ e, exec (.ownerChangeEffective n) s = .next { s with
        cist := { s.cist with eff := e } } ∧
      ∀ i, i < 64 → e.getLsbD i = if i = n.val then s.cist.owner.getLsbD i else s.cist.eff.getLsbD i) ∧
    (∀ (w : BitVec 256) (be : BitVec 32), s.bayActive p.val = true → s.cist.cw[p].length < 16 →
      ∃ t, exec (.cwReq p a w be none) s = .next t ∧ t.cist.cw[p] = s.cist.cw[p] ++ [⟨a.toNat, w, be, owns, false⟩] ∧
        (∀ x, x < addr ∨ addr + 32 ≤ x → t.byte x = s.byte x) ∧
        (∀ i, i < 32 → t.byte (addr + i) =
          if owns = true ∧ be.getLsbD i = true then (w >>> (8 * i)).setWidth 8 else s.byte (addr + i)) ∧
        (owns = true → t.regs = s.regs) ∧ (owns = false → refusal t)) ∧
    (∀ (w : BitVec 256) (be : BitVec 32) (pa : BitVec 512) (pbe : BitVec 64), s.bayActive p.val = true →
      s.cist.cw[p].length < 16 →
      let c := Reg.cisternColl + 4 * b
      let base := addr / 64 * 64
      let portA (i : Nat) : Byte :=
        if s.bankOn b = true ∧ pbe.getLsbD i = true then (pa >>> (8 * i)).setWidth 8 else s.byte (base + i)
      ∃ t, exec (.cwReq p a w be (some (pa, pbe))) s = .next t ∧
        t.cist.cw[p] = s.cist.cw[p] ++ [⟨a.toNat, w, be, owns, false⟩] ∧
        (owns = true → s.fld c 15 0 < 65535 → t.fld c 15 0 = s.fld c 15 0 + 1) ∧
        (owns = false → t.reg c = s.reg c ∧ refusal t) ∧
        (∀ x, x < base ∨ base + 64 ≤ x → t.byte x = s.byte x) ∧
        (∀ i, i < 64 → t.byte (base + i) =
          if owns = true ∧ addr ≤ base + i ∧ base + i < addr + 32 ∧ be.getLsbD (base + i - addr) = true then
            (w >>> (8 * (base + i - addr))).setWidth 8
          else portA i)) ∧
    (∀ e l, s.alive = true → s.cist.cw[p] = e :: l → ∃ t, exec (.cwDone p) s = .next t ∧
      t.cist.cw[p] = l ∧ t.mem = s.mem ∧ t.regs = s.regs ∧
      (s.bayActive p.val = true → e.lost = false → t.cist.cwRsp[p] = (s.cist.cwRsp[p].1 + 1, !e.ok)) ∧
      (s.bayActive p.val = false ∨ e.lost = true → t.cist.cwRsp = s.cist.cwRsp)) ∧
    (s.bayActive p.val = true → ∃ t, exec (.crReq p a) s = .next t ∧
      t.cist.cr[p] = s.cist.cr[p] ++ [⟨a.toNat, owns, false⟩] ∧
      t.mem = s.mem ∧ (owns = true → t.regs = s.regs) ∧ (owns = false → refusal t)) ∧
    (∀ e l ecc, s.alive = true → s.cist.cr[p] = e :: l → ∃ t,
      exec (.crDvalid p ecc) s = .next t ∧ t.cist.cr[p] = l ∧ t.mem = s.mem ∧ (ecc = .clean → t.regs = s.regs) ∧
      (s.bayActive p.val = true → e.lost = false → t.cist.crRsp[p] = if e.ok = true ∧ ecc ≠ .lost
        then (BitVec.ofNat 256 (s.memNat (0x10000000 + 32 * e.a) 32), false) else (0, true)) ∧
      (s.bayActive p.val = false ∨ e.lost = true → t.cist.crRsp = s.cist.crRsp)) ∧
    (s.admitted q true Reg.cisternSecCtl = true → ∃ t, exec (.wipe q) s = .next t ∧
      t.cist = { s.cist with wiping := true } ∧ bit (t.reg Reg.cisternSecStat) 6 = true ∧ t.mem = s.mem) ∧
    (∀ ok, s.mode ≠ .off → s.cist.wiping = true → ∃ t, exec (.wipeComplete ok) s = .next t ∧
      t.cist = { s.cist with wiping := false, verifyFail := s.cist.verifyFail || !ok } ∧
      bit (t.reg Reg.cisternSecStat) 0 = true ∧
      (∀ x, x < 0x1F000000 ∨ 0x1F020000 ≤ x → t.byte x = s.byte x) ∧
      (∀ x, 0x1F000000 ≤ x → x < 0x1F020000 → t.byte x = if ok then 0 else s.byte x))

/-- The configuration engine: LOAD begins a full load, and RELOAD of a bay, START and STOP act in the states that allow them;
elsewhere the command is refused with kind 8 and nothing else changes. What leaves RUNNING places every flip-flop at its initial
value, ends the requests at the valve, and discards the completions of the accesses it has had accepted. A frame that passes goes
on to the next one and the last one makes the fabric LOADED, or the reloaded bay's release due; a frame that fails ends the load
with its kind and its number, a full load leaving the fabric UNLOADED and a reload past its isolation a dead bay. The fabric runs
from its chosen edge; a reloading bay is isolated and released; the background check finds a wrong frame, fatal in a run; a clock
tree above 520 MHz sets its FAST bit.
The serial controllers: an enabled one queues a byte for each write of its data register (a full queue of 16 loses it and
sets OVR), a read takes the oldest byte received, EN 0 empties both FIFOs; the oldest byte goes out with its conditions, a NACK
on I²C discards the queue; a received byte enters the FIFO of 16 or is lost with OVR, on I²C as the answer to a READ entry. -/
def Obligations.EdgeAndSerial : Prop :=
  (∀ (s : State) (q : Requester) (bay : Fin 8) (atTick : Bool) (d : Nat),
    let refused (t : State) : Prop := t = { s with regs := t.regs } ∧ t.fld Reg.edgeCfgErr 3 0 = 8 ∧
      t.fld Reg.edgeCfgErr 17 4 = 0 ∧ bit (t.reg Reg.edgeStat) 20 = true
    let b := 1#8 <<< bay.val
    let put (e : Edge) : State := { s with edge := e }
    let idle : Edge := { s.edge with startPend := none, load := none, isolated := 0, bayDead := 0 }
    let halted (t : State) : Prop := t.mem = s.mem ∧ t.regs = s.regs ∧
      (∀ k : Fin 4, t.valve.link[k].req = false ∧ t.valve.link[k].granting = false) ∧
      (∀ p : Fin 8, t.cist.cw[p] = s.cist.cw[p].map (fun e => { e with lost := true }) ∧
        t.cist.cr[p] = s.cist.cr[p].map (fun e => { e with lost := true }))
    (s.admitted q true Reg.edgeCfgCmd = true →
      let first : EdgeLoad := ⟨false, 0, s.edgeSrc, 0, false, 0, 0xFFFFFFFF, 0, 0, none⟩
      (s.pwr.edgeOn = true → s.edge.st = .unloaded ∨ s.edge.st = .loaded →
        exec (.load q) s = .next (put { idle with st := .loading, load := some first })) ∧
      (s.pwr.edgeOn = true → s.edge.st = .running → s.running = false → ∃ t, exec (.load q) s = .next t ∧ halted t ∧
        t.edge = { idle with st := .loading, load := some first, ff := s.ffInit 0xFF }) ∧
      (s.pwr.edgeOn = true → s.edge.st = .loading ∨ (s.edge.st = .running ∧ s.running = true) →
        ∃ t, exec (.load q) s = .next t ∧ refused t) ∧
      (s.pwr.edgeOn = false → exec (.load q) s = .next s) ∧
      (s.edge.st = .running → s.edge.load = none → exec (.reload q bay atTick) s = .next (put { s.edge with
        load := some { first with reload := true, bay := bay, atTick := atTick } })) ∧
      (s.edge.st ≠ .running ∨ s.edge.load ≠ none → ∃ t, exec (.reload q bay atTick) s = .next t ∧ refused t) ∧
      (s.edge.st = .loaded → s.edge.startPend = none → exec (.start q atTick) s = .next (put { s.edge with
        startPend := some (atTick, s.dcyc + 8, none) })) ∧
      (s.edge.st ≠ .loaded ∨ s.edge.startPend ≠ none → ∃ t, exec (.start q atTick) s = .next t ∧ refused t) ∧
      (s.edge.st = .running → ∃ t, exec (.stop q) s = .next t ∧ halted t ∧
        t.edge = { idle with st := .loaded, ff := s.ffInit 0xFF }) ∧
      (s.edge.st = .loaded → exec (.stop q) s = .next (put { s.edge with startPend := none })) ∧
      (s.edge.st = .unloaded ∨ s.edge.st = .loading → ∃ t, exec (.stop q) s = .next t ∧ refused t)) ∧
    (∀ l g, s.alive = true → s.mode ≠ .faultHold → s.pwr.edgeOn = true → s.ring.iso.getLsbD 31 = false →
      s.edge.load = some l → l.phase = 0 ∨ l.phase = 2 →
      let a := l.src + 256 * l.seq
      let f := BitVec.ofNat 2048 (s.memNat a 256)
      let ok : Prop := (frameCode s a).2 = 0 ∧ frameKind s l f = 0
      let fails (t : State) (kind : Nat) : Prop := t.mem = s.mem ∧ t.edge.load = none ∧
        t.edge.st = (if l.reload then s.edge.st else .unloaded) ∧
        t.edge.bayDead = (if l.reload = true ∧ l.phase ≠ 0 then s.edge.bayDead ||| (1#8 <<< l.bay.val) else s.edge.bayDead) ∧
        (l.seq < 16384 → t.fld Reg.edgeCfgErr 3 0 = kind ∧ t.fld Reg.edgeCfgErr 17 4 = l.seq) ∧
        t.cmd.irqPend.getLsbD 2 = true
      (ok → l.seq + 1 ≠ imageLen l.reload → ∃ t l', exec (.configurationFrame .clean g) s = .next t ∧ t.mem = s.mem ∧
        t.edge.st = s.edge.st ∧ t.edge.load = some l' ∧ l'.seq = l.seq + 1 ∧
        l'.crc = crcBytes l.crc ((List.range 256).map (frameByte f)) ∧ l'.src = l.src ∧
        l'.phase = (if l.reload = true ∧ l.seq = 1 then 1 else l.phase)) ∧
      (ok → l.seq + 1 = imageLen l.reload → ∃ t, exec (.configurationFrame .clean g) s = .next t ∧ t.mem = s.mem ∧
        (l.reload = false → t.edge.st = .loaded ∧ t.edge.load = none ∧ t.edge.imageId = l.imageId ∧
          t.cmd.irqPend = s.cmd.irqPend ||| 4#32) ∧
        (l.reload = true → t.edge.st = s.edge.st ∧ ∃ l', t.edge.load = some l' ∧ l'.phase = 3 ∧ l'.ready = s.dcyc + 8)) ∧
      ((frameCode s a).2 = 0 → frameKind s l f ≠ 0 → ∃ t, exec (.configurationFrame .clean g) s = .next t ∧
        fails t (frameKind s l f)) ∧
      (∀ ecc, (frameCode s a).2 ≠ 0 ∨ ecc = .lost → ∃ t, exec (.configurationFrame ecc g) s = .next t ∧ fails t 7)) ∧
    (∀ x r m, s.edge.startPend = some (x, r, m) → s.edge.st = .loaded → s.edgeAt x r m d = true →
      exec (.fabricRunning d) s = .next { put { s.edge with st := .running, startPend := none } with dcyc := max s.dcyc d }) ∧
    (∀ l, s.edge.load = some l → l.bay = bay →
      (l.phase = 1 → s.wh.devLost = false → ∃ t, exec (.bayIsolation d) s = .next t ∧ t.edge = { s.edge with
          isolated := s.edge.isolated ||| b, load := some { l with phase := 2 } } ∧ t.dcyc = max s.dcyc d ∧
        t.mem = s.mem ∧ t.regs = s.regs ∧
        (∀ p : Fin 8, t.cist.cw[p] = if p = bay then s.cist.cw[p].map (fun e => { e with lost := true }) else s.cist.cw[p]) ∧
        (∀ k : Fin 4, (s.linkBays k).contains bay.val = true → t.valve.link[k].req = false)) ∧
      (l.phase = 3 → s.edgeAt l.atTick l.ready l.met d = true → ∃ t, exec (.bayRelease d) s = .next t ∧ t.edge = { s.edge with
        isolated := s.edge.isolated &&& ~~~b, bayDead := s.edge.bayDead &&& ~~~b, load := none } ∧
        t.cmd.irqPend = s.cmd.irqPend ||| 4#32 ∧ t.mem = s.mem ∧ t.regs = s.regs)) ∧
    (∀ n, s.edge.st = .running → s.edge.frames.any (·.1 == n) = true →
      let f := sget noFrame s.edge.frames n
      (frameCrcOk f = true → exec (.backgroundCheck n false) s = .next s) ∧
      (frameCrcOk f = false → ∃ t, exec (.backgroundCheck n false) s = .next t ∧
        bit (t.reg Reg.edgeStat) 21 = true ∧ t.fld Reg.edgeCfgErr 31 18 = frameNat f 0 4 / 2 ^ 18 ∧
        (s.running = true → t.fatalSeen = true) ∧
        (s.running = false → t.fatalSeen = s.fatalSeen) ∧ t.edge = s.edge ∧ t.mem = s.mem) ∧
      (∃ t i, exec (.backgroundCheck n true) s = .next t ∧ 32 ≤ i ∧ i < 2016 ∧ t.mem = s.mem ∧
        sget noFrame t.edge.frames n = f ^^^ (1#2048 <<< i) ∧
        (frameCrcOk (f ^^^ (1#2048 <<< i)) = false → bit (t.reg Reg.edgeStat) 21 = true))) ∧
    (∀ (n : Fin 4) (mhz : BitVec 10), s.alive = true → s.pwr.edgeOn = true → ∃ t,
      exec (.gclkFast n mhz) s = .next t ∧ t = { s with regs := t.regs } ∧
      (t.reg (Reg.clockGclkMhz + 4 * n.val)).toNat = mhz.toNat ∧
      (bit (t.reg Reg.edgeStat) (16 + n.val) = (decide (520 < mhz.toNat) || bit (s.reg Reg.edgeStat) (16 + n.val))))) ∧
  (∀ (s : State) (q : Requester) (i : Fin 5) (v : Word) (b : Byte),
    let x := s.edge.ser[i]
    let stat := Reg.edgeSerStat + 16 * i.val
    let ctl := (s.reg (Reg.edgeSerCtl + 16 * i.val)).toNat
    let put (y : Serial) : State := { s with edge := { s.edge with ser := s.edge.ser.set i.val y } }
    let i2c := i = 2 ∨ i = 3
    let wire (sent : Bool) (b : Byte) (c : BitVec 4) (nack : Bool) : Option SerFrame := some
      ⟨sent, b, c.getLsbD 0, c.getLsbD 1, nack, if i = 4 then BitVec.ofNat 4 (ctl / 2 ^ 20) else 0,
        if i = 4 then BitVec.ofNat 2 (ctl / 2) else 0⟩
    let ovr (y : Serial) (t : State) : Prop := t = { put y with regs := t.regs } ∧ bit (t.reg stat) 12 = true
    let en := bit (s.reg (Reg.edgeSerCtl + 16 * i.val)) 0
    (s.admitted q true (Reg.edgeSerData + 16 * i.val) = true →
      (en = false → exec (.serDataWrite q i v) s = .next s) ∧
      (en = true → x.tx.length < 16 → exec (.serDataWrite q i v) s = .next (put { x with
        tx := x.tx ++ [(v.setWidth 8, if i.val = 2 ∨ i.val = 3 then (v >>> 8).setWidth 4 else 0)] })) ∧
      (en = true → 16 ≤ x.tx.length → ∃ t, exec (.serDataWrite q i v) s = .next t ∧ ovr x t)) ∧
    (s.admitted q false (Reg.edgeSerData + 16 * i.val) = true →
      exec (.serDataRead q i) s = .next (if q.quiet then s else put { x with rx := x.rx.tail })) ∧
    (s.admitted q true (Reg.edgeSerCtl + 16 * i.val) = true → ∃ t, exec (.serCtl q i v) s = .next t ∧
      t.reg (Reg.edgeSerCtl + 16 * i.val) = v &&& (if i = 4 then 0xFFFFF7#32 else 0xFFFFF1#32) ∧ t.mem = s.mem ∧
      t.edge.ser[i] = if v.getLsbD 0 then x else { x with tx := [], rx := [] }) ∧
    (∀ e l, x.tx = e :: l → (i2c → e.2.getLsbD 2 = false) →
      exec (.serialByteSent i false) s = .next (put { x with tx := l, wire := wire true e.1 e.2 false }) ∧
      (¬ i2c → exec (.serialByteSent i true) s = .next (put { x with tx := l, wire := wire true e.1 e.2 false })) ∧
      (i2c → ∃ t, exec (.serialByteSent i true) s = .next t ∧
        t = { put { x with tx := [], wire := wire true e.1 e.2 true } with regs := t.regs } ∧ bit (t.reg stat) 11 = true)) ∧
    (en = true →
      (¬ i2c → x.rx.length < 16 → exec (.serialByteReceived i b) s = .next (put { x with
        rx := x.rx ++ [b], wire := wire false b 0 false })) ∧
      (¬ i2c → 16 ≤ x.rx.length → ∃ t, exec (.serialByteReceived i b) s = .next t ∧
        ovr { x with wire := wire false b 0 false } t) ∧
      (i2c → (∀ e, x.tx.head? = some e → e.2.getLsbD 2 = false) → exec (.serialByteReceived i b) s = .next s) ∧
      (∀ e l, i2c → x.tx = e :: l → e.2.getLsbD 2 = true →
        let w := wire false b e.2 (e.2.getLsbD 3)
        (x.rx.length < 16 → exec (.serialByteReceived i b) s = .next (put { tx := l, rx := x.rx ++ [b], wire := w })) ∧
        (16 ≤ x.rx.length → ∃ t, exec (.serialByteReceived i b) s = .next t ∧ ovr { x with tx := l, wire := w } t))))

/-! ### The medium: links and valve (08) -/

/-- The link layers: JESD_CTL keeps links that stay enabled, enables the valid new ones, and no two enabled receive links ever
share a lane; a link disabled is off and its request at the valve over, a new one begins its search. Of the last 64 sync headers
all valid, a lane locks, and its link goes from search to align when every lane of it has locked; with 16 invalid ones it loses
the lock, which sends the link back to search and counts; markers are kept in align; at its own LEMC boundary an aligned link
with every marker, and a waiting transmit link, enter data; a release hands the samples and their lane words to the fabric, and
a CRC error counts and marks the last word of its multiblock. A CRC error in any of these commands counts in its locked lane. -/
def Obligations.LinkLayers : Prop :=
  (∀ (old want : BitVec 4) (cfg : Nat → Word) (khz : Nat),
    let new := (enables old want cfg khz).1
    let apart (en : BitVec 4) : Prop := ∀ i j, i < 4 → j < 4 → i ≠ j → en.getLsbD i = true → en.getLsbD j = true →
      ∀ l, ¬ (l ∈ cfgLanes (cfg i) ∧ l ∈ cfgLanes (cfg j))
    (∀ k, k < 4 → (new.getLsbD k = true → want.getLsbD k = true) ∧
      (old.getLsbD k = true → want.getLsbD k = true → new.getLsbD k = true)) ∧
    (apart (old &&& want) → apart new)) ∧
  (∀ (s : State) (q : Requester) (v : Word) (l : Fin 16) (k : Fin 4) (d : Nat),
    let j := s.jesd
    let lane := 1#16 <<< l.val
    (s.admitted q true Reg.jesdCtl = true → ∃ t, exec (.jesdCtl q v) s = .next t ∧ t.mem = s.mem ∧
      t.jesd.rxEn = (enables j.rxEn (v.setWidth 4) s.rxCfg s.wh.khz).1 ∧
      t.jesd.txEn = (enables j.txEn ((v >>> 4).setWidth 4) s.txCfg s.wh.khz).1 ∧ t.jesd.srTrack = v.getLsbD 8 ∧
      t.jesd.rxSt[k] = (if t.jesd.rxEn.getLsbD k.val = false then 0 else if j.rxEn.getLsbD k.val then j.rxSt[k] else 1) ∧
      t.jesd.txSt[k] = (if t.jesd.txEn.getLsbD k.val = false then 0 else if j.txEn.getLsbD k.val then j.txSt[k] else 1) ∧
      (t.jesd.txEn.getLsbD k.val = false → t.valve.link[k].req = false ∧ t.valve.link[k].granting = false)) ∧
    (∀ i h, i ∈ [Instr.rxLaneLock l h [l], .lossOfLock l h [l], .endOfExtendedMultiblockMarker l [l]] →
      s.rxLinkOf l.val = some k → j.lock.getLsbD l.val = true →
      let a := Reg.jesdLaneErr + 4 * l.val
      s.fld a 15 0 < 65535 → ∃ t, exec i s = .next t ∧ t.fld a 15 0 = s.fld a 15 0 + 1 ∧ t.mem = s.mem) ∧
    (∀ h : BitVec 64, s.rxLinkOf l.val = some k →
      let wrong := (List.range 64).countP (fun i => h.getLsbD i == false)
      (s.wh.devLost = false → wrong = 0 → ∃ t, exec (.rxLaneLock l h []) s = .next t ∧ t = { s with jesd := t.jesd } ∧
        t.jesd.lock = j.lock ||| lane ∧ t.jesd.rxSt[k] =
          (if j.rxSt[k] = 1 ∧ ∀ m ∈ cfgLanes (s.rxCfg k.val), (j.lock ||| lane).getLsbD m = true then 2 else j.rxSt[k]) ∧
        (∀ m : Fin 4, m ≠ k → t.jesd.rxSt[m] = j.rxSt[m])) ∧
      (wrong ≠ 0 → exec (.rxLaneLock l h []) s = .next s) ∧
      (wrong < 16 → exec (.lossOfLock l h []) s = .next s) ∧
      (j.lock.getLsbD l.val = true → 16 ≤ wrong → ∃ t, exec (.lossOfLock l h []) s = .next t ∧ t.jesd.rxSt[k] = 1 ∧
        t.jesd.lock = j.lock &&& ~~~lane ∧ (∀ m : Fin 4, m ≠ k → t.jesd.rxSt[m] = j.rxSt[m]) ∧ t.mem = s.mem ∧
        (s.fld (Reg.jesdLaneErr + 4 * l.val) 23 16 < 255 →
          t.fld (Reg.jesdLaneErr + 4 * l.val) 23 16 = s.fld (Reg.jesdLaneErr + 4 * l.val) 23 16 + 1)) ∧
      (j.rxSt[k] = 2 → exec (.endOfExtendedMultiblockMarker l []) s = .next { s with jesd := { j with
        marker := j.marker ||| lane } })) ∧
    (j.srSeen = true → s.wh.devLost = false → s.host.linkUp = none →
      let due (w : Word) : Prop := j.lemc0 ≤ d ∧ cfgLemc w ≠ 0 ∧ (d - j.lemc0) % cfgLemc w = 0
      ∃ t, exec (.lemcBoundary d []) s = .next t ∧ t.dcyc = max s.dcyc d ∧ t.regs = s.regs ∧ t.mem = s.mem ∧
        (j.rxSt[k] = 2 → due (s.rxCfg k.val) → (∀ m ∈ cfgLanes (s.rxCfg k.val), j.marker.getLsbD m = true) →
          t.jesd.rxSt[k] = 3) ∧
        (j.rxSt[k] ≠ 2 ∨ ¬ due (s.rxCfg k.val) → t.jesd.rxSt[k] = j.rxSt[k]) ∧
        (j.txSt[k] = 1 → due (s.txCfg k.val) → t.jesd.txSt[k] = 2) ∧
        (j.txSt[k] ≠ 1 ∨ ¬ due (s.txCfg k.val) → t.jesd.txSt[k] = j.txSt[k])) ∧
    (∀ samples, let rbd := s.fld (Reg.jesdRxRbd + 4 * k.val) 11 0
      j.rxSt[k] = 3 → s.wh.devLost = false → rbd ≤ d → s.lemcAt (s.rxCfg k.val) (d - rbd) = true →
      (∃ t, exec (.rxRelease k d samples [] []) s = .next t ∧ t.jesd.rxOut[k] = samples ∧ t.regs = s.regs ∧
        t.dcyc = max s.dcyc d ∧ t.mem = s.mem ∧ t.jesd.rxSt = j.rxSt ∧
        (∀ m : Fin 16, m.val ∈ cfgLanes (s.rxCfg k.val) →
          let words := laneData (s.rxCfg k.val) samples (m.val - (s.rxCfg k.val).toNat % 16)
          t.jesd.rxWord[m].map (·.data) = words ∧ ∀ w ∈ t.jesd.rxWord[m], w.err = false) ∧
        (∀ m : Fin 16, ¬ m.val ∈ cfgLanes (s.rxCfg k.val) → t.jesd.rxWord[m] = j.rxWord[m])) ∧
      (∀ n : Fin 16, l.val ∈ cfgLanes (s.rxCfg k.val) → ∃ t, exec (.rxRelease k d samples [(l, n)] []) s = .next t ∧
        (∀ i w, t.jesd.rxWord[l][i]? = some w → w.err = decide (i = 16 * n.val + 15)) ∧
        (s.rxLinkOf l.val = some k → j.lock.getLsbD l.val = true → s.fld (Reg.jesdLaneErr + 4 * l.val) 15 0 < 65535 →
          t.fld (Reg.jesdLaneErr + 4 * l.val) 15 0 = s.fld (Reg.jesdLaneErr + 4 * l.val) 15 0 + 1)) ∧
      (∀ n : Fin 256, l.val ∈ cfgLanes (s.rxCfg k.val) → ∃ t, exec (.rxRelease k d samples [] [(l, n)]) s = .next t ∧
        t.regs = s.regs ∧ ∀ i w, t.jesd.rxWord[l][i]? = some w → w.err = decide (i = n.val))))

/-- The valve: it closes while a closing condition holds and opens at a block boundary when none does; limits written while it
is closed act at once, written while it is open they wait for a boundary or the closing, and once locked they are ignored;
the slot grid goes on, a slot that ends joins the 999 before it, and after 1,000 of them the window is empty; a level at
TX_PERMIT reaches the grants at the second edge, or where it is taken late at the third; SHUT takes its level, and closes the
open valve within 3 DEVCLK cycles and 8 ns. -/
def Obligations.ValveStates : Prop :=
  ∀ (s : State) (q : Requester) (v : Word) (d : Nat) (off : BitVec 10) (level : Bool),
    let put (x : Valve) : State := { s with valve := x }
    let base := 0x200D0000 + off.toNat
    let m := (match s.valve.pend with
      | some p => p
      | none => s.valve.lim).write off.toNat v
    (s.valve.open_ = true → s.valveCond ≠ 0 ∨ s.valve.closeBy ≠ none →
      let c := match s.valve.closeBy with
        | some b => min d b
        | none => d
      ∃ t, exec (.valveClose d) s = .next t ∧ t.valve.open_ = false ∧
      t.valve.closedAt = c ∧ t.valve.closeBy = none ∧ t.valve.pend = none ∧ t.mem = s.mem ∧
      t.valve.lim = (match s.valve.pend with
        | some p => p
        | none => s.valve.lim) ∧
      (∀ k : Fin 4, c ≤ s.valve.link[k].start + s.valve.link[k].seen → t.valve.link[k].granting = false)) ∧
    (s.valve.open_ = false → s.valveCond = 0 → s.blockBoundary d = true → s.twin.lossAt = none →
      exec (.valveOpen d) s = .next { put { s.valve with open_ := true, openAt := d, closeBy := none } with dcyc := max s.dcyc d }) ∧
    (s.blockBoundary d = true → ∃ t, exec (.valveBlockBoundary d) s = .next t ∧ t.valve.pend = none ∧ t.mem = s.mem ∧
      t.regs = s.regs ∧ t.valve.open_ = s.valve.open_ ∧ t.valve.lim = (match s.valve.pend with
        | some p => p
        | none => s.valve.lim)) ∧
    (s.tick.run = true → s.valve.lim.slot ≠ 0 →
      let n := s.valve.slotNext
      let w := s.valve.lim.slot.toNat
      (d < n → exec (.slotBoundary d) s = .next { s with dcyc := max s.dcyc d }) ∧
      (n ≤ d → ∃ t, exec (.slotBoundary d) s = .next t ∧ t.regs = s.regs ∧ t.mem = s.mem ∧ d < t.valve.slotNext ∧
        t.valve.slotNext ≤ d + w ∧ (t.valve.slotNext - n) % w = 0 ∧
        (∀ k : Fin 4, d < n + w → t.valve.link[k] = { s.valve.link[k] with
          slots := (s.valve.link[k].slotNow :: s.valve.link[k].slots).take 999, slotNow := 0 }) ∧
        (∀ k : Fin 4, n + 999 * w ≤ d → t.valve.link[k].duty = 0))) ∧
    (∀ late : Bool, s.alive = true →
      (s.valve.permitPin = level → exec (.txPermit level d late) s = .next { s with dcyc := max s.dcyc d }) ∧
      (s.valve.permitPin ≠ level → ∃ x : Valve,
        exec (.txPermit level d late) s = .next { put x with dcyc := max s.dcyc d } ∧ x.permitPin = level ∧
        x.link = s.valve.link ∧ x.open_ = s.valve.open_ ∧ x.lim = s.valve.lim ∧
        (∀ c, d + 2 + (if late then 1 else 0) ≤ c → x.permitIn c = level) ∧
        (s.valve.permits.length ≤ 3 → ∀ c, c < d + 2 + (if late then 1 else 0) → x.permitIn c = s.valve.permitIn c))) ∧
    (s.mode ≠ .quiescent → s.admitted hostB true base = true → isLimit off.toNat = true →
      (s.valve.lock = true → exec (.limitWrite off v) s = .next s) ∧
      (s.valve.lock = false → ∃ t, exec (.limitWrite off v) s = .next t ∧ t.regs = s.regs ∧ t.mem = s.mem ∧
        t.valve.lock = (decide (off.toNat = 0) && v.getLsbD 1) ∧
        (s.valve.open_ = true → t.valve.pend = some m ∧ t.valve.lim = s.valve.lim) ∧
        (s.valve.open_ = false → t.valve.pend = none ∧ t.valve.lim = m))) ∧
    (s.mode ≠ .quiescent → s.admitted hostB true Reg.valveCtl = true →
      exec .valveLock s = .next (put { s.valve with lock := true })) ∧
    (s.mode ≠ .quiescent → s.admitted q true Reg.valveShut = true →
      ∃ b, exec (.valveShut q v) s = .next (put { s.valve with shut := v.getLsbD 0, closeBy := b }) ∧
        (s.valve.open_ = false ∨ s.valve.closeBy ≠ none → b = s.valve.closeBy) ∧
        (s.valve.open_ = true → s.valve.closeBy = none → v.getLsbD 0 = true →
          b = some (s.dcyc + 4 + 8 * s.wh.khz / 1000000)))

/-- Bursts keep to the limits, whatever is asked for: a burst is never granted more than BURST_MAX cycles, the duty count
never passes its limit, and every sample passed lies within the magnitude limit of its converter. A request that may start has
its first cycle granted, and a link that is not in data passes nothing. One that cannot start is suppressed and counted, and
passes zero samples only; its end takes the request away; a burst that has reached a limit is cut off and counted. -/
def Obligations.BurstLimits : Prop :=
  ∀ (s : State) (k : Fin 4) (d : Nat) (samples : List (List (BitVec 16))),
    let l := s.valve.link[k]
    let lim := s.valve.lim.link[k]
    let w := s.txCfg k.val
    let go := ((s.atD d).slotsTo d).burstStarts k d
    let mag (i : Nat) : Nat := (sget (fun _ => (0 : BitVec 16)) s.valve.lim.mag (32 * k.val + i % (cfgM w * cfgS w) / cfgS w)).toNat
    (∀ (i : Instr) (t : State), i = .burstRequest k d samples ∨ i = .burstTruncation k samples ∨ i = .burstRequestEnd k samples →
      exec i s = .next t →
      (l.burst ≤ lim.burstMax.toNat → t.valve.link[k].burst ≤ lim.burstMax.toNat) ∧
      t.valve.link[k].duty ≤ max l.duty lim.duty.toNat ∧
      (∀ y ∈ t.valve.link[k].out, y ∈ l.out ∨ ∀ (i : Nat) (x : BitVec 16), y[i]? = some x →
        x.toInt ≤ mag i ∧ -(mag i : Int) ≤ x.toInt) ∧
      t.mem = s.mem ∧ t.valve.lim = s.valve.lim) ∧
    (s.burstAble k = true → l.req = false → ∃ t, exec (.burstRequest k d samples) s = .next t ∧ t.valve.link[k].req = true ∧
      t.valve.link[k].start = d ∧ t.valve.link[k].seen = samples.length ∧
      (s.jesd.txSt[k] ≠ 2 → t.valve.link[k].out = []) ∧
      (go = true → ∀ x, samples = [x] → t.valve.link[k].granting = true ∧ t.valve.link[k].burst = 1 ∧
        t.valve.link[k].lastGrant = some d ∧ (s.jesd.txSt[k] = 2 → t.valve.link[k].out = [(clipCycle s k x).1])) ∧
      (go = false → (∀ y ∈ t.valve.link[k].out, ∀ x ∈ y, x = 0) ∧ t.valve.link[k].granting = false ∧
        t.valve.link[k].burst = 0 ∧ t.valve.link[k].suppAt = some d ∧
        ((s.reg (Reg.valveClips + 16 * k.val + 4)).toNat < 2 ^ 32 - 1 →
          t.reg (Reg.valveClips + 16 * k.val + 4) = s.reg (Reg.valveClips + 16 * k.val + 4) + 1))) ∧
    (l.req = true → (∃ t, exec (.burstRequestEnd k samples) s = .next t ∧ t.valve.link[k].req = false ∧
        t.valve.link[k].granting = false ∧ t.valve.link[k].seen = l.seen + samples.length) ∧
      (l.granting = true → s.valve.goesOn k (l.start + l.seen) = false → ∃ t, exec (.burstTruncation k []) s = .next t ∧
        t.valve.link[k].granting = false ∧ t.valve.link[k].suppAt = some (l.start + l.seen) ∧ t.valve.link[k].req = true ∧
        ((s.reg (Reg.valveClips + 16 * k.val + 8)).toNat < 2 ^ 32 - 1 →
          t.reg (Reg.valveClips + 16 * k.val + 8) = s.reg (Reg.valveClips + 16 * k.val + 8) + 1)))

/-! ### The ring fabric (11) -/

/-- The ring: a request is judged, performed and answered, a refused one with its code and without effect; one that enters
a ring takes the way of its destination's table entry, and its response takes the urgency it had on arrival; bad parity is fatal
and loses the flit, a reserved operation does nothing, and what an isolated station sends is discarded. Of the responses that wait
at a station's output the most urgent reaches its requester, an error counts, and a bulk controller holds one back while a snoop
of its granule is unanswered. A flit that waits gains urgency up to 7. A station whose timer ends is isolated, which is fatal in a
run and contained otherwise, and the requests it has not answered are answered "isolated"; a drained one is dry. FLIP changes the
epoch where no old flit lives. A snoop waits for its core's acknowledgement, and an invalidating one takes the reservation of its
granule. -/
def Obligations.RingFabric : Prop :=
  ∀ (s : State) (q : Requester) (n : Fin 32) (c : CoreId) (i : Nat),
    s.alive = true →
    let put (x : Ring) : State := { s with ring := x }
    let failed (unanswered : List Nat) (code : BitVec 4) (t : State) : Prop := ∀ (j : Nat) (r : Resp), s.ring.resp[j]? = some r →
      t.ring.resp[j]? = some (if r.src = n.val ∧ j ∈ unanswered ∧ ¬ (1 ≤ r.code.toNat ∧ r.code.toNat ≤ 5)
        then { r with code := code, data := 0 } else r)
    (∀ r : ReqFlit, r.who.src ≠ 15 → s.ring.iso.getLsbD r.who.src = false → r.parity = false → r.op = 1 ∨ r.op = 2 ∨ r.op = 3 →
      let a := r.addr.toNat
      let code := accessCode s r.who (r.op != 1) a r.len
      let dst := errDst r.who a
      let go : Prop := ¬ (1 ≤ code ∧ code ≤ 3) ∧ r.who.src ≠ dst
      let u := s.fld (Reg.ringInjUrg + 4 * r.who.src) 2 0
      let fresh : Prop := r.aged = 0 ∧ r.dataAged = 0
      let flit (t : State) (code data : Nat) : Prop := ∃ x : Resp, t.ring.resp = s.ring.resp ++ [x] ∧ x.src = dst ∧
        x.dst = r.who.src ∧ x.tag = r.tag ∧ x.code = BitVec.ofNat 4 code ∧ x.data = BitVec.ofNat 512 (data * 2 ^ (8 * (a % 64))) ∧
        x.posted = (r.op == 3) ∧ x.addr = r.addr ∧ x.epoch = s.ring.epoch ∧ (go → x.urg = min (u + r.aged) 7) ∧ (¬ go → x.urg = u)
      (code ≠ 0 → ∃ t, exec (.request r) s = .next t ∧ flit t code 0 ∧ t = { put t.ring with free := t.free, regs := t.regs } ∧
        (fresh → t.regs = s.regs)) ∧
      (code = 0 → r.op = 1 → inMem a r.len = true → r.ecc = .clean → ∃ t, exec (.request r) s = .next t ∧
        flit t 0 (s.memNat a r.len) ∧ t = { put t.ring with free := t.free, regs := t.regs } ∧ (fresh → t.regs = s.regs)) ∧
      (code = 0 → r.op = 1 → inMem a r.len = true → r.ecc = .lost → ∃ t, exec (.request r) s = .next t ∧ flit t 6 0 ∧
        t.mem = s.mem) ∧
      (code = 0 → r.op = 1 → regionOf a = some .rom → ∃ t, exec (.request r) s = .next t ∧ flit t 0 (romNat a r.len) ∧
        t.mem = s.mem) ∧
      (code = 0 → r.op ≠ 1 → inMem a r.len = true → ∃ t, exec (.request r) s = .next t ∧ flit t 0 0 ∧
        (fresh → t.regs = s.regs) ∧ (∀ b, b < a ∨ a + r.len ≤ b → t.byte b = s.byte b) ∧
        (∀ j, j < r.len → t.byte (a + j) = (r.data >>> (8 * (a % 64 + j))).setWidth 8)) ∧
      (∃ t c1 c2, exec (.request r) s = .next t ∧ (go → t.ring.way = routeOf ((s.route true)[dst]?.getD 0) c1 c2 r.who.src dst) ∧
        (¬ go → t.ring.way = ⟨[], none, 0⟩))) ∧
    (∀ r : ReqFlit, s.ring.iso.getLsbD r.who.src = false → r.parity = true → ∃ t, exec (.request r) s = .next t ∧
      t.fatalSeen = true ∧ bit (t.reg Reg.ringStat) 3 = true ∧ t.ring = s.ring ∧ t.mem = s.mem) ∧
    (∀ r : ReqFlit, s.ring.iso.getLsbD r.who.src = true ∨ (r.parity = false ∧ (r.op = 0 ∨ 3 < r.op.toNat)) →
      exec (.request r) s = .next s) ∧
    (∀ (r : Resp) (w : Nat), s.ring.resp = [r] →
      let held : Prop := ∃ x ∈ s.ring.snoops, x.src = r.src ∧ x.granule = r.addr.toNat / 64
      (held → ∀ p, exec (.response [(0, w)] p) s = .next s) ∧
      (¬ held → r.code = 0 → exec (.response [(0, w)] false) s = .next (put { s.ring with resp := [], got := some r })) ∧
      (¬ held → r.code ≠ 0 → ∃ t, exec (.response [(0, w)] false) s = .next t ∧ t.ring.resp = [] ∧ t.ring.got = some r ∧
        (r.dst ≠ 0 → r.dst ≠ 8 → (s.reg Reg.ringErrcnt).toNat < 2 ^ 32 - 1 →
          (t.reg Reg.ringErrcnt).toNat = (s.reg Reg.ringErrcnt).toNat + 1)) ∧
      (¬ held → ∃ t, exec (.response [(0, w)] true) s = .next t ∧ t.ring = { s.ring with resp := [] } ∧
        t.fatalSeen = true ∧ t.mem = s.mem)) ∧
    (∀ (r r' : Resp) (w w' : Nat), s.ring.resp = [r, r'] → s.ring.snoops = [] → r.dst = r'.dst → r.code = 0 → r'.code = 0 →
      r.urg ≤ 7 → r'.urg ≤ 7 → w < 65536 → w' < 65536 →
      (r'.urg < r.urg ∨ (r'.urg = r.urg ∧ w' < w) →
        exec (.response [(0, w), (1, w')] false) s = .next (put { s.ring with resp := [r'], got := some r })) ∧
      (r.urg < r'.urg ∨ (r.urg = r'.urg ∧ w < w') →
        exec (.response [(0, w), (1, w')] false) s = .next (put { s.ring with resp := [r], got := some r' }))) ∧
    (∀ r : Resp, s.ring.resp[i]? = some r →
      let older (x : Nat) : Nat := if 7 ≤ x then x else x + 1
      (∃ t, exec (.urgencyAging 0 i) s = .next t ∧ t.ring.resp[i]? = some { r with urg := older r.urg } ∧
        t.ring.resp.length = s.ring.resp.length ∧ t.mem = s.mem ∧ (r.urg ≠ 6 → t.regs = s.regs) ∧
        (r.urg = 6 → (s.reg Reg.ringAged).toNat < 2 ^ 32 - 1 → (t.reg Reg.ringAged).toNat = (s.reg Reg.ringAged).toNat + 1)) ∧
      (∃ t, exec (.urgencyAging 1 i) s = .next t ∧ t.ring.resp[i]? = some { r with durg := older r.durg } ∧
        t.ring.resp.length = s.ring.resp.length ∧ t.mem = s.mem)) ∧
    (∀ x : Snoop, s.ring.snoops[i]? = some x → ∃ t, exec (.urgencyAging 2 i) s = .next t ∧
      t.ring.snoops[i]? = some { x with urg := if 7 ≤ x.urg then x.urg else x.urg + 1 } ∧ t.ring.resp = s.ring.resp ∧
      t.mem = s.mem) ∧
    (∀ l, s.ring.iso.getLsbD n.val = false → ∃ t, exec (.isolation n l) s = .next t ∧
      t.ring.iso = s.ring.iso ||| (1#32 <<< n.val) ∧ failed l 4 t ∧
      (s.running = true → t.fatalSeen = true) ∧ (s.running = false → t.fatalSeen = s.fatalSeen) ∧ t.mem = s.mem) ∧
    (∀ l, s.ring.drain.getLsbD n.val = true → n ≠ 31 → ∃ t, exec (.drainEnd n l) s = .next t ∧ t = put t.ring ∧
      t.ring.dry.getLsbD n.val = true ∧ t.ring.drain.getLsbD n.val = false ∧ failed l 5 t) ∧
    (∀ l, s.ring.drain.getLsbD 31 = true → ∃ t, exec (.drainEnd 31 l) s = .next t ∧ t.pwr.edgeOn = s.pwr.edgeReq ∧
      t.edge.st = .unloaded ∧ t.edge.frames = [] ∧ t.ring.dry.getLsbD 31 = true ∧ t.ring.drain.getLsbD 31 = false ∧
      t.mem = s.mem ∧ t.regs = s.regs) ∧
    (s.admitted q true Reg.ringEpoch = true →
      let old : Prop := (∃ r ∈ s.ring.resp, r.epoch ≠ s.ring.epoch) ∨ ∃ x ∈ s.ring.snoops, x.epoch ≠ s.ring.epoch
      (¬ old → exec (.flip q) s = .next (put { s.ring with epoch := !s.ring.epoch })) ∧
      (old → exec (.flip q) s = .next (s.setBit Reg.ringStat 2))) ∧
    (∀ x : SnoopFlit,
      (x.src = 7 ∨ x.src = 23 → x.dst.toNat = coreStation c → x.ty = 1 ∨ x.ty = 2 ∨ x.ty = 3 → ∃ t y,
        exec (.snoop x) s = .next t ∧ t.ring.snoops = s.ring.snoops ++ [y] ∧ y.src = x.src.toNat ∧ y.dst = x.dst.toNat ∧
        y.granule = x.granule.toNat ∧ y.ty = x.ty.toNat ∧ y.tag = x.tag.toNat ∧ y.epoch = s.ring.epoch ∧
        y.urg = min (x.urg.toNat + x.aged) 7 ∧ t.mem = s.mem ∧ t.ring.resp = s.ring.resp ∧
        t.core c = { s.core c with
          rsv := if x.ty ≠ 2 ∧ (s.core c).rsv = some x.granule.toNat then none else (s.core c).rsv }) ∧
      (∀ y, x.dst = 7 ∨ x.dst = 23 → x.src.toNat = coreStation c → x.ty = 4 ∨ x.ty = 5 → s.ring.snoops = [y] →
        y.src = x.dst.toNat → y.dst = x.src.toNat → y.granule = x.granule.toNat → y.tag = x.tag.toNat →
        ∃ t, exec (.snoop x) s = .next t ∧ t.mem = s.mem ∧
          t.ring.snoops = if x.ty = 4 ∨ y.ty ≠ 1 then [] else [y]) ∧
      (x.ty = 0 ∨ x.ty = 6 ∨ x.ty = 7 → exec (.snoop x) s = .next s))

/-! ### The host's rings and windows (12) -/

/-- The host side: a doorbell stores the tail and raises the command core's line 0, and an index outside the ring stops it; a
ring is enabled with an allowed size and starts empty, a held reply first; the ring served next gives its slot to the
firmware; a wrong sequence number is answered SEQ_ERROR and stops the ring, an unknown opcode BAD_OPCODE; an event is
written, CODE 4 first after a loss, or lost, and a vector reaches the host. A window access of any length to the cisterns
reads or writes them; one that is refused completes with Completer Abort or writes nothing. -/
def Obligations.HostRings : Prop :=
  ∀ (s : State) (r : Fin 4) (ring : Fin 6) (tail : BitVec 13) (x : Slot) (v : Word) (q : Requester),
    s.mode ≠ .quiescent →
    let g := s.host.cr[r]
    let sent (vec : Nat) (t : State) : Prop :=
      if s.msixMasked vec = true then t.host.pba.getLsbD vec = true else vec ∈ t.host.msix
    let tailReg := Reg.hostifCrTail + 0x20 * r.val
    (s.admitted hostA true tailReg = true → (g.en = false ∨ g.stopped = true ∨ tail.toNat < 2 ^ g.size.toNat) →
      ∃ t, exec (.doorbell r tail) s = .next t ∧ t.host.cr[r] = { g with tail := tail.toNat } ∧ t.mem = s.mem ∧
        t.regs = s.regs ∧ t.cmd = { s.cmd with irqPend := s.cmd.irqPend ||| 1#32 } ∧
        (∀ y : Fin 4, y ≠ r → t.host.cr[y] = s.host.cr[y])) ∧
    (s.admitted hostA true tailReg = true → g.en = true → g.stopped = false → 2 ^ g.size.toNat ≤ tail.toNat →
      ∃ t, exec (.doorbell r tail) s = .next t ∧ t.host.cr[r] = { g with stopped := true, why := 1 } ∧ sent 3 t) ∧
    (∀ written, s.admitted hostA true (ringBase ring + 8) = true →
      let w := s.hring ring
      let n := v.toNat % 16
      let ok := decide (2 ≤ n) && decide (n ≤ if ring.val < 4 then 12 else 13) && v.getLsbD 4
      let begun : HRing := { w with
        size := BitVec.ofNat 4 n, en := true, tail := 0, head := 0, seq := 0, stopped := false, why := 0 }
      ∃ t, exec (.ringEnable ring v written) s = .next t ∧ t.mem = s.mem ∧ t.regs = s.regs ∧
        (ok = false → t.hring ring = { w with size := BitVec.ofNat 4 n, en := false } ∧ t.host.replies = s.host.replies) ∧
        (ok = true → w.en = true → t.hring ring = { w with size := BitVec.ofNat 4 n }) ∧
        (ok = true → w.en = false → ring ≠ 4 ∨ s.host.held = none →
          t.hring ring = begun ∧ t.host.replies = s.host.replies) ∧
        (∀ y, ok = true → w.en = false → ring = 4 → s.host.held = some y →
          (written = true → t.host.replies = s.host.replies ++ [{ y with phase := true }] ∧ t.host.held = none ∧
            t.hring ring = { begun with tail := 1 } ∧ (y.irq = true → sent 0 t)) ∧
          (written = false → t.host.replies = s.host.replies ∧ t.host.held = some y ∧
            t.hring ring = { begun with stopped := true, why := 3 } ∧ sent 3 t))) ∧
    (s.serves = true → s.host.cur = none → s.rpRoom = true → s.nextRing = some r →
      let taken : HRing := { g with head := (g.head + 1) % 2 ^ g.size.toNat, seq := g.seq + 1 }
      (x.fetched = true → x.seq = g.seq → knownOpcode s.host.rom x.opcode.toNat = true →
        ∃ t, exec (.commandStart x) s = .next t ∧ t.host.cur = some ⟨r.val, x⟩ ∧ t.host.cr[r] = taken ∧
          t.host.replies = s.host.replies ∧ t = { s with host := t.host }) ∧
      (x.fetched = true → x.seq = g.seq → knownOpcode s.host.rom x.opcode.toNat = false → ∃ t u,
        exec (.commandStart x) s = .next t ∧ t.host.cr[r] = taken ∧ u.host.cur = some ⟨r.val, x⟩ ∧
          u.host.replies = s.host.replies ∧ answered u t 1 none none) ∧
      (x.fetched = true → x.seq ≠ g.seq → ∃ t u, exec (.commandStart x) s = .next t ∧
          t.host.cr[r] = { taken with stopped := true, why := 2 } ∧ u.host.cur = some ⟨r.val, x⟩ ∧
          u.host.replies = s.host.replies ∧ answered u t 10 none none) ∧
      (x.fetched = false → ∃ t, exec (.commandStart x) s = .next t ∧ t.host.cr[r] = { g with stopped := true, why := 3 } ∧
        t.host.cur = none ∧ sent 3 t)) ∧
    (∀ (code : BitVec 16) (d : Dbl), s.serves = true → s.host.fw = true → code = 1 ∨ code = 2 ∨ 0x100 ≤ code.toNat →
      s.host.evQ = [] →
      (s.evRoom = true → s.host.lost = false → ∃ t e, exec (.event code d true) s = .next t ∧
        t.host.events = s.host.events ++ [e] ∧ e.code = code ∧ e.data = d ∧ e.tick = s.tick.cur ∧
        t.host.ev.tail = (s.host.ev.tail + 1) % 2 ^ s.host.ev.size.toNat ∧ sent 1 t ∧ t = { s with host := t.host }) ∧
      (s.evRoom = true → s.host.lost = true → ∃ t e l, exec (.event code d true) s = .next t ∧
        t.host.events = s.host.events ++ e :: l ∧ e.code = 4 ∧
        (if t.host.lost then l = [] else ∃ y, l = [y] ∧ y.code = code ∧ y.data = d)) ∧
      (s.evRoom = true → ∃ t, exec (.event code d false) s = .next t ∧ t.host.events = s.host.events ∧
        t.host.lost = true ∧ t.host.ev = { s.host.ev with stopped := true, why := 3 } ∧ sent 3 t) ∧
      (∀ written, s.evRoom = false → ∃ t, exec (.event code d written) s = .next t ∧ t.host.events = s.host.events ∧
        t.host.lost = true)) ∧
    (∀ (y : BitVec 16 × Dbl × Dbl), s.alive = true → s.host.evQ = [y] → s.evRoom = true → s.host.lost = false →
      ∃ t e, exec (.event 0 0 true) s = .next t ∧ t.host.events = s.host.events ++ [e] ∧ e.code = y.1 ∧ e.tick = y.2.1 ∧
        e.data = y.2.2 ∧ t.host.evQ = [] ∧ sent 1 t ∧ t = { s with host := t.host }) ∧
    (∀ vec : BitVec 6, s.admitted q true Reg.hostifMsixSend = true →
      (vec.toNat < 4 → exec (.msixSend q vec) s = .next s) ∧
      (4 ≤ vec.toNat → ∃ t, exec (.msixSend q vec) s = .next t ∧ t = { s with host := t.host } ∧ sent vec.toNat t)) ∧
    (∀ (off : BitVec 26) (l : List Byte) (len : Nat), s.alive = true → 1 ≤ len → off.toNat + len ≤ 0x2000000 →
      s.ring.iso.getLsbD 15 = false →
      let a := 0x10000000 + off.toNat
      (len ≤ 4096 → rangeFail s hostA false a len = none → ∃ t, exec (.hostAccess false off false len l []) s = .next t ∧
        t.host.cpl = some (false, s.bytes a len) ∧ t.mem = s.mem ∧ t.regs = s.regs) ∧
      (len ≤ 4096 → rangeFail s hostA false a len ≠ none → ∃ t, exec (.hostAccess false off false len l []) s = .next t ∧
        t.host.cpl = some (true, []) ∧ t.mem = s.mem ∧ bit (t.reg Reg.hostifErrlog) 6 = true) ∧
      (len ≤ 512 → l.length = len → rangeFail s hostA true a len = none →
        ∃ t, exec (.hostAccess false off true len l []) s = .next t ∧ t.bytes a len = l ∧
          (∀ b, b < a ∨ a + len ≤ b → t.byte b = s.byte b) ∧ t.regs = s.regs) ∧
      (off.toNat % 64 + len ≤ 64 → rangeFail s hostA true a len ≠ none →
        ∃ t, exec (.hostAccess false off true len l []) s = .next t ∧ t.mem = s.mem ∧
          bit (t.reg Reg.hostifErrlog) 6 = true))

/-! ### Commands of the host protocol (12 R335 to R342; 13 R354, R358; 14 R381; 15 R409 to R412) -/

/-- IDENTIFY, STATUS, LC_QUERY and DATA_READ answer in every mode; FW_COMMIT raises the version floor; DATA_WRITE stores
the host's bytes; SEED and USER reach the workload. A slot that is not in order gets BAD_PARAM, a scatter list that cannot
be read DMA_ERROR and stops its ring. In Active such an input is mirrored for tick TICK_CUR + TWIN_LEAD instead: it waits
for the peer's acknowledgement and its tick, and the reply, once it has taken effect, carries that tick. -/
def Obligations.HostData : Prop :=
  ∀ (s : State) (x : CurCmd) (buf : Dbl) (len : Nat) (b : Bool) (a : BitVec 48) (content params : List Byte) (v : BitVec 256)
    (r0 r1 : Dbl) (bad : List (Nat × Ecc)),
    let quiet (t : State) : Prop := t = { s with host := t.host, free := t.free }
    let code (x : State → Prop) (i : Instr) : Prop := ∃ t, exec i s = .next t ∧ x t
    let tickT := s.tick.cur.toNat + s.fld Reg.twinLead 7 0
    let mirrored (y : Mirrored) (res0 : Option Dbl) (t : State) : Prop :=
      t.twin.inputs = s.twin.inputs ++ [⟨tickT, y, s.twin.state != 3, some res0⟩] ∧
        t.twin.sent = (if s.twin.link then s.twin.sent ++ [.fwd tickT y] else s.twin.sent) ∧ t = { s with twin := t.twin }
    let total := slotTotal x.slot
    let inOrder := slotValid x.slot = true ∧ listLost x.slot = false
    let slotBad (i : Instr) : Prop :=
      (slotValid x.slot = false → code (fun t => answered s t 2 none none ∧ quiet t) i) ∧
      (slotValid x.slot = true → listLost x.slot = true → code (fun t => answered s t 9 none none ∧
        (∀ r : Fin 4, r.val = x.ring → t.host.cr[r].stopped = true ∧ t.host.cr[r].why = 3) ∧ quiet t) i)
    s.serves = true → s.host.cur = some x →
    (s.serving 1 = true → slotBad (.identify buf len b) ∧ (inOrder →
      (256 ≤ len → code (fun t => answered s t 0 (some (s.wh.flash.lc.setWidth 64)) none ∧ quiet t ∧ t.host.outAt = buf ∧
        t.host.out.length = 256 ∧ t.host.out.take 8 = [0x53, 0x56, 0x54, 0x2D, 0x32, 0x30, 0x34, 0x38] ∧
        t.host.out[17]? = some (s.wh.flash.lc.setWidth 8)) (.identify buf len true)) ∧
      (256 ≤ len → code (fun t => answered s t 9 none none ∧ quiet t) (.identify buf len false)) ∧
      (len < 256 → code (fun t => answered s t 2 none none ∧ quiet t) (.identify buf len b)))) ∧
    (s.serving 2 = true → slotBad .status ∧ (inOrder → code (fun t => answered s t 0
        (some (BitVec.ofNat 64 (s.mode.code + 2 ^ 16 * (s.tick.cur.toNat % 2 ^ 32))))
        (some (BitVec.ofNat 64 (s.host.fwVer.toNat + 2 ^ 32 * s.host.fwLevel.toNat))) ∧ quiet t) .status)) ∧
    (s.serving 3 = true → slotBad .lcQuery ∧ (inOrder → code (fun t => answered s t 0 (some (s.wh.flash.lc.setWidth 64))
        (some (s.wh.flash.lcLog.setWidth 64)) ∧ quiet t) .lcQuery)) ∧
    (s.serving 0x41 = true → slotBad (.dataRead a len b bad) ∧ (inOrder →
      (dataRange a.toNat len = false ∨ len ≠ total → code (fun t => answered s t 2 none none ∧ quiet t)
        (.dataRead a len b bad)) ∧
      (dataRange a.toNat len = true → len = total → rangeFail s (supReq .cmd) false a.toNat len = none →
        code (fun t => answered s t 0 none none ∧ quiet t ∧ t.host.out = s.bytes a.toNat len) (.dataRead a len true []) ∧
        code (fun t => answered s t 9 none none ∧ quiet t) (.dataRead a len false []) ∧
        (0 < len → code (fun t => answered s t 14 (some 6) none ∧ t.mem = s.mem ∧ t.host.out = s.host.out)
          (.dataRead a len b [(0, .lost)]))) ∧
      (∀ g k, dataRange a.toNat len = true → len = total → rangeFail s (supReq .cmd) false a.toNat len = some (g, k) →
        code (fun t => answered s t 14 (some (BitVec.ofNat 64 k)) none ∧ t.mem = s.mem) (.dataRead a len b [])))) ∧
    (s.serving 0x10 = true → s.mode = .ready → slotBad .fwCommit ∧ (inOrder →
      let floor : BitVec 16 := BitVec.ofNat 16 (max s.wh.flash.secFloor.toNat s.host.fwSec.toNat)
      code (fun t => answered s t 0 (some (floor.setWidth 64)) none ∧ t.wh = { s.wh with flash := { s.wh.flash with
        secFloor := floor } } ∧ t = { s with host := t.host, free := t.free, wh := t.wh }) .fwCommit)) ∧
    (s.serving 0x40 = true → s.mode = .ready ∨ s.mode = .solo ∨ s.mode = .active →
      let n := content.length
      slotBad (.dataWrite a content b) ∧ (inOrder →
      (dataRange a.toNat n = false ∨ n ≠ total → code (fun t => answered s t 2 none none ∧ quiet t) (.dataWrite a content b)) ∧
      (dataRange a.toNat n = true → n = total →
        code (fun t => answered s t 9 none none ∧ quiet t) (.dataWrite a content false) ∧
        (s.mode = .active → s.mirrorWaits = false → code (mirrored (.data a content) none) (.dataWrite a content true)) ∧
        (s.mode ≠ .active → rangeFail s (supReq .cmd) true a.toNat n = none →
          code (fun t => answered s t 0 none none ∧ t.regs = s.regs ∧ t.bytes a.toNat n = content ∧
            (∀ x, x < a.toNat ∨ a.toNat + n ≤ x → t.byte x = s.byte x)) (.dataWrite a content true)) ∧
        (∀ g k, s.mode ≠ .active → rangeFail s (supReq .cmd) true a.toNat n = some (g, k) →
          code (fun t => answered s t 14 (some (BitVec.ofNat 64 k)) none) (.dataWrite a content true))))) ∧
    (s.serving 0x42 = true →
      (s.mode = .solo ∨ s.mode = .active → slotBad (.seed v)) ∧
      (inOrder → s.mode = .solo → code (fun t => answered s t 0 none none ∧ t.host.seedVal = v ∧ quiet t) (.seed v)) ∧
      (inOrder → s.mode = .active → s.mirrorWaits = false → code (mirrored (.seed v) none) (.seed v))) ∧
    (0x1000 ≤ x.slot.opcode.toNat → x.slot.opcode.toNat ≤ 0x7FFF →
      (s.mode = .ready ∨ s.mode = .solo ∨ s.mode = .active → slotBad (.user params r0 r1)) ∧
      (inOrder → s.mode = .ready ∨ s.mode = .solo → code (fun t => answered s t 0 (some r0) (some r1) ∧ quiet t ∧
        t.host.user = s.host.user ++ [(x.slot.opcode, params.take 48)]) (.user params r0 r1)) ∧
      (inOrder → s.mode = .active → s.mirrorWaits = false →
        code (mirrored (.user x.slot.opcode (params.take 48)) (some r0)) (.user params r0 r1))) ∧
    (∀ (n m : Nat) (res0 : Option Dbl) (y : Mirrored), y = .seed v ∨ y = .user x.slot.opcode params →
      s.twin.inputs = [⟨n, y, b, some res0⟩] → n ≤ m → m < 2 ^ 64 →
      let t := s.startTick (BitVec.ofNat 64 m)
      answered s t 0 res0 (some (BitVec.ofNat 64 n)) ∧ t.twin.inputs = [] ∧ t.tick.cur = BitVec.ofNat 64 m ∧
        (y = .seed v → t.host.seedVal = v) ∧
        (y = .user x.slot.opcode params → t.host.user = s.host.user ++ [(x.slot.opcode, params)]))

/-- Images, fabric and links: PRIME enters Priming; a refused image, its digest's signature among the checks, brings Bare back
with its status, an accepted one starts the firmware in Ready, a store refused in step 8 is DEVICE_ERROR with the timer
running. WL_LOAD refuses with DMA_ERROR, BAD_PARAM, FORMAT or VERIFY_FAIL and leaves nothing loaded, or becomes the workload;
the fabric starts, stops or refuses; a bay image loads or fails; LINK_UP answers once the links are in data, or TIMEOUT. -/
def Obligations.HostImages : Prop :=
  ∀ (s : State) (x : CurCmd) (f : FwImage) (w : WlImage) (b : Bool) (bay : Fin 8) (frames : List (BitVec 2048)) (ms : Nat),
    let code (x : State → Prop) (i : Instr) : Prop := ∃ t, exec i s = .next t ∧ x t
    let edgeErr (t : State) : Prop := answered s t 13 (some ((t.reg Reg.edgeCfgErr).setWidth 64)) none
    let raw := w.raw
    let inOrder := slotValid x.slot = true ∧ listLost x.slot = false
    s.serves = true → s.host.cur = some x →
    (s.serving 4 = true →
      (s.mode = .bare → s.wh.flash.lc = 3 → code (fun t => answered s t 11 none none ∧ t.mode = .bare) (.prime f)) ∧
      (s.mode = .bare → s.wh.flash.lc ≠ 3 → code (fun t => t = { s with
        mode := .priming, host := { s.host with primeTimer := true }, valve := t.valve }) (.prime f)) ∧
      (s.mode = .priming → ¬ inOrder → code (fun t => answered s t (if slotValid x.slot then 9 else 2) none none ∧
        t.mode = .bare ∧ t.host.primeTimer = false ∧ t.wh = s.wh ∧ t.mem = s.mem) (.prime f)) ∧
      (s.mode = .priming → inOrder → s.primeCheck f ≠ 0 → code (fun t => answered s t (s.primeCheck f) none none ∧
        t.mode = .bare ∧ t.host.primeTimer = false ∧ t.wh = s.wh ∧ t.host.fw = s.host.fw) (.prime f)) ∧
      (s.mode = .priming → inOrder → s.primeCheck f = 0 →
        s.ring.iso.getLsbD 7 = false → s.ring.drain.getLsbD 7 = false → s.ring.dry.getLsbD 7 = false →
        (s.cist.rdy.getLsbD 0 = true → s.cist.selfRefresh = false →
          code (fun t => answered s t 0 (some (t.host.fwVer.setWidth 64)) none ∧ t.mode = .ready ∧ t.host.fw = true ∧
            t.host.rom = false ∧ t.host.fwVer = BitVec.ofNat 32 (imgNat f.raw 12 4) ∧ t.seq.run = true ∧
            t.host.primeTimer = false ∧ t.cmd.pc = BitVec.ofNat 48 (imgNat f.raw 24 8) ∧ t.mseq.dispEn = true) (.prime f)) ∧
        (∀ y, s.cist.rdy.getLsbD 0 = false → sections f.raw = [y] → y.ty = 1 → 0 < y.len →
          code (fun t => answered s t 14 (some 5) none ∧ t.mode = .bare ∧ t.host.primeTimer = s.host.primeTimer ∧
            t.host.fw = s.host.fw) (.prime f)))) ∧
    (s.serving 0x20 = true → s.mode = .ready → inOrder →
      let failed (t : State) : Prop := t.mseq.dispEn = true ∧ t.edge.st = .unloaded ∧ t.mem = s.mem ∧ t.host.wl = s.host.wl
      (w.copied = false → code (fun t => answered s t 9 none none ∧ failed t) (.wlLoad w)) ∧
      (w.copied = true → slotTotal x.slot ≠ imgLen raw → code (fun t => answered s t 2 none none ∧ failed t) (.wlLoad w)) ∧
      (w.copied = true → slotTotal x.slot = imgLen raw →
        (formatOk false raw = false ∨ digestOk raw = false →
          code (fun t => answered s t 7 none none ∧ failed t) (.wlLoad w)) ∧
        (formatOk false raw = true → digestOk raw = true →
          ((sections raw).all Sect.destOk = false →
            code (fun t => answered s t 2 none none ∧ failed t) (.wlLoad w)) ∧
          (∀ n k, (sections raw).all Sect.destOk = true → s.verifyImage raw = some (n, k) →
            code (fun t => answered s t 8 (some (BitVec.ofNat 64 n)) (some (BitVec.ofNat 64 k)) ∧ failed t) (.wlLoad w)) ∧
          ((sections raw).all Sect.destOk = true → (∀ y ∈ sections raw, y.ty = 20) →
            code (fun t => answered s t 0 (some (digestHalf (imgDigest raw) 0)) (some (digestHalf (imgDigest raw) 1)) ∧
              t.host.wl = some (imgDigest raw) ∧ t.host.wlJesd = w.jesd ∧ t.mseq.dispEn = true ∧ t.edge.st = .unloaded ∧
              t.mem = s.mem) (.wlLoad w))))) ∧
    (s.serving 0x21 = true → s.mode = .ready → inOrder →
      (s.edge.st = .loaded → s.edge.startPend = none → code (fun t => answered s t 0 none none ∧
        t.edge = { s.edge with startPend := some (b, s.dcyc + 8, none) } ∧ t.regs = s.regs) (.fabricStart b)) ∧
      (s.edge.st ≠ .loaded ∨ s.edge.startPend ≠ none → code (fun t => edgeErr t ∧ t.edge = s.edge) (.fabricStart b))) ∧
    (s.serving 0x22 = true → s.mode = .ready → inOrder →
      (s.edge.st = .loaded ∨ s.edge.st = .running → code (fun t => answered s t 0 none none ∧ t.edge.st = .loaded ∧
        t.edge.startPend = none ∧ t.edge.frames = s.edge.frames ∧ t.regs = s.regs) .fabricStop) ∧
      (s.edge.st = .unloaded ∨ s.edge.st = .loading → code (fun t => edgeErr t ∧ t.edge = s.edge) .fabricStop)) ∧
    (s.serving 0x23 = true → inOrder →
      (s.mode = .ready ∨ s.mode = .solo → code (fun t => t.edge = (s.bayImage bay frames).1.edge ∧
        if (s.bayImage bay frames).2 then answered s t 0 none none else edgeErr t) (.bayReload bay frames true)) ∧
      (s.mode = .active → s.mirrorWaits = false → code (fun t => t.host = s.host ∧ t.edge = s.edge ∧
        t.twin.inputs = s.twin.inputs ++ [⟨s.tick.cur.toNat + s.fld Reg.twinLead 7 0, .bay bay frames, s.twin.state != 3,
          some none⟩]) (.bayReload bay frames true)) ∧
      (s.mode = .ready ∨ s.mode = .solo ∨ s.mode = .active →
        code (fun t => answered s t 9 none none ∧ t.edge = s.edge) (.bayReload bay frames false))) ∧
    (s.serving 0x24 = true → s.mode = .ready → inOrder → s.host.linkUp = none →
      let up := s.putLinks.linksInData
      (up = true → code (fun t => answered s t 0 (some (t.jesdStatus.setWidth 64)) none ∧ t.tick.en = true) (.linkUp ms)) ∧
      (up = false → ms = 0 → code (fun t => answered s t 12 (some (t.jesdStatus.setWidth 64)) none) (.linkUp ms)) ∧
      (up = false → ms ≠ 0 → code (fun t => t.host = { s.host with linkUp := some ms } ∧ t.jesd = s.putLinks.jesd) (.linkUp ms))) ∧
    (s.host.linkUp.isSome = true → code (fun t =>
      answered s t 12 (some (s.jesdStatus.setWidth 64)) none ∧ t.host.linkUp = none ∧
        t = { s with host := t.host, free := t.free }) .linkUpTimeout)

/-- Runs: RUN enters Solo with the next tick's number, or sends HELLO for a pair; STOP_RUN waits for the frame boundary,
naming it to a shadow; self-test and Quiescent are entered from Ready; slack self-test is armed in a run; the end of a
self-test clears its banks and gives its reply.
Each command is executed in its modes only: elsewhere, Fault-hold included, it is answered BAD_MODE and has no effect. -/
def Obligations.HostRunsAndModes : Prop :=
  (∀ (s : State) (x : CurCmd) (b log : Bool) (role : Fin 4) (r : StResult),
    let code (x : State → Prop) (i : Instr) : Prop := ∃ t, exec i s = .next t ∧ x t
    let sentMore (m : Sent) : List Sent := if s.twin.link then s.twin.sent ++ [m] else s.twin.sent
    s.serves = true → s.host.cur = some x → slotValid x.slot = true → listLost x.slot = false →
    (s.serving 0x30 = true → s.mode = .ready → s.host.runReq = none →
      (s.wh.flash.lc = 2 → code (fun t => answered s t 11 none none ∧ t.mode = .ready) (.run role)) ∧
      (s.wh.flash.lc ≠ 2 → code (fun t => answered s t 2 none none ∧ t.mode = .ready) (.run 3)) ∧
      (s.wh.flash.lc ≠ 2 → code (fun t => answered s t 0 (some (if s.tick.run then s.tick.count + 1 else 0)) none ∧
        t.mode = .solo ∧ t.regs = s.regs ∧ t.mem = s.mem) (.run 0)) ∧
      (s.wh.flash.lc ≠ 2 → role = 1 ∨ role = 2 → code (fun t => t.host = { s.host with runReq := some role.val } ∧
        t.twin.state = 1 ∧ t.twin.role.toNat = role.val ∧ t.mode = .ready ∧
        t.twin.sent = sentMore (.hello { s.helloOut with role := BitVec.ofNat 2 role.val })) (.run role))) ∧
    (s.serving 0x31 = true → s.host.stopReq = false → s.running = true → code (fun t =>
      t.host = { s.host with stopReq := true } ∧ bit (t.reg Reg.errorStStat) 1 = false ∧ t.mode = s.mode ∧
      (if s.mode = .active ∧ (s.twin.state = 2 ∨ s.twin.state = 3) then
        t.twin = { s.twin with handF := some s.handFrame, sent := sentMore (.stepdown (some s.handFrame)) }
      else t.twin = s.twin)) .stopRun) ∧
    (s.serving 0x50 = true → s.mode = .ready → s.curByte = 0 → code (fun t => t.mode = .selfTest ∧
      t.host = { s.host with stOpts := some (b, log) } ∧ bit (t.reg Reg.errorStStat) 0 = true ∧ t.edge.st ≠ .running ∧
      t.mem = s.mem) (.selftestFull b log)) ∧
    (s.serving 0x50 = true → s.running = true → s.curByte = 1 → code (fun t => answered s t 0 none none ∧
      bit (t.reg Reg.errorStStat) 1 = true ∧ t.mode = s.mode) .selftestSlack) ∧
    (s.serving 0x51 = true → s.mode = .ready → s.idleNow true = false → exec .quiesce s = .next s) ∧
    (x.slot.replyOk = true → s.host.held = none →
      s.serving 0x51 = true → s.mode = .ready → s.idleNow true = true → code (fun t => answered s t 0 none none ∧
        t.mode = .quiescent ∧ t.pwr.bcast = false ∧ t.wh.pllLock = false ∧ t.cist.selfRefresh = true ∧
        t.mseq.dispEn = false ∧ t.tick.en = false ∧ t.jesd.rxEn = 0 ∧ t.jesd.txEn = 0 ∧ t.cmd.wfi = true ∧
        t.mem = s.mem) .quiesce) ∧
    (s.host.stOpts = some (b, log) → s.mode = .selfTest → s.cmdDead = false → code (fun t =>
      answered s t 0 (some (r.failed.setWidth 64)) none ∧ t.mode = .ready ∧ t.host.stOpts = none ∧
      bit (t.reg Reg.errorStStat) 0 = false ∧ (∀ a, 0x11C00000 ≤ a → a < 0x12000000 → t.byte a = 0) ∧
      (∀ a, a < 0x11C00000 ∨ 0x12000000 ≤ a → t.byte a = s.byte a) ∧
      t.arr.pathBad = s.arr.pathBad ||| (r.pathBad &&& s.arr.live)) (.selftestComplete r))) ∧
  (∀ (s : State) (fimg : FwImage) (wimg : WlImage) (b : Bool) (bay : Fin 8) (frames : List (BitVec 2048)) (n : Nat)
    (role : Fin 4) (dst : BitVec 48) (content : List Byte) (v : BitVec 256) (params : List Byte) (r0 r1 : Dbl),
    s.serves = true →
    let only (p : Instr × Nat × List Mode) : Prop := s.serving p.2.1 = true → ¬ s.mode ∈ p.2.2 →
      ∃ t, exec p.1 s = .next t ∧ answered s t 3 none none ∧ t = { s with host := t.host, free := t.free }
    (∀ p ∈ ([(.prime fimg, 0x04, [.bare, .priming]), (.fwCommit, 0x10, [.ready]), (.wlLoad wimg, 0x20, [.ready]),
        (.fabricStart b, 0x21, [.ready]), (.fabricStop, 0x22, [.ready]), (.bayReload bay frames b, 0x23, [.ready, .solo, .active]),
        (.linkUp n, 0x24, [.ready]), (.run role, 0x30, [.ready]), (.stopRun, 0x31, [.solo, .active, .shadow]),
        (.dataWrite dst content b, 0x40, [.ready, .solo, .active]), (.seed v, 0x42, [.solo, .active]),
        (.quiesce, 0x51, [.ready]), (.user params r0 r1, 0x1234, [.ready, .solo, .active])] :
        List (Instr × Nat × List Mode)), only p) ∧
    (s.curByte = 1 → only (.selftestSlack, 0x50, [.solo, .active, .shadow])) ∧
    (s.curByte = 0 → only (.selftestFull b b, 0x50, [.ready, .selfTest, .solo, .active, .shadow])) ∧
    (∀ c : CurCmd, s.host.cur = some c → c.slot.opcode.toNat ≠ 0x04 → exec (.prime fimg) s = .next s) ∧
    (s.serving 0x50 = true →
      let gives (code : Nat) : Prop :=
        ∃ t, exec (.selftestFull b b) s = .next t ∧ answered s t code none none ∧ t = { s with host := t.host, free := t.free }
      (s.running = true → s.curByte = 0 → gives 4) ∧
      (2 ≤ s.curByte → s.mode ≠ .faultHold → s.mode ≠ .selfTest → gives 2)))

/-! ### Resets, power, life cycle (12 R325, R341 to R345; 14 R378, R389 to R393; 16 R418) -/

/-- Every cause of a reset brings the device to Reset with its cause number and the mode it left; cores, microsequencer,
array, tick generator, edge fabric and pair are as after reset, memory below the secure cistern is lost, and the
wellhead's flash, temperatures and seconds stay. A glitch is recorded and wipes the secure cistern; a life-cycle step is
appended; a wipe that failed is made again. -/
def Obligations.Resets : Prop :=
  ∀ (s : State) (rail : Fin 10) (v : Word),
    let isReset (cause : Nat) (i : Instr) (more : State → Prop) : Prop :=
      ∃ t, exec i s = .next t ∧ t.mode = .reset ∧ t.wh.cause = cause ∧ t.wh.left = (if s.mode = .reset then 0 else s.mode.code) ∧
        t.pending = s.pending ∧ t.seq = Core.reset ∧ t.cmd = { Core.reset with run := true } ∧ t.mseq = Mseq.reset ∧
        t.arr = Arr.reset ∧ t.cist.verifyFail = false ∧ (s.cist.verifyFail = true → t.cist.wiping = true) ∧
        t.tick = Tick.reset ∧ t.edge = Edge.reset ∧ t.jesd = Jesd.reset ∧ t.valve.open_ = false ∧ t.twin.state = 0 ∧
        t.wh.temps = s.wh.temps ∧ t.wh.secs = s.wh.secs ∧
        (∀ a, a ≠ Reg.cisternSecStat → a ≠ Reg.wellheadStat → a ≠ Reg.errorPrevFatal → t.reg a = regDefault a) ∧ more t
    let kept (t : State) : Prop := t.wh.flash = s.wh.flash ∧ ∀ a, t.byte a = if a < 0x1F000000 then 0 else s.byte a
    s.mode ≠ .off →
    isReset 1 .perstN (fun t => kept t ∧ t.wh.perstLow = true ∧ t.wh.seqRun = false ∧ t.host.lgen = 0) ∧
    (s.mode = .reset ∨ (s.admitted hostB true Reg.hostifBReset = true ∧ s.mode ≠ .quiescent) →
      isReset 2 (.hostifBReset 0xD1E5) kept ∧ (v ≠ 0xD1E5 → exec (.hostifBReset v) s = .next s)) ∧
    isReset 3 .functionLevelReset (fun t => kept t ∧ t.wh.seqRun = !s.wh.perstLow) ∧
    (s.alive = true → s.host.primeTimer = true → isReset 4 .primingTimeout kept) ∧
    (∀ lc ok, s.host.lcPend = some lc → isReset 5 (.lifeCycleReset ok) (fun t => t.host.lcPend = none ∧
      t.cist.wiping = (s.cist.verifyFail || !ok) ∧
      t.wh.flash = { s.wh.flash with lc := lc, lcLog := s.wh.flash.lcLog + 1 } ∧
      (∀ a, t.byte a = if a < (if ok then 0x1F020000 else 0x1F000000) then 0 else s.byte a) ∧
      bit (t.reg Reg.cisternSecStat) 5 = true)) ∧
    (s.alive = true → s.wh.wdEn = true → s.wh.frozen = false → s.mode ≠ .quiescent →
      isReset 6 .wellheadWatchdogExpiry kept) ∧
    isReset 7 (.voltageGlitch rail) (fun t => kept t ∧ t.cist.wiping = true ∧ bit (t.reg Reg.wellheadStat) (8 + rail.val) = true ∧
      bit (t.reg Reg.cisternSecStat) 4 = true) ∧
    isReset 7 .clockGlitch (fun t => kept t ∧ t.cist.wiping = true ∧ bit (t.reg Reg.wellheadStat) 4 = true) ∧
    (s.tapOpen = true → isReset 8 (.resetreq true) kept)

/-- Power and start-up: VDD_AON's removal loses everything but the flash; its return, and the release of PERST_N, start the
start-up sequence; its end is Bare with the cisterns on and cleared and the boot ROM running, but not while a sensor
reads 100 degrees or more. Tamper wipes and, in Deployed, is fatal. A life-cycle request is taken only with its key,
from the present state, along a listed transition. -/
def Obligations.StartUpAndLifeCycle : Prop :=
  ∀ (s : State) (x : StartUp) (v : Word),
    (∃ t, exec .vddAonRemoved s = .next t ∧ t.mode = .off ∧ t.mem = [] ∧ t.regs = [] ∧ t.wh.flash = s.wh.flash ∧
      t.seq = Core.reset ∧ t.cmd = { Core.reset with run := true } ∧ t.pending = s.pending) ∧
    (s.mode = .off → ∃ t, exec .powerOn s = .next t ∧ t.mode = .reset ∧ t.wh.cause = 0 ∧ t.wh.seqRun = !s.wh.perstLow ∧
      t.mem = s.mem ∧ t.wh.flash = s.wh.flash) ∧
    (s.mode = .off → exec .perstN s = .next { s with wh := { s.wh with perstLow := true } }) ∧
    (s.wh.perstLow = true → exec .perstNRelease s = .next { s with wh := { s.wh with
      perstLow := false, seqRun := s.mode == .reset } }) ∧
    (s.mode = .reset → s.wh.seqRun = true → s.wh.perstLow = false →
      (hotAt 100 s.wh.temps = true → exec (.startUpSequence x) s = .next s) ∧
      (hotAt 100 s.wh.temps = false → ∃ t, exec (.startUpSequence x) s = .next t ∧ t.mode = .bare ∧ t.cmd.run = true ∧
        t.host.rom = true ∧ (∀ n : Fin 64, t.bankOn n.val = true) ∧ t.wh.flash = s.wh.flash ∧
        (∀ a, 0x10000000 ≤ a → a < 0x12000000 → t.byte a = 0) ∧ t.twin.sel = x.sel ∧ t.arr.pathBad = x.pathBad ∧
        (s.cist.wiping = true → t.cist.wiping = false ∧ t.cist.verifyFail = (s.cist.verifyFail || !x.wipeOk) ∧
          (x.wipeOk = true → ∀ a, 0x1F000000 ≤ a → a < 0x1F020000 → t.byte a = 0)) ∧
        t.cist.rdy.getLsbD 0 = (x.rdy0 && x.hbm0) ∧ t.cist.rdy.getLsbD 1 = (x.rdy1 && x.hbm1))) ∧
    (s.mode ≠ .off → s.wh.tamper = false → ∃ t, exec (.tamperN true) s = .next t ∧ t.wh.tamper = true ∧
      t.cist.wiping = true ∧ bit (t.reg Reg.wellheadStat) 1 = true ∧ bit (t.reg Reg.cisternSecStat) 3 = true ∧ t.mode = s.mode ∧
      t.mem = s.mem ∧ (s.deployed = true → s.alive = true → t.fatalSeen = true) ∧
      (s.alive = true → t.cmd = { s.cmd with irqPend := s.cmd.irqPend ||| 16#32 })) ∧
    (s.mode ≠ .off → s.wh.tamper = true → exec (.tamperN false) s = .next { s with wh := { s.wh with tamper := false } }) ∧
    (s.admitted hostB true Reg.hostifBLcReq = true → s.mode ≠ .quiescent → v ≠ 0x10 →
      let lc := s.wh.flash.lc.toNat
      let dst := v.toNat % 4
      let ok := v.toNat / 2 ^ 16 = 0x1C5A ∧ v.toNat / 4 % 4 = lc ∧ s.host.lcPend = none ∧
        ((lc = 0 ∧ dst = 1 ∧ s.wh.flash.keys &&& 0xE ≠ 0) ∨ (lc = 1 ∧ dst = 2) ∨ (lc ≠ 3 ∧ dst = 3))
      (ok → ∃ t, exec (.hostifBLcReq v) s = .next t ∧ t.host = { s.host with lcPend := some (BitVec.ofNat 2 dst) } ∧
        t.mode = s.mode ∧ t.wh = s.wh) ∧
      (¬ ok → exec (.hostifBLcReq v) s = .next (s.setBit Reg.hostifBLcReq 4)))

/-- The state right after reset: mode Reset with the start-up sequence running, nothing queued, the sequencer core held, no
routine, dispatch disabled, the fabric unloaded, the valve closed without limits and unlocked, no pair, life cycle
Manufacture; every register holds its Reset column. (Memory not written reads 0: log 3; the flash's content: log 4.) -/
def Obligations.ResetState : Prop :=
  State.reset.mode = .reset ∧ State.reset.wh.seqRun = true ∧ State.reset.pending = [] ∧ State.reset.seq.run = false ∧
  State.reset.cmd.run = true ∧ State.reset.mseq.dispEn = false ∧ State.reset.mseq.run = none ∧
  State.reset.edge.st = .unloaded ∧ State.reset.valve.open_ = false ∧ State.reset.valve.lock = false ∧
  State.reset.valve.lim.set = false ∧ State.reset.twin.state = 0 ∧ State.reset.wh.flash.lc = 0 ∧ State.reset.tick.en = false ∧
  State.reset.memWf = true ∧ State.reset.regsWf = true ∧ (∀ a, State.reset.reg a = regDefault a)

/-- Every step keeps memory in its one form: addresses rise strictly and no entry equals what an unlisted address reads
as. -/
def Obligations.StepsKeepMemoryForm : Prop :=
  ∀ s t : State, s.memWf = true → step s = .next t → t.memWf = true

/-! ### Pairs (13) -/

/-- Forming a pair: a HELLO that passes every check gives the peer and, on the active side, prepares ARM; one that does not,
or none in time, has RUN refused; an active member that is out accepts a joiner; ARM and JOIN place the shadow's tick
position; the link comes up and goes down; a shadow in the checkpoint state with a copied checkpoint of this very frame
boundary enters lockstep. A message that had to be sent again counts first and does the same (the count at the receiving
member is the model's choice, log 75). -/
def Obligations.PairFormation : Prop :=
  ∀ (s : State) (h : Hello) (n phase frame inframe : Nat) (b : Bool) (retx : Nat),
    let put (x : Twin) : State := { s with twin := x }
    let role := s.twin.role.toNat
    let waits := s.mode = .ready ∧ s.twin.state = 1 ∧ s.twin.peer = none ∧ s.host.runReq.isSome = true
    let join := role == 2 && h.role == 1 && h.out
    let refused (i : Instr) : Prop := s.host.cur.isSome = true → ∃ t, exec i s = .next t ∧ answered s t 15 none none ∧
      t.mode = .ready ∧ t.twin.state = 0 ∧ t.host.runReq = none ∧ t.mem = s.mem
    let sentMore (m : Sent) : List Sent := if s.twin.link then s.twin.sent ++ [m] else s.twin.sent
    (∀ (x : Mirrored) (code : BitVec 4) (o : Option Nat) (v : Dbl) (ls : List (List Byte)) (cs : List Dbl),
      s.alive = true → s.twin.link = true → 0 < retx → ∃ u : State, u = { s with regs := u.regs } ∧
        (u.reg Reg.twinLinkErr).toNat = min ((s.reg Reg.twinLinkErr).toNat + retx) (2 ^ 32 - 1) ∧
        bit (u.reg Reg.errorCorrSum) 4 = true ∧
        ∀ m ∈ ([.hello h, .arm, .joinMsg n phase frame inframe, .faultMsg n, .stepdown o n, .fwd n x code, .ack n, .digest n v,
          .ckpt n ls cs b] : List (Nat → Instr)), exec (m retx) s = exec (m 0) u) ∧
    (s.twin.link = true → waits →
      (s.pairChecks role h join = true → ∃ t, exec (.hello h 0) s = .next t ∧ t.twin.peer = some h ∧ t.twin.join = join ∧
        t.twin.armStep = (if role = 1 then 1 else 0) ∧ t.twin.state = 1 ∧ t.tick.en = false ∧ t.mode = .ready ∧
        t.host = s.host ∧ t.mem = s.mem) ∧
      (s.pairChecks role h join = false → refused (.hello h 0))) ∧
    (waits → refused .helloTimeout) ∧
    (s.twin.link = true → s.mode = .active → s.twin.state = 4 → s.twin.join = false → h.role = 2 →
      (s.pairChecks 1 h true = true → ∃ t, exec (.hello h 0) s = .next t ∧ t.twin.join = true ∧ t.twin.armStep = 1 ∧
        t.twin.sent = s.twin.sent ++ [.hello s.helloOut] ∧ t.mode = .active ∧ t.host = s.host) ∧
      (s.pairChecks 1 h true = false → ∃ t e, exec (.hello h 0) s = .next t ∧ t.twin.join = false ∧ t.mode = .active ∧
        t.twin.sent = s.twin.sent ++ [.hello s.helloOut] ∧ t.host.evQ = s.host.evQ ++ [(3, s.tick.cur, e)])) ∧
    (s.twin.link = true → s.mode = .ready → s.twin.state = 1 → role = 2 → s.twin.peer.isSome = true → s.twin.armStep = 0 → s.twin.joinCap = none →
      s.tick.en = false → exec (.arm 0) s = .next (put { s.twin with armStep := 2 })) ∧
    (∀ c, s.twin.link = true → s.twin.joinCap = some c → s.tick.armed = true → s.tick.join = none → s.devRuns = true →
      let m := (s.dcyc - c + phase) / s.tick.period + 1
      exec (.joinMsg n phase frame inframe 0) s = .next { s with tick := { s.tick with
        nextB := c + m * s.tick.period - phase
        join := some (n + m, frame + (inframe + m) / s.tick.frameLen, (inframe + m) % s.tick.frameLen) } }) ∧
    (s.alive = true → bit (s.reg Reg.twinCtl) 0 = true → s.twin.link = false → exec .twinLinkUp s =
      .next { s with twin := { s.twin with link := true }, cmd := { s.cmd with irqPend := s.cmd.irqPend ||| 8#32 } }) ∧
    (s.twin.link = true → ∃ t, exec .twinLinkDown s = .next t ∧ t.twin.link = false ∧ t.mode = s.mode ∧
      t.cmd = { s.cmd with irqPend := s.cmd.irqPend ||| 8#32 } ∧
      (s.mode = .active → s.twin.state = 2 ∨ s.twin.state = 3 → t.twin.state = 4 ∧ t.fld Reg.twinLoss 3 0 = 4) ∧
      (s.lockstep = true → t.twin.state = (if bit (s.reg Reg.twinCtl) 1 then 2 else 4) ∧ t.fld Reg.twinLoss 3 0 = 4) ∧
      (s.mode ≠ .active → s.lockstep = false → t.twin = { s.twin with link := false } ∧ t.regs = s.regs)) ∧
    (s.levelsEqual = true → s.tick.run = true → s.tick.inframe = 0 → s.twin.ckptDone = some s.tick.frame.toNat →
      s.twin.lossAt = none → s.twin.state = 2 →
      (s.mode = .active → exec .enterLockstep s = .next (put { s.twin with state := 3 })) ∧
      (s.mode = .shadow → s.twin.copyAt < s.tick.lastB → s.twin.inputs = [] → ∃ t, exec .enterLockstep s = .next t ∧ t.twin.state = 3 ∧ t.mode = .shadow ∧
        (s.stopped = false → s.tick.inTick = false → t.tick.cur = s.tick.count ∧ t.tick.inTick = true))) ∧
    (s.ckptState = true → exec .resyncFail s = .next (s.setBit Reg.twinStat 11)) ∧
    (∀ q : Requester, s.admitted q true Reg.twinCkptCtl = true →
      (s.mode = .active → s.twin.state = 2 → s.twin.ckptSend = none → exec (.twinCkptGo q) s = .next (put { s.twin with
        ckptSend := some (s.tick.frame.toNat + 1, false), sent := sentMore (.ckpt (s.tick.frame.toNat + 1)
          (s.ckptTable.map (fun r => s.bytes r.1 r.2)) (s.ckptTable.map (fun r => crc64 (s.bytes r.1 r.2)))) })) ∧
      (s.mode ≠ .active ∨ s.twin.state ≠ 2 ∨ s.twin.ckptSend ≠ none → exec (.twinCkptGo q) s = .next s)) ∧
    (∀ f, s.twin.ckptSend = some (f, b) →
      (s.tick.frame.toNat < f → exec (.checkpointComplete b) s = .next s) ∧
      (f ≤ s.tick.frame.toNat → exec (.checkpointComplete true) s =
        .next (put { s.twin with ckptSend := none, ckptDone := some f })) ∧
      (f ≤ s.tick.frame.toNat → ∃ t, exec (.checkpointComplete false) s = .next t ∧
        t.twin = { s.twin with ckptSend := none } ∧ t.mem = s.mem ∧
        (t.reg Reg.twinCkptLate).toNat = min ((s.reg Reg.twinCkptLate).toNat + 1) (2 ^ 32 - 1))) ∧
    (∀ (f a : Nat) (l : List Byte) (crc : Dbl), inMem a (max l.length 1) = true →
      (s.ckptState = true → s.twin.link = true → a = s.twinAddr Reg.twinCkptRxLo + (if s.twin.ckptBuf then s.ckptLen else 0) →
        ∃ t, exec (.ckpt f [l] [crc] b 0) s = .next t ∧ t.bytes a l.length = l ∧ t.regs = s.regs ∧
          (∀ x, x < a ∨ a + l.length ≤ x → t.byte x = s.byte x) ∧
          t.twin = (if b = true ∧ s.ckptTable.map (·.2) = [l.length] ∧ crc = crc64 l then { s.twin with ckptRx := some (f, [l]), ckptBuf := !s.twin.ckptBuf } else s.twin)) ∧
      (s.mode = .shadow → s.twin.ckptRx = some (f, [l]) → s.ckptTable = [(a, l.length)] → ∃ t,
        exec .checkpointCopyEnd s = .next t ∧ t.bytes a l.length = l ∧
          t.twin = { s.twin with ckptRx := none, ckptDone := some f, copyAt := s.dcyc } ∧
          t.reg Reg.twinCkptFrameLo = BitVec.ofNat 32 f ∧ t.reg Reg.twinCkptFrameHi = BitVec.ofNat 32 (f / 2 ^ 32) ∧
          (∀ x, x < a ∨ a + l.length ≤ x → t.byte x = s.byte x)))

/-- Loss and takeover: the loss of the peer is recorded with its cause; the active member goes out and serves on, the
shadow waits for OWN_IN and takes TX_OWN, and in lockstep enters Active 66 cycles later and at no other cycle; in the checkpoint
state it resumes at a frame boundary 64 cycles after its copy; OWN_IN
still 1 in time means out; a planned handover drops TX_OWN 128 cycles before its frame boundary, where the roles change, a
shadow with OWN_IN still 1 waiting (the model's choice, log 93); both owning is fatal on member B alone. -/
def Obligations.PairLoss : Prop :=
  ∀ (s : State) (d : Nat) (level : Bool),
    let put (x : Twin) : State := { s with twin := x }
    let putD (x : Twin) : State := { s.atD d with twin := x }
    let inPair := s.twin.state = 2 ∨ s.twin.state = 3
    let shadowLoss (cause : Nat) (t : State) : Prop := t.twin.lossAt = some d ∧ t.twin.handF = none ∧ t.mode = .shadow ∧
      t.twin.ownForce = (s.twin.state == 3 && !s.twin.peerOwn) ∧ t.fld Reg.twinLoss 3 0 = cause ∧ t.twin.state = s.twin.state ∧
      t.mem = s.mem
    (s.twin.link = true → inPair → ∀ p ∈ [(Instr.faultMsg d 0, 2), (.heartbeatSilence d, 1)],
      (s.mode = .active → ∃ t, exec p.1 s = .next t ∧ t.mode = .active ∧ t.twin.state = 4 ∧ t.fld Reg.twinLoss 3 0 = p.2 ∧
        t.mem = s.mem) ∧
      (s.mode = .shadow → s.twin.lossAt = none → ∃ t, exec p.1 s = .next t ∧ shadowLoss p.2 t)) ∧
    (s.twin.link = true → s.mode = .shadow →
      (inPair → s.twin.lossAt = none → ∃ t, exec (.stepdown none d 0) s = .next t ∧ shadowLoss 3 t) ∧
      (∀ f, exec (.stepdown (some f) d 0) s = .next (put { s.twin with handF := some f }))) ∧
    (s.alive = true → level = true ∨ s.mode ≠ .shadow → exec (.ownInChange level d) s =
      .next (putD { s.twin with peerOwn := level })) ∧
    (s.mode = .shadow → s.twin.handF = none → s.twin.lossAt.isSome = true → s.twin.ownForce = false →
      exec (.ownInChange false d) s = .next (putD { s.twin with
        peerOwn := false, lossAt := some d, ownForce := s.lockstep })) ∧
    (s.mode = .shadow → s.twin.handF.isSome = true → exec (.ownInChange false d) s = .next (putD { s.twin with
      peerOwn := false, ownForce := s.lockstep })) ∧
    (s.mode = .shadow → s.twin.lossAt.isSome = true → s.twin.peerOwn = true → ∃ t, exec .ownInTimeout s = .next t ∧
      t.twin.state = 4 ∧ t.twin.lossAt = none ∧ t.twin.ownForce = false ∧ t.fld Reg.twinLoss 3 0 = 1 ∧ t.mode = .shadow) ∧
    (∀ c, s.twin.lossAt = some c → s.lockstep = true → s.twin.ownForce = true → s.twin.peerOwn = false → s.wh.devLost = false →
      s.fatalSeen = false →
      (∃ t, exec (.takeover (c + 66)) s = .next t ∧ t.mode = .active ∧ t.mem = s.mem ∧ t.regs = s.regs ∧
        t.twin = { s.twin with role := 1, ownForce := false }) ∧
      (d ≠ c + 66 → exec (.takeover d) s = .next s)) ∧
    (s.twin.peerOwn = true → exec (.takeover d) s = .next s) ∧
    (∀ c, s.twin.lossAt = some c → s.ckptState = true → s.twin.ckptRx = none → s.tick.run = true → s.tick.inframe = 0 →
      s.twin.peerOwn = false → s.wh.devLost = false → s.fatalSeen = false → s.twin.inputs = [] →
      s.twin.copyAt + 64 ≤ s.tick.lastB → s.tick.inTick = false →
      ∃ t e, exec (.takeover s.tick.lastB) s = .next t ∧ t.mode = .active ∧ bit (t.reg Reg.twinStat) 10 = true ∧
        t.twin.role = 1 ∧ t.twin.lossAt = some s.tick.lastB ∧ t.tick.cur = s.tick.count ∧ t.tick.inTick = true ∧
        t.host.evQ = s.host.evQ ++ [(3, s.tick.cur, e)] ∧ t.mem = s.mem) ∧
    (∀ f, s.twin.handF = some f → let t := s.frameEnd
      (s.mode = .active → f = s.tick.frame.toNat → s.host.cur.isSome = true →
        answered s t 0 none none ∧ t.mode = .ready ∧ t.twin.state = 0 ∧ t.host.stopReq = false ∧ t.mem = s.mem) ∧
      (s.lockstep = true → s.host.stopReq = false → f ≤ s.tick.frame.toNat →
        (s.twin.peerOwn = false → t.mode = .active ∧ t.twin.state = 4 ∧ t.twin.role = 1 ∧ t.twin.handF = none ∧
          t.mem = s.mem) ∧
        (s.twin.peerOwn = true → t = s))) ∧
    (s.alive = true → s.txOwn = true → s.twin.peerOwn = true →
      (s.twin.sel = true → ∃ t, exec .ownershipConflict s = .next t ∧ t.fatalSeen = true ∧ t.txOwn = false ∧
        t.fld Reg.twinLoss 3 0 = 8) ∧
      (s.twin.sel = false → exec .ownershipConflict s = .next s)) ∧
    (∀ f, s.twin.handF = some f → s.mode = .active → s.tick.run = true → s.tick.frame.toNat < f →
      (d + 128 = s.tick.frameAt f → ∃ t, exec (.handover d) s = .next t ∧ t.txOwn = false ∧
        t = putD { s.twin with ownDrop := true }) ∧
      (d + 128 ≠ s.tick.frameAt f → exec (.handover d) s = .next s))

/-- Mirroring and digests: an input that arrives is acknowledged and waits for its tick, an acknowledgement marks its input;
an unacknowledged one at its deadline, a late digest and a different digest end lockstep, each with its cause; equal
digests leave everything else as it is; with DIV_HOLD a divergence is fatal to the shadow. -/
def Obligations.PairMirroring : Prop :=
  ∀ (s : State) (n : Nat) (x : Mirrored) (v w : Dbl) (pre post : List MirIn) (m : MirIn),
    let put (x : Twin) : State := { s with twin := x }
    let restart := bit (s.reg Reg.twinCtl) 1
    let hold := bit (s.reg Reg.twinCtl) 2
    let left (cause : Nat) (t : State) : Prop :=
      t.twin.state = (if restart then 2 else 4) ∧ t.fld Reg.twinLoss 3 0 = cause ∧ t.mode = s.mode
    (s.lockstep = true → s.twin.link = true →
      exec (.fwd n x 0 0) s = .next (put { s.twin with
        inputs := s.twin.inputs ++ [⟨n, x, true, none⟩], sent := s.twin.sent ++ [.ack n] }) ∧
      (∀ k : BitVec 4, k ≠ 0 → ∃ t, exec (.fwd n x k 0) s = .next t ∧ left 7 t ∧ bit (t.reg Reg.ringErrlog) 22 = true ∧ t.twin.sent = s.twin.sent ++ [.ack n] ∧ t.mem = s.mem)) ∧
    (s.mode = .active → s.twin.link = true → s.twin.inputs = pre ++ m :: post → m.t = n → m.acked = false →
      (∀ y ∈ pre, y.t ≠ n ∨ y.acked = true) →
      exec (.ack n 0) s = .next (put { s.twin with inputs := pre ++ { m with acked := true } :: post })) ∧
    (s.lockstep = true → ∃ t, exec .mirrorDeadline s = .next t ∧ left 7 t ∧ t.mem = s.mem) ∧
    (s.mode = .active → s.twin.state = 3 →
      (m ∈ s.twin.inputs → m.acked = false → m.t ≤ s.tick.count.toNat + 1 → ∃ t, exec .mirrorDeadline s = .next t ∧ left 7 t) ∧
      ((∀ y ∈ s.twin.inputs, y.acked = true) → exec .mirrorDeadline s = .next s)) ∧
    (s.digesting = true → s.digestOverdue = true → ∃ t, exec .digestLate s = .next t ∧ t.mode = s.mode ∧
      t.fld Reg.twinLoss 3 0 = 6 ∧ t.twin.state = (if s.mode = .active then 4 else if restart then 2 else 4)) ∧
    (s.digesting = true → s.twin.link = true → s.twin.ownDig = [(n, v)] → s.twin.peerDig = [] →
      exec (.digest n v 0) s = .next (put { s.twin with ownDig := [], peerDig := [] }) ∧
      (w ≠ v → ∃ t, exec (.digest n w 0) s = .next t ∧ t.mode = s.mode ∧ t.fld Reg.twinLoss 3 0 = 5 ∧
        t.reg Reg.twinDivtickLo = BitVec.ofNat 32 n ∧ t.twin.state = (if restart && !hold then 2 else 4) ∧
        (s.mode = .shadow → hold = true → t.fatalSeen = true))) ∧
    (s.digesting = true → s.twin.link = true → s.twin.ownDig = [] →
      exec (.digest n v 0) s = .next (put { s.twin with peerDig := s.twin.peerDig ++ [(n, v)] }))

/-! ### Power domains, watchdogs, errors (09 R274 to R276; 14 R381 to R386, R398, R402; 15 R406, R412 to R414) -/

/-- Fields change through requests: a dead field and off to retention are refused, in Active and Shadow every change is,
and a change ends once its field is not live. BCAST stays on while a field is; EDGE stays on in a run and drains first
otherwise. Waking from Quiescent restores the clocks, the memories and dispatch, in Ready. -/
def Obligations.PowerDomains : Prop :=
  ∀ (s : State) (q : Requester) (f : Fin 16) (v : Word) (dst : FldSt),
    let codeOf (g : Fin 16) : Nat := v.toNat / 4 ^ g.val % 4
    let num (x : FldSt) : Nat := match x with | .off => 0 | .retain => 1 | .on => 2
    (s.admitted q true Reg.powerFldReq = true → s.pwr.chg = [] → codeOf f = num dst → dst ≠ s.pwr.fld[f] →
      (∀ g : Fin 16, g ≠ f → codeOf g = num s.pwr.fld[g]) →
      (s.mode = .active ∨ s.mode = .shadow → exec (.powerFldReq q v) s = .next (s.setBit Reg.powerStat 18)) ∧
      (s.mode ≠ .active → s.mode ≠ .shadow → ∃ t, exec (.powerFldReq q v) s = .next t ∧ t.pwr.fld = s.pwr.fld ∧
        t.arr.live = s.arr.live ∧ t.mode = s.mode ∧ t.mem = s.mem ∧
        (s.pwr.fld[f] ≠ .off ∨ (s.fieldDead f.val = false ∧ dst = .on) → t.pwr.chg = [(f.val, dst)] ∧ t.regs = s.regs) ∧
        (s.pwr.fld[f] = .off → s.fieldDead f.val = true → t.pwr.chg = [] ∧ bit (t.reg Reg.powerStat) 17 = true ∧
          t.arr.dead.getLsbD f.val = true) ∧
        (s.pwr.fld[f] = .off → s.fieldDead f.val = false → dst = .retain → t.pwr.chg = [] ∧
          bit (t.reg Reg.powerStat) 16 = true))) ∧
    (s.alive = true → s.pwr.chg = [(f.val, dst)] →
      (s.arr.live.getLsbD f.val = true → exec (.fieldSwitchEnd f) s = .next s) ∧
      (s.arr.live.getLsbD f.val = false → bits s.pwr.req.toNat (2 * f.val + 1) (2 * f.val) = num dst →
        ∃ t, exec (.fieldSwitchEnd f) s = .next t ∧ t.pwr.chg = [] ∧ t.pwr.fld[f] = dst ∧
          (∀ g : Fin 16, g ≠ f → t.pwr.fld[g] = s.pwr.fld[g]) ∧ t.arr.live = s.arr.live ∧ t.mem = s.mem ∧ t.regs = s.regs ∧
          (dst = .on → s.pwr.fld[f] = .off → t.arr.clearing.getLsbD f.val = true) ∧
          (dst = .on → s.pwr.fld[f] ≠ .off → t.arr.cleared.getLsbD f.val = true ∧ t.arr.wells = s.arr.wells) ∧
          (dst = .retain → t.arr.wells = s.arr.wells ∧ t.arr.cy &&& fieldMask f.val = 0 ∧ t.arr.tg &&& fieldMask f.val = 0 ∧
            t.arr.lk &&& fieldMask f.val = 0 ∧ t.arr.io &&& fieldMask f.val = 0))) ∧
    (s.admitted q true Reg.powerDom = true →
      let keepOn := s.pwr.fld.any (· == .on) || s.pwr.chg.any (·.2 == .on)
      exec (.bcastReq q true) s = .next { s with pwr := { s.pwr with bcastReq := true, bcast := true } } ∧
      (keepOn = false → exec (.bcastReq q false) s = .next { s with pwr := { s.pwr with bcastReq := false, bcast := false } }) ∧
      (keepOn = true → s.pwr.bcast = true → exec (.bcastReq q false) s = .next (s.setBit Reg.powerStat 18)) ∧
      ∀ ready : Bool,
      (s.pwr.edgeOn = true → s.running = true → exec (.edgeReq q false ready) s = .next (s.setBit Reg.powerStat 18)) ∧
      (s.pwr.edgeOn = true → s.running = false → exec (.edgeReq q false ready) s = .next { s with
        pwr := { s.pwr with edgeReq := false }, ring := { s.ring with drain := s.ring.drain ||| (1#32 <<< 31) } }) ∧
      (s.pwr.edgeOn = true → ∃ t, exec (.edgeReq q true ready) s = .next t ∧ t = { s with pwr := t.pwr, ring := t.ring } ∧
        t.pwr = { s.pwr with edgeReq := true } ∧ t.ring.dry.getLsbD 31 = (s.ring.dry.getLsbD 31 && !ready)) ∧
      (s.pwr.edgeOn = false → ∃ t, exec (.edgeReq q true ready) s = .next t ∧
        t.pwr = { s.pwr with edgeReq := true, edgeOn := true } ∧
        t.edge.st = .unloaded ∧ t.ring.dry.getLsbD 31 = !ready ∧ t.ring.iso.getLsbD 31 = false ∧ t.mem = s.mem)) ∧
    (s.mode = .quiescent → ∃ t, exec .wake s = .next t ∧ t.mode = .ready ∧ t.wh.pllLock = true ∧ t.cist.selfRefresh = false ∧
      t.cmd.wfi = false ∧ t.mseq.dispEn = s.host.dispWas ∧ t.pwr.bcast = s.pwr.bcastReq ∧ t.mem = s.mem ∧ t.regs = s.regs ∧
      t.tick = s.tick ∧ t.jesd = s.jesd ∧ t.edge = s.edge ∧ t.seq.wdLeft = s.fld Reg.seqcoreWdogPeriod 15 0)

/-- Watchdogs count once enabled, are fixed on, reload on their key, warn once and then are fatal; software interrupt lines
are 28 to 31; the sequencer core is released once. The wellhead's watchdog, the thermal alert and trip, entry to
Fault-hold with its record, its vector and BAD_MODE for what was in execution, the priming timer running on, and slack
routines, which leave every well below the scratch planes, are repeated three times after a mismatch and are 2,048 a pass. -/
def Obligations.WatchdogsAndErrors : Prop :=
  ∀ (s : State) (q : Requester) (c : CoreId) (v : Word) (temps : List Byte) (x : SlackRun),
    let k := s.core c
    let put (x : Core) : State := s.setCore c x
    let base := coreBase c
    let period := s.fld (Reg.seqcoreWdogPeriod + base) 15 0
    let ctl := Reg.seqcoreWdogCtl + base
    (s.admitted q true ctl = true →
      (bit v 0 = true → bit (s.reg ctl) 0 = false → ∃ t, exec (.wdogCtl q c v) s = .next t ∧ bit (t.reg ctl) 0 = true ∧
        t.core c = { k with wdLeft := period } ∧ t.mem = s.mem) ∧
      (bit v 0 = false ∨ bit (s.reg ctl) 0 = true → exec (.wdogCtl q c v) s = .next s)) ∧
    (s.admitted q true (Reg.seqcoreWdogKick + base) = true →
      (v.toNat % 2 ^ 16 = 0x6B1C → exec (.wdogKick q c v) s = .next (put { k with wdLeft := period, wdFired := false })) ∧
      (v.toNat % 2 ^ 16 ≠ 0x6B1C → exec (.wdogKick q c v) s = .next s)) ∧
    (s.wdogRuns c = true →
      (k.wdFired = false → exec (.coreWatchdogExpiry c) s = .next (put { k with
        nmi16 := true, wdFired := true, wdLeft := period })) ∧
      (k.wdFired = true → ∃ t, exec (.coreWatchdogExpiry c) s = .next t ∧ t.fatalSeen = true ∧
        (s.fld (Reg.seqcoreFatal + base) 2 0 = 0 → t.fld (Reg.seqcoreFatal + base) 2 0 = 4) ∧ t.core c = k ∧ t.mem = s.mem)) ∧
    (s.admitted q true (Reg.seqcoreIrqSet + base) = true → exec (.irqSet q c v) s = .next (put { k with
      irqPend := k.irqPend ||| (v &&& 0xF0000000#32) })) ∧
    (s.admitted q true Reg.seqcoreRel = true →
      (s.seq.run = true → exec (.seqcoreRelGo q) s = .next s) ∧
      (s.seq.run = false → ∃ t, exec (.seqcoreRelGo q) s = .next t ∧ t.seq.run = true ∧ t.seq.ps 4 = true ∧
        t.seq.vbase.toNat = t.seq.pc.toNat ∧ t.seq.pc.toNat =
          (s.reg Reg.seqcoreBootLo).toNat / 512 * 512 + 2 ^ 32 * s.fld Reg.seqcoreBootHi 15 0 ∧ t = { s with seq := t.seq })) ∧
    (s.admitted q true Reg.wellheadWdog = true → ∃ t, exec (.wellheadWdog q v) s = .next t ∧
      t.wh.wdEn = (s.wh.wdEn || bit v 0) ∧ t = { s with wh := t.wh } ∧
      t.wh.wdPeriod = (if 1 ≤ v.toNat / 256 % 64 ∧ v.toNat / 256 % 64 ≤ 60 then v.toNat / 256 % 64 else s.wh.wdPeriod) ∧
      t.wh.wdLeft = (if bit v 0 = true ∧ s.wh.wdEn = false then t.wh.wdPeriod else s.wh.wdLeft)) ∧
    (s.admitted q true Reg.wellheadWdogKick = true → exec (.wellheadWdogKick q v) s = .next (if v.toNat % 2 ^ 16 = 0x5A3E then
      { s with wh := { s.wh with wdLeft := s.wh.wdPeriod } } else s)) ∧
    (s.alive = true → temps.length = 64 → ∃ t, exec (.thermalSample temps) s = .next t ∧ t.wh.temps = temps ∧ t.mode = s.mode ∧
      t.mem = s.mem ∧ ((∃ x ∈ temps, 164 ≤ x.toNat) → t.wh.alert = true) ∧ ((∀ x ∈ temps, x.toNat < 159) → t.wh.alert = false) ∧
      ((∃ x ∈ temps, 164 ≤ x.toNat) → s.wh.alert = false → t.cmd = { s.cmd with irqPend := s.cmd.irqPend ||| 16#32 }) ∧
      (∀ i : Fin 64, 174 ≤ (temps.getD i.val 0).toNat → s.wh.hot = hotSet s.wh.temps → 174 ≤ (s.wh.temps.getD i.val 0).toNat →
        s.wh.trip = false → t.wh.trip = true ∧ t.fatalSeen = true ∧ t.pwr.bcast = false ∧ t.pwr.edgeOn = false ∧
          t.pwr.chg = [] ∧ ∀ f : Fin 16, t.pwr.fld[f] = .off) ∧
      (s.wh.hot = 0 → t.wh.trip = s.wh.trip ∧ t.pwr = s.pwr)) ∧
    (s.alive = true → s.fatalSeen = true → s.mode ≠ .faultHold → ∃ t, exec .faultHoldEntry s = .next t ∧ t.mode = .faultHold ∧
      t.fld Reg.errorPrevFatal 7 0 = s.fld Reg.errorFatal 7 0 ∧ t.mem = s.mem ∧ t.host.stopReq = false ∧ t.host.runReq = none ∧
      t.host.primeTimer = s.host.primeTimer ∧
      (if s.msixMasked 2 = true then t.host.pba.getLsbD 2 = true else 2 ∈ t.host.msix) ∧
      (∀ x : CurCmd, s.host.cur = some x → s.cmdDead = false → x.slot.opcode.toNat ∉ [1, 2, 3, 0x41] →
        answered s t 3 none none) ∧
      (∀ x : CurCmd, s.host.cur = some x → (s.cmdDead = true ∨ x.slot.opcode.toNat ∈ [1, 2, 3, 0x41]) →
        t.host.cur = s.host.cur ∧ t.host.replies = s.host.replies)) ∧
    (s.running = true → bit (s.reg Reg.errorStStat) 1 = true → s.tick.inTick = false → s.idleNow true = true →
      s.mayDispatch = true → 1 ≤ x.len → x.len ≤ 256 → ∃ t, exec (.slackRoutine x) s = .next t ∧ t.mode = s.mode ∧
        t.mem = s.mem ∧ t.acyc = max s.acyc (s.arr.slackP + 17) + x.len ∧
        (∀ n, n < 4032 → (t.settle (t.acyc + 3)).well n = (s.settle (s.acyc + 3)).well n) ∧
        (let done := x.abandoned = false ∧ s.arr.slackRep = 0
         t.arr.slackDone = (if done then (if s.arr.slackDone < 2047 then s.arr.slackDone + 1 else 0) else s.arr.slackDone) ∧
         t.reg Reg.errorStPasses = if done ∧ 2047 ≤ s.arr.slackDone ∧
          (s.reg Reg.errorStPasses).toNat < 2 ^ 32 - 1 then s.reg Reg.errorStPasses + 1 else s.reg Reg.errorStPasses) ∧
        t.arr.slackRep = (if x.abandoned then s.arr.slackRep else if s.arr.slackRep ≠ 0 then s.arr.slackRep - 1
          else if x.mismatch then 3 else 0) ∧
        (x.mismatch = true → x.abandoned = false →
          (t.reg Reg.errorContCnt).toNat = min ((s.reg Reg.errorContCnt).toNat + 1) (2 ^ 32 - 1) ∧
          bit (t.reg Reg.errorStFail) 26 = true) ∧
        (x.mismatch = false → t.reg Reg.errorContCnt = s.reg Reg.errorContCnt ∧ t.arr.overlay = s.arr.overlay))

/-! ### Debug (16) -/

/-- Run control: a halt is requested, refused for the command core in Active and Shadow, and taken at a retirement boundary;
the sequencer core's halt holds dispatch and is the mode Halted, which resuming leaves for Solo or Ready; a step runs one
instruction or gives up; a halted core's registers and memory are accessible, a running core's are not; the
microsequencer's single step, the freeze and the terminals. -/
def Obligations.RunControl : Prop :=
  ∀ (s : State) (q : Requester) (c : CoreId) (v : Word) (n : Fin 32) (b : Byte) (hi on : Bool),
    let k := s.core c
    let put (x : Core) : State := s.setCore c x
    let stat := dbgOf c Reg.dbgStat
    let skip := if k.haltReq = 2 then some k.ipc else k.ibSkip
    let pstat := k.pstatPend.getD k.pstat
    let down : Core := { k with
      halted := true, haltReq := 0, stepping := false, wait := none, wfi := false, rsv := none, ibSkip := skip }
    let halts := s.mode = .ready ∨ s.mode = .solo ∨ s.mode = .active ∨ s.mode = .shadow
    let refused := c = .cmd ∧ (s.mode = .active ∨ s.mode = .shadow)
    (s.admitted q true (dbgOf c Reg.dbgCtl) = true →
      (refused → exec (.halt q c) s = .next (s.setBit stat 5)) ∧
      (¬ refused → k.halted = false → k.haltReq = 0 → exec (.halt q c) s = .next (put { k with haltReq := 1 })) ∧
      (¬ refused → k.halted = true → exec (.halt q c) s = .next s) ∧
      (k.halted = false → exec (.resume q c) s = .next s ∧ exec (.step q c) s = .next s) ∧
      (k.halted = true → ∃ t, exec (.resume q c) s = .next t ∧ t.mem = s.mem ∧ t.regs = s.regs ∧ t.core c = { k with
          halted := false, stepping := false, pstat := pstat, pstatPend := none,
          wdLeft := s.fld (Reg.seqcoreWdogPeriod + coreBase c) 15 0 } ∧
        (c = .cmd → t.mode = s.mode ∧ t.mseq = s.mseq) ∧
        (c = .seq → t.mseq.held = false ∧ t.mseq.brk = none ∧
          (s.mode = .halted → t.mode = if s.leftMode = .solo then .solo else .ready) ∧ (s.mode ≠ .halted → t.mode = s.mode))) ∧
      (k.halted = true → exec (.step q c) s = .next (put { k with
        halted := false, stepping := true, pstat := pstat, pstatPend := none }))) ∧
    (s.coreDown c = false → k.run = true → k.halted = false → k.haltReq ≠ 0 → k.haltReq < 8 → ∃ t, exec (.coreHalt c) s = .next t ∧
      t.core c = down ∧ t.fld stat 3 1 = k.haltReq ∧ t.mem = s.mem ∧ (c = .cmd → t.mode = s.mode) ∧
      (c = .seq → t.mseq.held = true ∧ t.mseq.prep = none ∧ (halts → t.mode = .halted ∧ t.leftMode = s.mode) ∧
        (¬ halts → t.mode = s.mode))) ∧
    (s.coreDown c = false → k.stepping = true → k.wait.isSome = true ∨ k.wfi = true → k.haltReq = 0 → ∃ t,
      exec (.stepBlocked c) s = .next t ∧ t.core c = down ∧ t.fld stat 3 1 = 5 ∧ bit (t.reg stat) 4 = true ∧ t.mem = s.mem) ∧
    (s.alive = true → k.halted = false → exec (.dbgMemoryGo c) s = .next (s.setBit (dbgOf c Reg.dbgMctl) 11)) ∧
    (s.alive = true → k.halted = true →
      let m := dbgOf c Reg.dbgMctl
      let len := 2 ^ s.fld m 1 0
      let a := s.addr48 (dbgOf c Reg.dbgMaddrLo) / len * len
      let wr := bit (s.reg m) 2
      let data := (s.reg (dbgOf c Reg.dbgMdataLo)).toNat + 2 ^ 32 * (s.reg (dbgOf c Reg.dbgMdataHi)).toNat
      let code := accessCode s ⟨coreStation c, true, false, true, !wr && !bit (s.reg m) 3⟩ wr a len
      inMem a len = true → ∃ t, exec (.dbgMemoryGo c) s = .next t ∧ t.fld m 9 6 = code ∧ t.mode = s.mode ∧
        (code ≠ 0 ∨ wr = false → t.mem = s.mem) ∧
        (code = 0 → wr = false → t.reg (dbgOf c Reg.dbgMdataLo) = BitVec.ofNat 32 (s.memNat a len) ∧
          t.reg (dbgOf c Reg.dbgMdataHi) = BitVec.ofNat 32 (s.memNat a len / 2 ^ 32)) ∧
        (code = 0 → wr = true → t.memNat a len = data % 256 ^ len ∧ (∀ x, x < a ∨ a + len ≤ x → t.byte x = s.byte x))) ∧
    (let a := dbgOf c (if hi then Reg.dbgRegHi else Reg.dbgRegLo);
      (s.admitted q true a = true → k.halted = false → exec (.dbgReg q c hi true v) s = .next (s.setBit stat 18)) ∧
      (s.admitted q true a = true → k.halted = true → s.fld (dbgOf c Reg.dbgRegSel) 9 0 = n.val →
        exec (.dbgReg q c hi true v) s = .next (put (k.gw n (if hi then ofHalves v (loHalf (k.gr n))
          else ofHalves (hiHalf (k.gr n)) v)))) ∧
      (s.admitted q false a = true → k.halted = true → s.fld (dbgOf c Reg.dbgRegSel) 9 0 = n.val →
        exec (.dbgReg q c hi false v) s = .next s) ∧
      (s.admitted q false a = true → k.halted = false → exec (.dbgReg q c hi false v) s = .next (s.setBit stat 18))) ∧
    (s.admitted q true Reg.dbgGlb = true →
      (s.mode = .ready ∨ (s.mode = .halted ∧ s.leftMode = .ready) → s.mseq.brk.isSome = true →
        exec (.mstep q) s = .next { s with dbg := { s.dbg with mstep := true } }) ∧
      (s.mseq.brk = none ∨ (s.mode ≠ .ready ∧ s.mode ≠ .halted) → exec (.mstep q) s = .next s) ∧
      (on = true → s.wh.flash.lc = 1 → s.dbg.unlocked ≠ 2 → exec (.freeze q on) s = .next s) ∧
      (on = false ∨ s.wh.flash.lc ≠ 1 ∨ s.dbg.unlocked = 2 → ∃ t, exec (.freeze q on) s = .next t ∧
        bit (t.reg Reg.dbgGlb) 0 = on ∧ t.mode = s.mode ∧ t.wh.frozen = (on && (s.seq.halted || s.seq.stepping ||
          s.cmd.halted || s.cmd.stepping)) ∧ (s.wh.frozen = true → on = false → t.wh.wdLeft = s.wh.wdPeriod))) ∧
    (s.admitted q true (dbgOf c Reg.dbgTxd) = true →
      (k.txd.length < 64 → exec (.dbgTxd q c true b) s = .next (put { k with txd := k.txd ++ [b] })) ∧
      (64 ≤ k.txd.length → exec (.dbgTxd q c true b) s = .next (s.setBit (dbgOf c Reg.dbgVtstat) 14))) ∧
    (s.admitted q true (dbgOf c Reg.dbgRxd) = true →
      (k.rxd.length < 64 → exec (.dbgRxd q c true b) s = .next (put { k with rxd := k.rxd ++ [b] })) ∧
      (64 ≤ k.rxd.length → exec (.dbgRxd q c true b) s = .next (s.setBit (dbgOf c Reg.dbgVtstat) 14))) ∧
    (s.admitted q false (dbgOf c Reg.dbgTxd) = true → exec (.dbgTxd q c false b) s =
      .next (if q.quiet then s else put { k with txd := k.txd.tail })) ∧
    (s.admitted q false (dbgOf c Reg.dbgRxd) = true → exec (.dbgRxd q c false b) s =
      .next (if q.quiet then s else put { k with rxd := k.rxd.tail }))

/-- The test access port: IDCODE in every state; SAMPLE, DBGREG and the unlock not in Scrapped; EXTEST only where the port is
open, in Bare and Ready; what is not available acts as BYPASS; while locked DBGREG reaches DBG_LOCK alone. A challenge
gives a fresh nonce; a response is verified once, three failures end it, and the right signature under a key of slots 1
to 3 unlocks. -/
def Obligations.TestAccessPort : Prop :=
  ∀ (s : State) (pins : PinPic) (off : BitVec 14) (v : Word) (wr ok : Bool) (slot : Byte) (r sig : BitVec 384)
    (nonce : BitVec 256),
    let put (x : Dbg) : State := { s with dbg := x }
    let load (ir x : Nat) : Dbg := { s.dbg with tapIr := ir, tapData := BitVec.ofNat 2048 x, drive := none }
    let bypass := put (load 0xFF 0)
    let partly := s.tapOpen = true ∨ s.wh.flash.lc = 1
    s.mode ≠ .off →
    (∃ t, exec .idcode s = .next t ∧ t = put t.dbg ∧ t.dbg.tapIr = 1 ∧ t.dbg.drive = none ∧ t.dbg.tapData.toNat % 2 = 1 ∧
      t.dbg.tapData.toNat / 2 ^ 12 % 2 ^ 16 = 0x2048 ∧ t.dbg.tapData.toNat / 2 ^ 28 = s.wh.flash.stepping.toNat % 16) ∧
    exec .bypass s = .next bypass ∧
    (partly → exec (.sample pins) s = .next (put (load 2 (s.pinPicture pins).toNat))) ∧
    ((s.pinPicture pins).getLsbD 48 = !s.wh.perstLow ∧ (s.pinPicture pins).getLsbD 49 = s.valve.permitPin ∧
      (s.pinPicture pins).getLsbD 50 = !s.wh.tamper ∧ (s.pinPicture pins).getLsbD 52 = pins.getLsbD 52 ∧
      (s.dbg.drive = none → (s.pinPicture pins).getLsbD 53 = s.txOwn)) ∧
    (¬ partly → exec (.sample pins) s = .next bypass ∧ exec (.dbgreg wr off v) s = .next bypass ∧
      exec .dbgchal s = .next bypass ∧ exec (.dbgresp slot r sig) s = .next bypass) ∧
    (s.tapOpen = true → s.mode = .bare ∨ s.mode = .ready → exec (.extest pins) s =
      .next (put { load 3 pins.toNat with drive := some pins })) ∧
    (s.tapOpen = false ∨ (s.mode ≠ .bare ∧ s.mode ≠ .ready) → exec (.extest pins) s = .next bypass) ∧
    (s.tapOpen = true → exec (.resetreq false) s = .next (put (load 0x30 0))) ∧
    (s.tapOpen = false → exec (.resetreq ok) s = .next bypass) ∧
    (let a := 0x20120000 + 4 * off.toNat
      let code := accessCode s portReq24 wr a 4;
      (s.tapOpen = false → s.wh.flash.lc = 1 → a ≠ Reg.dbgLock → ∃ t, exec (.dbgreg wr off v) s = .next t ∧
        t.dbg.tapStatus = 3 ∧ t = { s with dbg := t.dbg, free := t.free }) ∧
      (s.tapOpen = true → s.mode = .reset → ∃ t, exec (.dbgreg wr off v) s = .next t ∧ t.dbg.tapStatus = 1 ∧
        t = { s with dbg := t.dbg, free := t.free }) ∧
      (s.tapOpen = true → s.alive = true → code ≠ 0 → ∃ t, exec (.dbgreg wr off v) s = .next t ∧ t.dbg.tapStatus = 2 ∧
        t.dbg.tapData.toNat / 4 % 16 = code ∧ t.mem = s.mem ∧ t.seq = s.seq ∧ t.cmd = s.cmd) ∧
      (s.tapOpen = true → s.alive = true → code = 0 → ∃ t, exec (.dbgreg wr off v) s = .next t ∧ t.dbg.tapStatus = 0)) ∧
    (partly → ∃ t, exec .dbgchal s = .next t ∧ t.dbg.nonce = some (Config.nonce s.free) ∧ t.free = s.free + 1 ∧
      t.dbg.tapData.toNat % 2 ^ 256 = (Config.nonce s.free).toNat ∧ t.dbg.unlocked = s.dbg.unlocked) ∧
    (partly →
      (s.dbg.fails = 3 ∨ s.dbg.unlocked ≠ 0 → exec (.dbgresp slot r sig) s = .next (put (load 0x21 0))) ∧
      (s.dbg.fails < 3 → s.dbg.unlocked = 0 → s.dbg.nonce = none → exec (.dbgresp slot r sig) s = .next (put { load 0x21 0 with
        fails := s.dbg.fails + 1, respHeld := none })) ∧
      (s.dbg.fails ≠ 3 → s.dbg.unlocked = 0 → s.dbg.nonce = some nonce → exec (.dbgresp slot r sig) s =
        .next (put { load 0x21 0 with unlocked := 1, respHeld := some (slot, r, sig, nonce) }))) ∧
    (s.dbg.unlocked = 1 → s.dbg.respHeld = some (slot, r, sig, nonce) →
      let good := 1 ≤ slot.toNat ∧ slot.toNat ≤ 3 ∧ s.wh.flash.keys.getLsbD slot.toNat = true ∧
        ∃ key, s.wh.flash.pub[slot.toNat]? = some key ∧
          ecdsaOk key (sha384 (leBytes 32 nonce.toNat ++ leBytes 8 s.wh.flash.serial.toNat)) r sig = true
      (good → ∃ t, exec .unlockVerify s = .next t ∧
        t.dbg = { s.dbg with unlocked := 2, slot := BitVec.ofNat 2 slot.toNat, respHeld := none } ∧ t.wh = s.wh ∧
        (s.alive = true → t.cmd = { s.cmd with irqPend := s.cmd.irqPend ||| 16#32 })) ∧
      (¬ good → exec .unlockVerify s = .next (put { s.dbg with
        unlocked := 0, fails := min (s.dbg.fails + 1) 3, nonce := none, respHeld := none })))
end

