-- ==== Sys2Proof/Laws/State.lean ====
section
/-! SUPPORT. One lemma per field per update of State: what the shared updates leave alone. -/
namespace Sys2Proof.Machine

/-! ### setReg -/

@[simp] theorem State.setReg_pending (s : State) (a : Nat) (v : Word) : (s.setReg a v).pending = s.pending := rfl
@[simp] theorem State.setReg_free (s : State) (a : Nat) (v : Word) : (s.setReg a v).free = s.free := rfl
@[simp] theorem State.setReg_mode (s : State) (a : Nat) (v : Word) : (s.setReg a v).mode = s.mode := rfl
@[simp] theorem State.setReg_leftMode (s : State) (a : Nat) (v : Word) : (s.setReg a v).leftMode = s.leftMode := rfl
@[simp] theorem State.setReg_acyc (s : State) (a : Nat) (v : Word) : (s.setReg a v).acyc = s.acyc := rfl
@[simp] theorem State.setReg_cyc (s : State) (a : Nat) (v : Word) : (s.setReg a v).cyc = s.cyc := rfl
@[simp] theorem State.setReg_dcyc (s : State) (a : Nat) (v : Word) : (s.setReg a v).dcyc = s.dcyc := rfl
@[simp] theorem State.setReg_mem (s : State) (a : Nat) (v : Word) : (s.setReg a v).mem = s.mem := rfl
@[simp] theorem State.setReg_arr (s : State) (a : Nat) (v : Word) : (s.setReg a v).arr = s.arr := rfl
@[simp] theorem State.setReg_mseq (s : State) (a : Nat) (v : Word) : (s.setReg a v).mseq = s.mseq := rfl
@[simp] theorem State.setReg_sump (s : State) (a : Nat) (v : Word) : (s.setReg a v).sump = s.sump := rfl
@[simp] theorem State.setReg_iss (s : State) (a : Nat) (v : Word) : (s.setReg a v).iss = s.iss := rfl
@[simp] theorem State.setReg_seq (s : State) (a : Nat) (v : Word) : (s.setReg a v).seq = s.seq := rfl
@[simp] theorem State.setReg_cmd (s : State) (a : Nat) (v : Word) : (s.setReg a v).cmd = s.cmd := rfl
@[simp] theorem State.setReg_tick (s : State) (a : Nat) (v : Word) : (s.setReg a v).tick = s.tick := rfl
@[simp] theorem State.setReg_pump (s : State) (a : Nat) (v : Word) : (s.setReg a v).pump = s.pump := rfl
@[simp] theorem State.setReg_cist (s : State) (a : Nat) (v : Word) : (s.setReg a v).cist = s.cist := rfl
@[simp] theorem State.setReg_edge (s : State) (a : Nat) (v : Word) : (s.setReg a v).edge = s.edge := rfl
@[simp] theorem State.setReg_jesd (s : State) (a : Nat) (v : Word) : (s.setReg a v).jesd = s.jesd := rfl
@[simp] theorem State.setReg_valve (s : State) (a : Nat) (v : Word) : (s.setReg a v).valve = s.valve := rfl
@[simp] theorem State.setReg_ring (s : State) (a : Nat) (v : Word) : (s.setReg a v).ring = s.ring := rfl
@[simp] theorem State.setReg_host (s : State) (a : Nat) (v : Word) : (s.setReg a v).host = s.host := rfl
@[simp] theorem State.setReg_twin (s : State) (a : Nat) (v : Word) : (s.setReg a v).twin = s.twin := rfl
@[simp] theorem State.setReg_pwr (s : State) (a : Nat) (v : Word) : (s.setReg a v).pwr = s.pwr := rfl
@[simp] theorem State.setReg_wh (s : State) (a : Nat) (v : Word) : (s.setReg a v).wh = s.wh := rfl
@[simp] theorem State.setReg_dbg (s : State) (a : Nat) (v : Word) : (s.setReg a v).dbg = s.dbg := rfl

/-! ### setFld -/

@[simp] theorem State.setFld_pending (s : State) (a hi lo v : Nat) : (s.setFld a hi lo v).pending = s.pending := rfl
@[simp] theorem State.setFld_free (s : State) (a hi lo v : Nat) : (s.setFld a hi lo v).free = s.free := rfl
@[simp] theorem State.setFld_mode (s : State) (a hi lo v : Nat) : (s.setFld a hi lo v).mode = s.mode := rfl
@[simp] theorem State.setFld_leftMode (s : State) (a hi lo v : Nat) : (s.setFld a hi lo v).leftMode = s.leftMode := rfl
@[simp] theorem State.setFld_acyc (s : State) (a hi lo v : Nat) : (s.setFld a hi lo v).acyc = s.acyc := rfl
@[simp] theorem State.setFld_cyc (s : State) (a hi lo v : Nat) : (s.setFld a hi lo v).cyc = s.cyc := rfl
@[simp] theorem State.setFld_dcyc (s : State) (a hi lo v : Nat) : (s.setFld a hi lo v).dcyc = s.dcyc := rfl
@[simp] theorem State.setFld_mem (s : State) (a hi lo v : Nat) : (s.setFld a hi lo v).mem = s.mem := rfl
@[simp] theorem State.setFld_arr (s : State) (a hi lo v : Nat) : (s.setFld a hi lo v).arr = s.arr := rfl
@[simp] theorem State.setFld_mseq (s : State) (a hi lo v : Nat) : (s.setFld a hi lo v).mseq = s.mseq := rfl
@[simp] theorem State.setFld_sump (s : State) (a hi lo v : Nat) : (s.setFld a hi lo v).sump = s.sump := rfl
@[simp] theorem State.setFld_iss (s : State) (a hi lo v : Nat) : (s.setFld a hi lo v).iss = s.iss := rfl
@[simp] theorem State.setFld_seq (s : State) (a hi lo v : Nat) : (s.setFld a hi lo v).seq = s.seq := rfl
@[simp] theorem State.setFld_cmd (s : State) (a hi lo v : Nat) : (s.setFld a hi lo v).cmd = s.cmd := rfl
@[simp] theorem State.setFld_tick (s : State) (a hi lo v : Nat) : (s.setFld a hi lo v).tick = s.tick := rfl
@[simp] theorem State.setFld_pump (s : State) (a hi lo v : Nat) : (s.setFld a hi lo v).pump = s.pump := rfl
@[simp] theorem State.setFld_cist (s : State) (a hi lo v : Nat) : (s.setFld a hi lo v).cist = s.cist := rfl
@[simp] theorem State.setFld_edge (s : State) (a hi lo v : Nat) : (s.setFld a hi lo v).edge = s.edge := rfl
@[simp] theorem State.setFld_jesd (s : State) (a hi lo v : Nat) : (s.setFld a hi lo v).jesd = s.jesd := rfl
@[simp] theorem State.setFld_valve (s : State) (a hi lo v : Nat) : (s.setFld a hi lo v).valve = s.valve := rfl
@[simp] theorem State.setFld_ring (s : State) (a hi lo v : Nat) : (s.setFld a hi lo v).ring = s.ring := rfl
@[simp] theorem State.setFld_host (s : State) (a hi lo v : Nat) : (s.setFld a hi lo v).host = s.host := rfl
@[simp] theorem State.setFld_twin (s : State) (a hi lo v : Nat) : (s.setFld a hi lo v).twin = s.twin := rfl
@[simp] theorem State.setFld_pwr (s : State) (a hi lo v : Nat) : (s.setFld a hi lo v).pwr = s.pwr := rfl
@[simp] theorem State.setFld_wh (s : State) (a hi lo v : Nat) : (s.setFld a hi lo v).wh = s.wh := rfl
@[simp] theorem State.setFld_dbg (s : State) (a hi lo v : Nat) : (s.setFld a hi lo v).dbg = s.dbg := rfl

/-! ### setBit -/

@[simp] theorem State.setBit_pending (s : State) (a i : Nat) : (s.setBit a i).pending = s.pending := rfl
@[simp] theorem State.setBit_free (s : State) (a i : Nat) : (s.setBit a i).free = s.free := rfl
@[simp] theorem State.setBit_mode (s : State) (a i : Nat) : (s.setBit a i).mode = s.mode := rfl
@[simp] theorem State.setBit_leftMode (s : State) (a i : Nat) : (s.setBit a i).leftMode = s.leftMode := rfl
@[simp] theorem State.setBit_acyc (s : State) (a i : Nat) : (s.setBit a i).acyc = s.acyc := rfl
@[simp] theorem State.setBit_cyc (s : State) (a i : Nat) : (s.setBit a i).cyc = s.cyc := rfl
@[simp] theorem State.setBit_dcyc (s : State) (a i : Nat) : (s.setBit a i).dcyc = s.dcyc := rfl
@[simp] theorem State.setBit_mem (s : State) (a i : Nat) : (s.setBit a i).mem = s.mem := rfl
@[simp] theorem State.setBit_arr (s : State) (a i : Nat) : (s.setBit a i).arr = s.arr := rfl
@[simp] theorem State.setBit_mseq (s : State) (a i : Nat) : (s.setBit a i).mseq = s.mseq := rfl
@[simp] theorem State.setBit_sump (s : State) (a i : Nat) : (s.setBit a i).sump = s.sump := rfl
@[simp] theorem State.setBit_iss (s : State) (a i : Nat) : (s.setBit a i).iss = s.iss := rfl
@[simp] theorem State.setBit_seq (s : State) (a i : Nat) : (s.setBit a i).seq = s.seq := rfl
@[simp] theorem State.setBit_cmd (s : State) (a i : Nat) : (s.setBit a i).cmd = s.cmd := rfl
@[simp] theorem State.setBit_tick (s : State) (a i : Nat) : (s.setBit a i).tick = s.tick := rfl
@[simp] theorem State.setBit_pump (s : State) (a i : Nat) : (s.setBit a i).pump = s.pump := rfl
@[simp] theorem State.setBit_cist (s : State) (a i : Nat) : (s.setBit a i).cist = s.cist := rfl
@[simp] theorem State.setBit_edge (s : State) (a i : Nat) : (s.setBit a i).edge = s.edge := rfl
@[simp] theorem State.setBit_jesd (s : State) (a i : Nat) : (s.setBit a i).jesd = s.jesd := rfl
@[simp] theorem State.setBit_valve (s : State) (a i : Nat) : (s.setBit a i).valve = s.valve := rfl
@[simp] theorem State.setBit_ring (s : State) (a i : Nat) : (s.setBit a i).ring = s.ring := rfl
@[simp] theorem State.setBit_host (s : State) (a i : Nat) : (s.setBit a i).host = s.host := rfl
@[simp] theorem State.setBit_twin (s : State) (a i : Nat) : (s.setBit a i).twin = s.twin := rfl
@[simp] theorem State.setBit_pwr (s : State) (a i : Nat) : (s.setBit a i).pwr = s.pwr := rfl
@[simp] theorem State.setBit_wh (s : State) (a i : Nat) : (s.setBit a i).wh = s.wh := rfl
@[simp] theorem State.setBit_dbg (s : State) (a i : Nat) : (s.setBit a i).dbg = s.dbg := rfl

/-! ### setByte -/

@[simp] theorem State.setByte_pending (s : State) (a : Nat) (v : Byte) : (s.setByte a v).pending = s.pending := rfl
@[simp] theorem State.setByte_free (s : State) (a : Nat) (v : Byte) : (s.setByte a v).free = s.free := rfl
@[simp] theorem State.setByte_mode (s : State) (a : Nat) (v : Byte) : (s.setByte a v).mode = s.mode := rfl
@[simp] theorem State.setByte_leftMode (s : State) (a : Nat) (v : Byte) : (s.setByte a v).leftMode = s.leftMode := rfl
@[simp] theorem State.setByte_acyc (s : State) (a : Nat) (v : Byte) : (s.setByte a v).acyc = s.acyc := rfl
@[simp] theorem State.setByte_cyc (s : State) (a : Nat) (v : Byte) : (s.setByte a v).cyc = s.cyc := rfl
@[simp] theorem State.setByte_dcyc (s : State) (a : Nat) (v : Byte) : (s.setByte a v).dcyc = s.dcyc := rfl
@[simp] theorem State.setByte_regs (s : State) (a : Nat) (v : Byte) : (s.setByte a v).regs = s.regs := rfl
@[simp] theorem State.setByte_arr (s : State) (a : Nat) (v : Byte) : (s.setByte a v).arr = s.arr := rfl
@[simp] theorem State.setByte_mseq (s : State) (a : Nat) (v : Byte) : (s.setByte a v).mseq = s.mseq := rfl
@[simp] theorem State.setByte_sump (s : State) (a : Nat) (v : Byte) : (s.setByte a v).sump = s.sump := rfl
@[simp] theorem State.setByte_iss (s : State) (a : Nat) (v : Byte) : (s.setByte a v).iss = s.iss := rfl
@[simp] theorem State.setByte_seq (s : State) (a : Nat) (v : Byte) : (s.setByte a v).seq = s.seq := rfl
@[simp] theorem State.setByte_cmd (s : State) (a : Nat) (v : Byte) : (s.setByte a v).cmd = s.cmd := rfl
@[simp] theorem State.setByte_tick (s : State) (a : Nat) (v : Byte) : (s.setByte a v).tick = s.tick := rfl
@[simp] theorem State.setByte_pump (s : State) (a : Nat) (v : Byte) : (s.setByte a v).pump = s.pump := rfl
@[simp] theorem State.setByte_cist (s : State) (a : Nat) (v : Byte) : (s.setByte a v).cist = s.cist := rfl
@[simp] theorem State.setByte_edge (s : State) (a : Nat) (v : Byte) : (s.setByte a v).edge = s.edge := rfl
@[simp] theorem State.setByte_jesd (s : State) (a : Nat) (v : Byte) : (s.setByte a v).jesd = s.jesd := rfl
@[simp] theorem State.setByte_valve (s : State) (a : Nat) (v : Byte) : (s.setByte a v).valve = s.valve := rfl
@[simp] theorem State.setByte_ring (s : State) (a : Nat) (v : Byte) : (s.setByte a v).ring = s.ring := rfl
@[simp] theorem State.setByte_host (s : State) (a : Nat) (v : Byte) : (s.setByte a v).host = s.host := rfl
@[simp] theorem State.setByte_twin (s : State) (a : Nat) (v : Byte) : (s.setByte a v).twin = s.twin := rfl
@[simp] theorem State.setByte_pwr (s : State) (a : Nat) (v : Byte) : (s.setByte a v).pwr = s.pwr := rfl
@[simp] theorem State.setByte_wh (s : State) (a : Nat) (v : Byte) : (s.setByte a v).wh = s.wh := rfl
@[simp] theorem State.setByte_dbg (s : State) (a : Nat) (v : Byte) : (s.setByte a v).dbg = s.dbg := rfl

/-! ### clearMem -/

@[simp] theorem State.clearMem_pending (s : State) (lo hi : Nat) : (s.clearMem lo hi).pending = s.pending := rfl
@[simp] theorem State.clearMem_free (s : State) (lo hi : Nat) : (s.clearMem lo hi).free = s.free := rfl
@[simp] theorem State.clearMem_mode (s : State) (lo hi : Nat) : (s.clearMem lo hi).mode = s.mode := rfl
@[simp] theorem State.clearMem_leftMode (s : State) (lo hi : Nat) : (s.clearMem lo hi).leftMode = s.leftMode := rfl
@[simp] theorem State.clearMem_acyc (s : State) (lo hi : Nat) : (s.clearMem lo hi).acyc = s.acyc := rfl
@[simp] theorem State.clearMem_cyc (s : State) (lo hi : Nat) : (s.clearMem lo hi).cyc = s.cyc := rfl
@[simp] theorem State.clearMem_dcyc (s : State) (lo hi : Nat) : (s.clearMem lo hi).dcyc = s.dcyc := rfl
@[simp] theorem State.clearMem_regs (s : State) (lo hi : Nat) : (s.clearMem lo hi).regs = s.regs := rfl
@[simp] theorem State.clearMem_arr (s : State) (lo hi : Nat) : (s.clearMem lo hi).arr = s.arr := rfl
@[simp] theorem State.clearMem_mseq (s : State) (lo hi : Nat) : (s.clearMem lo hi).mseq = s.mseq := rfl
@[simp] theorem State.clearMem_sump (s : State) (lo hi : Nat) : (s.clearMem lo hi).sump = s.sump := rfl
@[simp] theorem State.clearMem_iss (s : State) (lo hi : Nat) : (s.clearMem lo hi).iss = s.iss := rfl
@[simp] theorem State.clearMem_seq (s : State) (lo hi : Nat) : (s.clearMem lo hi).seq = s.seq := rfl
@[simp] theorem State.clearMem_cmd (s : State) (lo hi : Nat) : (s.clearMem lo hi).cmd = s.cmd := rfl
@[simp] theorem State.clearMem_tick (s : State) (lo hi : Nat) : (s.clearMem lo hi).tick = s.tick := rfl
@[simp] theorem State.clearMem_pump (s : State) (lo hi : Nat) : (s.clearMem lo hi).pump = s.pump := rfl
@[simp] theorem State.clearMem_cist (s : State) (lo hi : Nat) : (s.clearMem lo hi).cist = s.cist := rfl
@[simp] theorem State.clearMem_edge (s : State) (lo hi : Nat) : (s.clearMem lo hi).edge = s.edge := rfl
@[simp] theorem State.clearMem_jesd (s : State) (lo hi : Nat) : (s.clearMem lo hi).jesd = s.jesd := rfl
@[simp] theorem State.clearMem_valve (s : State) (lo hi : Nat) : (s.clearMem lo hi).valve = s.valve := rfl
@[simp] theorem State.clearMem_ring (s : State) (lo hi : Nat) : (s.clearMem lo hi).ring = s.ring := rfl
@[simp] theorem State.clearMem_host (s : State) (lo hi : Nat) : (s.clearMem lo hi).host = s.host := rfl
@[simp] theorem State.clearMem_twin (s : State) (lo hi : Nat) : (s.clearMem lo hi).twin = s.twin := rfl
@[simp] theorem State.clearMem_pwr (s : State) (lo hi : Nat) : (s.clearMem lo hi).pwr = s.pwr := rfl
@[simp] theorem State.clearMem_wh (s : State) (lo hi : Nat) : (s.clearMem lo hi).wh = s.wh := rfl
@[simp] theorem State.clearMem_dbg (s : State) (lo hi : Nat) : (s.clearMem lo hi).dbg = s.dbg := rfl

/-! ### useFree -/

@[simp] theorem State.useFree_pending (s : State) (n : Nat) : (s.useFree n).pending = s.pending := rfl
@[simp] theorem State.useFree_mode (s : State) (n : Nat) : (s.useFree n).mode = s.mode := rfl
@[simp] theorem State.useFree_leftMode (s : State) (n : Nat) : (s.useFree n).leftMode = s.leftMode := rfl
@[simp] theorem State.useFree_acyc (s : State) (n : Nat) : (s.useFree n).acyc = s.acyc := rfl
@[simp] theorem State.useFree_cyc (s : State) (n : Nat) : (s.useFree n).cyc = s.cyc := rfl
@[simp] theorem State.useFree_dcyc (s : State) (n : Nat) : (s.useFree n).dcyc = s.dcyc := rfl
@[simp] theorem State.useFree_regs (s : State) (n : Nat) : (s.useFree n).regs = s.regs := rfl
@[simp] theorem State.useFree_mem (s : State) (n : Nat) : (s.useFree n).mem = s.mem := rfl
@[simp] theorem State.useFree_arr (s : State) (n : Nat) : (s.useFree n).arr = s.arr := rfl
@[simp] theorem State.useFree_mseq (s : State) (n : Nat) : (s.useFree n).mseq = s.mseq := rfl
@[simp] theorem State.useFree_sump (s : State) (n : Nat) : (s.useFree n).sump = s.sump := rfl
@[simp] theorem State.useFree_iss (s : State) (n : Nat) : (s.useFree n).iss = s.iss := rfl
@[simp] theorem State.useFree_seq (s : State) (n : Nat) : (s.useFree n).seq = s.seq := rfl
@[simp] theorem State.useFree_cmd (s : State) (n : Nat) : (s.useFree n).cmd = s.cmd := rfl
@[simp] theorem State.useFree_tick (s : State) (n : Nat) : (s.useFree n).tick = s.tick := rfl
@[simp] theorem State.useFree_pump (s : State) (n : Nat) : (s.useFree n).pump = s.pump := rfl
@[simp] theorem State.useFree_cist (s : State) (n : Nat) : (s.useFree n).cist = s.cist := rfl
@[simp] theorem State.useFree_edge (s : State) (n : Nat) : (s.useFree n).edge = s.edge := rfl
@[simp] theorem State.useFree_jesd (s : State) (n : Nat) : (s.useFree n).jesd = s.jesd := rfl
@[simp] theorem State.useFree_valve (s : State) (n : Nat) : (s.useFree n).valve = s.valve := rfl
@[simp] theorem State.useFree_ring (s : State) (n : Nat) : (s.useFree n).ring = s.ring := rfl
@[simp] theorem State.useFree_host (s : State) (n : Nat) : (s.useFree n).host = s.host := rfl
@[simp] theorem State.useFree_twin (s : State) (n : Nat) : (s.useFree n).twin = s.twin := rfl
@[simp] theorem State.useFree_pwr (s : State) (n : Nat) : (s.useFree n).pwr = s.pwr := rfl
@[simp] theorem State.useFree_wh (s : State) (n : Nat) : (s.useFree n).wh = s.wh := rfl
@[simp] theorem State.useFree_dbg (s : State) (n : Nat) : (s.useFree n).dbg = s.dbg := rfl

/-! ### atD -/

@[simp] theorem State.atD_pending (s : State) (d : Nat) : (s.atD d).pending = s.pending := rfl
@[simp] theorem State.atD_free (s : State) (d : Nat) : (s.atD d).free = s.free := rfl
@[simp] theorem State.atD_mode (s : State) (d : Nat) : (s.atD d).mode = s.mode := rfl
@[simp] theorem State.atD_leftMode (s : State) (d : Nat) : (s.atD d).leftMode = s.leftMode := rfl
@[simp] theorem State.atD_acyc (s : State) (d : Nat) : (s.atD d).acyc = s.acyc := rfl
@[simp] theorem State.atD_cyc (s : State) (d : Nat) : (s.atD d).cyc = s.cyc := rfl
@[simp] theorem State.atD_regs (s : State) (d : Nat) : (s.atD d).regs = s.regs := rfl
@[simp] theorem State.atD_mem (s : State) (d : Nat) : (s.atD d).mem = s.mem := rfl
@[simp] theorem State.atD_arr (s : State) (d : Nat) : (s.atD d).arr = s.arr := rfl
@[simp] theorem State.atD_mseq (s : State) (d : Nat) : (s.atD d).mseq = s.mseq := rfl
@[simp] theorem State.atD_sump (s : State) (d : Nat) : (s.atD d).sump = s.sump := rfl
@[simp] theorem State.atD_iss (s : State) (d : Nat) : (s.atD d).iss = s.iss := rfl
@[simp] theorem State.atD_seq (s : State) (d : Nat) : (s.atD d).seq = s.seq := rfl
@[simp] theorem State.atD_cmd (s : State) (d : Nat) : (s.atD d).cmd = s.cmd := rfl
@[simp] theorem State.atD_tick (s : State) (d : Nat) : (s.atD d).tick = s.tick := rfl
@[simp] theorem State.atD_pump (s : State) (d : Nat) : (s.atD d).pump = s.pump := rfl
@[simp] theorem State.atD_cist (s : State) (d : Nat) : (s.atD d).cist = s.cist := rfl
@[simp] theorem State.atD_edge (s : State) (d : Nat) : (s.atD d).edge = s.edge := rfl
@[simp] theorem State.atD_jesd (s : State) (d : Nat) : (s.atD d).jesd = s.jesd := rfl
@[simp] theorem State.atD_valve (s : State) (d : Nat) : (s.atD d).valve = s.valve := rfl
@[simp] theorem State.atD_ring (s : State) (d : Nat) : (s.atD d).ring = s.ring := rfl
@[simp] theorem State.atD_host (s : State) (d : Nat) : (s.atD d).host = s.host := rfl
@[simp] theorem State.atD_twin (s : State) (d : Nat) : (s.atD d).twin = s.twin := rfl
@[simp] theorem State.atD_pwr (s : State) (d : Nat) : (s.atD d).pwr = s.pwr := rfl
@[simp] theorem State.atD_wh (s : State) (d : Nat) : (s.atD d).wh = s.wh := rfl
@[simp] theorem State.atD_dbg (s : State) (d : Nat) : (s.atD d).dbg = s.dbg := rfl

/-! ### setCore -/

@[simp] theorem State.setCore_pending (s : State) (c : CoreId) (k : Core) : (s.setCore c k).pending = s.pending := by cases c <;> rfl
@[simp] theorem State.setCore_free (s : State) (c : CoreId) (k : Core) : (s.setCore c k).free = s.free := by cases c <;> rfl
@[simp] theorem State.setCore_mode (s : State) (c : CoreId) (k : Core) : (s.setCore c k).mode = s.mode := by cases c <;> rfl
@[simp] theorem State.setCore_leftMode (s : State) (c : CoreId) (k : Core) : (s.setCore c k).leftMode = s.leftMode := by cases c <;> rfl
@[simp] theorem State.setCore_acyc (s : State) (c : CoreId) (k : Core) : (s.setCore c k).acyc = s.acyc := by cases c <;> rfl
@[simp] theorem State.setCore_cyc (s : State) (c : CoreId) (k : Core) : (s.setCore c k).cyc = s.cyc := by cases c <;> rfl
@[simp] theorem State.setCore_dcyc (s : State) (c : CoreId) (k : Core) : (s.setCore c k).dcyc = s.dcyc := by cases c <;> rfl
@[simp] theorem State.setCore_regs (s : State) (c : CoreId) (k : Core) : (s.setCore c k).regs = s.regs := by cases c <;> rfl
@[simp] theorem State.setCore_mem (s : State) (c : CoreId) (k : Core) : (s.setCore c k).mem = s.mem := by cases c <;> rfl
@[simp] theorem State.setCore_arr (s : State) (c : CoreId) (k : Core) : (s.setCore c k).arr = s.arr := by cases c <;> rfl
@[simp] theorem State.setCore_mseq (s : State) (c : CoreId) (k : Core) : (s.setCore c k).mseq = s.mseq := by cases c <;> rfl
@[simp] theorem State.setCore_sump (s : State) (c : CoreId) (k : Core) : (s.setCore c k).sump = s.sump := by cases c <;> rfl
@[simp] theorem State.setCore_iss (s : State) (c : CoreId) (k : Core) : (s.setCore c k).iss = s.iss := by cases c <;> rfl
@[simp] theorem State.setCore_tick (s : State) (c : CoreId) (k : Core) : (s.setCore c k).tick = s.tick := by cases c <;> rfl
@[simp] theorem State.setCore_pump (s : State) (c : CoreId) (k : Core) : (s.setCore c k).pump = s.pump := by cases c <;> rfl
@[simp] theorem State.setCore_cist (s : State) (c : CoreId) (k : Core) : (s.setCore c k).cist = s.cist := by cases c <;> rfl
@[simp] theorem State.setCore_edge (s : State) (c : CoreId) (k : Core) : (s.setCore c k).edge = s.edge := by cases c <;> rfl
@[simp] theorem State.setCore_jesd (s : State) (c : CoreId) (k : Core) : (s.setCore c k).jesd = s.jesd := by cases c <;> rfl
@[simp] theorem State.setCore_valve (s : State) (c : CoreId) (k : Core) : (s.setCore c k).valve = s.valve := by cases c <;> rfl
@[simp] theorem State.setCore_ring (s : State) (c : CoreId) (k : Core) : (s.setCore c k).ring = s.ring := by cases c <;> rfl
@[simp] theorem State.setCore_host (s : State) (c : CoreId) (k : Core) : (s.setCore c k).host = s.host := by cases c <;> rfl
@[simp] theorem State.setCore_twin (s : State) (c : CoreId) (k : Core) : (s.setCore c k).twin = s.twin := by cases c <;> rfl
@[simp] theorem State.setCore_pwr (s : State) (c : CoreId) (k : Core) : (s.setCore c k).pwr = s.pwr := by cases c <;> rfl
@[simp] theorem State.setCore_wh (s : State) (c : CoreId) (k : Core) : (s.setCore c k).wh = s.wh := by cases c <;> rfl
@[simp] theorem State.setCore_dbg (s : State) (c : CoreId) (k : Core) : (s.setCore c k).dbg = s.dbg := by cases c <;> rfl

/-! ### reach -/

@[simp] theorem State.reach_pending (s : State) (n : Nat) : (s.reach n).pending = s.pending := by unfold State.reach; split <;> rfl
@[simp] theorem State.reach_free (s : State) (n : Nat) : (s.reach n).free = s.free := by unfold State.reach; split <;> rfl
@[simp] theorem State.reach_mode (s : State) (n : Nat) : (s.reach n).mode = s.mode := by unfold State.reach; split <;> rfl
@[simp] theorem State.reach_leftMode (s : State) (n : Nat) : (s.reach n).leftMode = s.leftMode := by unfold State.reach; split <;> rfl
@[simp] theorem State.reach_cyc (s : State) (n : Nat) : (s.reach n).cyc = s.cyc := by unfold State.reach; split <;> rfl
@[simp] theorem State.reach_dcyc (s : State) (n : Nat) : (s.reach n).dcyc = s.dcyc := by unfold State.reach; split <;> rfl
@[simp] theorem State.reach_regs (s : State) (n : Nat) : (s.reach n).regs = s.regs := by unfold State.reach; split <;> rfl
@[simp] theorem State.reach_mem (s : State) (n : Nat) : (s.reach n).mem = s.mem := by unfold State.reach; split <;> rfl
@[simp] theorem State.reach_arr (s : State) (n : Nat) : (s.reach n).arr = s.arr := by unfold State.reach; split <;> rfl
@[simp] theorem State.reach_mseq (s : State) (n : Nat) : (s.reach n).mseq = s.mseq := by unfold State.reach; split <;> rfl
@[simp] theorem State.reach_sump (s : State) (n : Nat) : (s.reach n).sump = s.sump := by unfold State.reach; split <;> rfl
@[simp] theorem State.reach_iss (s : State) (n : Nat) : (s.reach n).iss = s.iss := by unfold State.reach; split <;> rfl
@[simp] theorem State.reach_seq (s : State) (n : Nat) : (s.reach n).seq = s.seq := by unfold State.reach; split <;> rfl
@[simp] theorem State.reach_cmd (s : State) (n : Nat) : (s.reach n).cmd = s.cmd := by unfold State.reach; split <;> rfl
@[simp] theorem State.reach_tick (s : State) (n : Nat) : (s.reach n).tick = s.tick := by unfold State.reach; split <;> rfl
@[simp] theorem State.reach_pump (s : State) (n : Nat) : (s.reach n).pump = s.pump := by unfold State.reach; split <;> rfl
@[simp] theorem State.reach_cist (s : State) (n : Nat) : (s.reach n).cist = s.cist := by unfold State.reach; split <;> rfl
@[simp] theorem State.reach_edge (s : State) (n : Nat) : (s.reach n).edge = s.edge := by unfold State.reach; split <;> rfl
@[simp] theorem State.reach_jesd (s : State) (n : Nat) : (s.reach n).jesd = s.jesd := by unfold State.reach; split <;> rfl
@[simp] theorem State.reach_valve (s : State) (n : Nat) : (s.reach n).valve = s.valve := by unfold State.reach; split <;> rfl
@[simp] theorem State.reach_ring (s : State) (n : Nat) : (s.reach n).ring = s.ring := by unfold State.reach; split <;> rfl
@[simp] theorem State.reach_host (s : State) (n : Nat) : (s.reach n).host = s.host := by unfold State.reach; split <;> rfl
@[simp] theorem State.reach_twin (s : State) (n : Nat) : (s.reach n).twin = s.twin := by unfold State.reach; split <;> rfl
@[simp] theorem State.reach_pwr (s : State) (n : Nat) : (s.reach n).pwr = s.pwr := by unfold State.reach; split <;> rfl
@[simp] theorem State.reach_wh (s : State) (n : Nat) : (s.reach n).wh = s.wh := by unfold State.reach; split <;> rfl
@[simp] theorem State.reach_dbg (s : State) (n : Nat) : (s.reach n).dbg = s.dbg := by unfold State.reach; split <;> rfl

/-! ### setPump -/

@[simp] theorem State.setPump_pending (s : State) (f : Fin 16) (p : Pump) : (s.setPump f p).pending = s.pending := rfl
@[simp] theorem State.setPump_free (s : State) (f : Fin 16) (p : Pump) : (s.setPump f p).free = s.free := rfl
@[simp] theorem State.setPump_mode (s : State) (f : Fin 16) (p : Pump) : (s.setPump f p).mode = s.mode := rfl
@[simp] theorem State.setPump_leftMode (s : State) (f : Fin 16) (p : Pump) : (s.setPump f p).leftMode = s.leftMode := rfl
@[simp] theorem State.setPump_acyc (s : State) (f : Fin 16) (p : Pump) : (s.setPump f p).acyc = s.acyc := rfl
@[simp] theorem State.setPump_cyc (s : State) (f : Fin 16) (p : Pump) : (s.setPump f p).cyc = s.cyc := rfl
@[simp] theorem State.setPump_dcyc (s : State) (f : Fin 16) (p : Pump) : (s.setPump f p).dcyc = s.dcyc := rfl
@[simp] theorem State.setPump_regs (s : State) (f : Fin 16) (p : Pump) : (s.setPump f p).regs = s.regs := rfl
@[simp] theorem State.setPump_mem (s : State) (f : Fin 16) (p : Pump) : (s.setPump f p).mem = s.mem := rfl
@[simp] theorem State.setPump_arr (s : State) (f : Fin 16) (p : Pump) : (s.setPump f p).arr = s.arr := rfl
@[simp] theorem State.setPump_mseq (s : State) (f : Fin 16) (p : Pump) : (s.setPump f p).mseq = s.mseq := rfl
@[simp] theorem State.setPump_sump (s : State) (f : Fin 16) (p : Pump) : (s.setPump f p).sump = s.sump := rfl
@[simp] theorem State.setPump_iss (s : State) (f : Fin 16) (p : Pump) : (s.setPump f p).iss = s.iss := rfl
@[simp] theorem State.setPump_seq (s : State) (f : Fin 16) (p : Pump) : (s.setPump f p).seq = s.seq := rfl
@[simp] theorem State.setPump_cmd (s : State) (f : Fin 16) (p : Pump) : (s.setPump f p).cmd = s.cmd := rfl
@[simp] theorem State.setPump_tick (s : State) (f : Fin 16) (p : Pump) : (s.setPump f p).tick = s.tick := rfl
@[simp] theorem State.setPump_cist (s : State) (f : Fin 16) (p : Pump) : (s.setPump f p).cist = s.cist := rfl
@[simp] theorem State.setPump_edge (s : State) (f : Fin 16) (p : Pump) : (s.setPump f p).edge = s.edge := rfl
@[simp] theorem State.setPump_jesd (s : State) (f : Fin 16) (p : Pump) : (s.setPump f p).jesd = s.jesd := rfl
@[simp] theorem State.setPump_valve (s : State) (f : Fin 16) (p : Pump) : (s.setPump f p).valve = s.valve := rfl
@[simp] theorem State.setPump_ring (s : State) (f : Fin 16) (p : Pump) : (s.setPump f p).ring = s.ring := rfl
@[simp] theorem State.setPump_host (s : State) (f : Fin 16) (p : Pump) : (s.setPump f p).host = s.host := rfl
@[simp] theorem State.setPump_twin (s : State) (f : Fin 16) (p : Pump) : (s.setPump f p).twin = s.twin := rfl
@[simp] theorem State.setPump_pwr (s : State) (f : Fin 16) (p : Pump) : (s.setPump f p).pwr = s.pwr := rfl
@[simp] theorem State.setPump_wh (s : State) (f : Fin 16) (p : Pump) : (s.setPump f p).wh = s.wh := rfl
@[simp] theorem State.setPump_dbg (s : State) (f : Fin 16) (p : Pump) : (s.setPump f p).dbg = s.dbg := rfl

/-! ### setVLink -/

@[simp] theorem State.setVLink_pending (s : State) (k : Fin 4) (l : VLink) : (s.setVLink k l).pending = s.pending := rfl
@[simp] theorem State.setVLink_free (s : State) (k : Fin 4) (l : VLink) : (s.setVLink k l).free = s.free := rfl
@[simp] theorem State.setVLink_mode (s : State) (k : Fin 4) (l : VLink) : (s.setVLink k l).mode = s.mode := rfl
@[simp] theorem State.setVLink_leftMode (s : State) (k : Fin 4) (l : VLink) : (s.setVLink k l).leftMode = s.leftMode := rfl
@[simp] theorem State.setVLink_acyc (s : State) (k : Fin 4) (l : VLink) : (s.setVLink k l).acyc = s.acyc := rfl
@[simp] theorem State.setVLink_cyc (s : State) (k : Fin 4) (l : VLink) : (s.setVLink k l).cyc = s.cyc := rfl
@[simp] theorem State.setVLink_dcyc (s : State) (k : Fin 4) (l : VLink) : (s.setVLink k l).dcyc = s.dcyc := rfl
@[simp] theorem State.setVLink_regs (s : State) (k : Fin 4) (l : VLink) : (s.setVLink k l).regs = s.regs := rfl
@[simp] theorem State.setVLink_mem (s : State) (k : Fin 4) (l : VLink) : (s.setVLink k l).mem = s.mem := rfl
@[simp] theorem State.setVLink_arr (s : State) (k : Fin 4) (l : VLink) : (s.setVLink k l).arr = s.arr := rfl
@[simp] theorem State.setVLink_mseq (s : State) (k : Fin 4) (l : VLink) : (s.setVLink k l).mseq = s.mseq := rfl
@[simp] theorem State.setVLink_sump (s : State) (k : Fin 4) (l : VLink) : (s.setVLink k l).sump = s.sump := rfl
@[simp] theorem State.setVLink_iss (s : State) (k : Fin 4) (l : VLink) : (s.setVLink k l).iss = s.iss := rfl
@[simp] theorem State.setVLink_seq (s : State) (k : Fin 4) (l : VLink) : (s.setVLink k l).seq = s.seq := rfl
@[simp] theorem State.setVLink_cmd (s : State) (k : Fin 4) (l : VLink) : (s.setVLink k l).cmd = s.cmd := rfl
@[simp] theorem State.setVLink_tick (s : State) (k : Fin 4) (l : VLink) : (s.setVLink k l).tick = s.tick := rfl
@[simp] theorem State.setVLink_pump (s : State) (k : Fin 4) (l : VLink) : (s.setVLink k l).pump = s.pump := rfl
@[simp] theorem State.setVLink_cist (s : State) (k : Fin 4) (l : VLink) : (s.setVLink k l).cist = s.cist := rfl
@[simp] theorem State.setVLink_edge (s : State) (k : Fin 4) (l : VLink) : (s.setVLink k l).edge = s.edge := rfl
@[simp] theorem State.setVLink_jesd (s : State) (k : Fin 4) (l : VLink) : (s.setVLink k l).jesd = s.jesd := rfl
@[simp] theorem State.setVLink_ring (s : State) (k : Fin 4) (l : VLink) : (s.setVLink k l).ring = s.ring := rfl
@[simp] theorem State.setVLink_host (s : State) (k : Fin 4) (l : VLink) : (s.setVLink k l).host = s.host := rfl
@[simp] theorem State.setVLink_twin (s : State) (k : Fin 4) (l : VLink) : (s.setVLink k l).twin = s.twin := rfl
@[simp] theorem State.setVLink_pwr (s : State) (k : Fin 4) (l : VLink) : (s.setVLink k l).pwr = s.pwr := rfl
@[simp] theorem State.setVLink_wh (s : State) (k : Fin 4) (l : VLink) : (s.setVLink k l).wh = s.wh := rfl
@[simp] theorem State.setVLink_dbg (s : State) (k : Fin 4) (l : VLink) : (s.setVLink k l).dbg = s.dbg := rfl

/-! ### setSer -/

@[simp] theorem State.setSer_pending (s : State) (i : Fin 5) (x : Serial) : (s.setSer i x).pending = s.pending := rfl
@[simp] theorem State.setSer_free (s : State) (i : Fin 5) (x : Serial) : (s.setSer i x).free = s.free := rfl
@[simp] theorem State.setSer_mode (s : State) (i : Fin 5) (x : Serial) : (s.setSer i x).mode = s.mode := rfl
@[simp] theorem State.setSer_leftMode (s : State) (i : Fin 5) (x : Serial) : (s.setSer i x).leftMode = s.leftMode := rfl
@[simp] theorem State.setSer_acyc (s : State) (i : Fin 5) (x : Serial) : (s.setSer i x).acyc = s.acyc := rfl
@[simp] theorem State.setSer_cyc (s : State) (i : Fin 5) (x : Serial) : (s.setSer i x).cyc = s.cyc := rfl
@[simp] theorem State.setSer_dcyc (s : State) (i : Fin 5) (x : Serial) : (s.setSer i x).dcyc = s.dcyc := rfl
@[simp] theorem State.setSer_regs (s : State) (i : Fin 5) (x : Serial) : (s.setSer i x).regs = s.regs := rfl
@[simp] theorem State.setSer_mem (s : State) (i : Fin 5) (x : Serial) : (s.setSer i x).mem = s.mem := rfl
@[simp] theorem State.setSer_arr (s : State) (i : Fin 5) (x : Serial) : (s.setSer i x).arr = s.arr := rfl
@[simp] theorem State.setSer_mseq (s : State) (i : Fin 5) (x : Serial) : (s.setSer i x).mseq = s.mseq := rfl
@[simp] theorem State.setSer_sump (s : State) (i : Fin 5) (x : Serial) : (s.setSer i x).sump = s.sump := rfl
@[simp] theorem State.setSer_iss (s : State) (i : Fin 5) (x : Serial) : (s.setSer i x).iss = s.iss := rfl
@[simp] theorem State.setSer_seq (s : State) (i : Fin 5) (x : Serial) : (s.setSer i x).seq = s.seq := rfl
@[simp] theorem State.setSer_cmd (s : State) (i : Fin 5) (x : Serial) : (s.setSer i x).cmd = s.cmd := rfl
@[simp] theorem State.setSer_tick (s : State) (i : Fin 5) (x : Serial) : (s.setSer i x).tick = s.tick := rfl
@[simp] theorem State.setSer_pump (s : State) (i : Fin 5) (x : Serial) : (s.setSer i x).pump = s.pump := rfl
@[simp] theorem State.setSer_cist (s : State) (i : Fin 5) (x : Serial) : (s.setSer i x).cist = s.cist := rfl
@[simp] theorem State.setSer_jesd (s : State) (i : Fin 5) (x : Serial) : (s.setSer i x).jesd = s.jesd := rfl
@[simp] theorem State.setSer_valve (s : State) (i : Fin 5) (x : Serial) : (s.setSer i x).valve = s.valve := rfl
@[simp] theorem State.setSer_ring (s : State) (i : Fin 5) (x : Serial) : (s.setSer i x).ring = s.ring := rfl
@[simp] theorem State.setSer_host (s : State) (i : Fin 5) (x : Serial) : (s.setSer i x).host = s.host := rfl
@[simp] theorem State.setSer_twin (s : State) (i : Fin 5) (x : Serial) : (s.setSer i x).twin = s.twin := rfl
@[simp] theorem State.setSer_pwr (s : State) (i : Fin 5) (x : Serial) : (s.setSer i x).pwr = s.pwr := rfl
@[simp] theorem State.setSer_wh (s : State) (i : Fin 5) (x : Serial) : (s.setSer i x).wh = s.wh := rfl
@[simp] theorem State.setSer_dbg (s : State) (i : Fin 5) (x : Serial) : (s.setSer i x).dbg = s.dbg := rfl

/-! ### dropPorts -/

@[simp] theorem State.dropPorts_pending (s : State) (bays : BitVec 8) : (s.dropPorts bays).pending = s.pending := rfl
@[simp] theorem State.dropPorts_free (s : State) (bays : BitVec 8) : (s.dropPorts bays).free = s.free := rfl
@[simp] theorem State.dropPorts_mode (s : State) (bays : BitVec 8) : (s.dropPorts bays).mode = s.mode := rfl
@[simp] theorem State.dropPorts_leftMode (s : State) (bays : BitVec 8) : (s.dropPorts bays).leftMode = s.leftMode := rfl
@[simp] theorem State.dropPorts_acyc (s : State) (bays : BitVec 8) : (s.dropPorts bays).acyc = s.acyc := rfl
@[simp] theorem State.dropPorts_cyc (s : State) (bays : BitVec 8) : (s.dropPorts bays).cyc = s.cyc := rfl
@[simp] theorem State.dropPorts_dcyc (s : State) (bays : BitVec 8) : (s.dropPorts bays).dcyc = s.dcyc := rfl
@[simp] theorem State.dropPorts_regs (s : State) (bays : BitVec 8) : (s.dropPorts bays).regs = s.regs := rfl
@[simp] theorem State.dropPorts_mem (s : State) (bays : BitVec 8) : (s.dropPorts bays).mem = s.mem := rfl
@[simp] theorem State.dropPorts_arr (s : State) (bays : BitVec 8) : (s.dropPorts bays).arr = s.arr := rfl
@[simp] theorem State.dropPorts_mseq (s : State) (bays : BitVec 8) : (s.dropPorts bays).mseq = s.mseq := rfl
@[simp] theorem State.dropPorts_sump (s : State) (bays : BitVec 8) : (s.dropPorts bays).sump = s.sump := rfl
@[simp] theorem State.dropPorts_iss (s : State) (bays : BitVec 8) : (s.dropPorts bays).iss = s.iss := rfl
@[simp] theorem State.dropPorts_seq (s : State) (bays : BitVec 8) : (s.dropPorts bays).seq = s.seq := rfl
@[simp] theorem State.dropPorts_cmd (s : State) (bays : BitVec 8) : (s.dropPorts bays).cmd = s.cmd := rfl
@[simp] theorem State.dropPorts_tick (s : State) (bays : BitVec 8) : (s.dropPorts bays).tick = s.tick := rfl
@[simp] theorem State.dropPorts_pump (s : State) (bays : BitVec 8) : (s.dropPorts bays).pump = s.pump := rfl
@[simp] theorem State.dropPorts_edge (s : State) (bays : BitVec 8) : (s.dropPorts bays).edge = s.edge := rfl
@[simp] theorem State.dropPorts_jesd (s : State) (bays : BitVec 8) : (s.dropPorts bays).jesd = s.jesd := rfl
@[simp] theorem State.dropPorts_valve (s : State) (bays : BitVec 8) : (s.dropPorts bays).valve = s.valve := rfl
@[simp] theorem State.dropPorts_ring (s : State) (bays : BitVec 8) : (s.dropPorts bays).ring = s.ring := rfl
@[simp] theorem State.dropPorts_host (s : State) (bays : BitVec 8) : (s.dropPorts bays).host = s.host := rfl
@[simp] theorem State.dropPorts_twin (s : State) (bays : BitVec 8) : (s.dropPorts bays).twin = s.twin := rfl
@[simp] theorem State.dropPorts_pwr (s : State) (bays : BitVec 8) : (s.dropPorts bays).pwr = s.pwr := rfl
@[simp] theorem State.dropPorts_wh (s : State) (bays : BitVec 8) : (s.dropPorts bays).wh = s.wh := rfl
@[simp] theorem State.dropPorts_dbg (s : State) (bays : BitVec 8) : (s.dropPorts bays).dbg = s.dbg := rfl

/-! ### burstsEnd -/

@[simp] theorem State.burstsEnd_pending (s : State) (p : Fin 4 → Bool) : (s.burstsEnd p).pending = s.pending := rfl
@[simp] theorem State.burstsEnd_free (s : State) (p : Fin 4 → Bool) : (s.burstsEnd p).free = s.free := rfl
@[simp] theorem State.burstsEnd_mode (s : State) (p : Fin 4 → Bool) : (s.burstsEnd p).mode = s.mode := rfl
@[simp] theorem State.burstsEnd_leftMode (s : State) (p : Fin 4 → Bool) : (s.burstsEnd p).leftMode = s.leftMode := rfl
@[simp] theorem State.burstsEnd_acyc (s : State) (p : Fin 4 → Bool) : (s.burstsEnd p).acyc = s.acyc := rfl
@[simp] theorem State.burstsEnd_cyc (s : State) (p : Fin 4 → Bool) : (s.burstsEnd p).cyc = s.cyc := rfl
@[simp] theorem State.burstsEnd_dcyc (s : State) (p : Fin 4 → Bool) : (s.burstsEnd p).dcyc = s.dcyc := rfl
@[simp] theorem State.burstsEnd_regs (s : State) (p : Fin 4 → Bool) : (s.burstsEnd p).regs = s.regs := rfl
@[simp] theorem State.burstsEnd_mem (s : State) (p : Fin 4 → Bool) : (s.burstsEnd p).mem = s.mem := rfl
@[simp] theorem State.burstsEnd_arr (s : State) (p : Fin 4 → Bool) : (s.burstsEnd p).arr = s.arr := rfl
@[simp] theorem State.burstsEnd_mseq (s : State) (p : Fin 4 → Bool) : (s.burstsEnd p).mseq = s.mseq := rfl
@[simp] theorem State.burstsEnd_sump (s : State) (p : Fin 4 → Bool) : (s.burstsEnd p).sump = s.sump := rfl
@[simp] theorem State.burstsEnd_iss (s : State) (p : Fin 4 → Bool) : (s.burstsEnd p).iss = s.iss := rfl
@[simp] theorem State.burstsEnd_seq (s : State) (p : Fin 4 → Bool) : (s.burstsEnd p).seq = s.seq := rfl
@[simp] theorem State.burstsEnd_cmd (s : State) (p : Fin 4 → Bool) : (s.burstsEnd p).cmd = s.cmd := rfl
@[simp] theorem State.burstsEnd_tick (s : State) (p : Fin 4 → Bool) : (s.burstsEnd p).tick = s.tick := rfl
@[simp] theorem State.burstsEnd_pump (s : State) (p : Fin 4 → Bool) : (s.burstsEnd p).pump = s.pump := rfl
@[simp] theorem State.burstsEnd_cist (s : State) (p : Fin 4 → Bool) : (s.burstsEnd p).cist = s.cist := rfl
@[simp] theorem State.burstsEnd_edge (s : State) (p : Fin 4 → Bool) : (s.burstsEnd p).edge = s.edge := rfl
@[simp] theorem State.burstsEnd_jesd (s : State) (p : Fin 4 → Bool) : (s.burstsEnd p).jesd = s.jesd := rfl
@[simp] theorem State.burstsEnd_ring (s : State) (p : Fin 4 → Bool) : (s.burstsEnd p).ring = s.ring := rfl
@[simp] theorem State.burstsEnd_host (s : State) (p : Fin 4 → Bool) : (s.burstsEnd p).host = s.host := rfl
@[simp] theorem State.burstsEnd_twin (s : State) (p : Fin 4 → Bool) : (s.burstsEnd p).twin = s.twin := rfl
@[simp] theorem State.burstsEnd_pwr (s : State) (p : Fin 4 → Bool) : (s.burstsEnd p).pwr = s.pwr := rfl
@[simp] theorem State.burstsEnd_wh (s : State) (p : Fin 4 → Bool) : (s.burstsEnd p).wh = s.wh := rfl
@[simp] theorem State.burstsEnd_dbg (s : State) (p : Fin 4 → Bool) : (s.burstsEnd p).dbg = s.dbg := rfl

/-! ### respond -/

@[simp] theorem State.respond_pending (s : State) (r : Resp) : (s.respond r).pending = s.pending := rfl
@[simp] theorem State.respond_free (s : State) (r : Resp) : (s.respond r).free = s.free := rfl
@[simp] theorem State.respond_mode (s : State) (r : Resp) : (s.respond r).mode = s.mode := rfl
@[simp] theorem State.respond_leftMode (s : State) (r : Resp) : (s.respond r).leftMode = s.leftMode := rfl
@[simp] theorem State.respond_acyc (s : State) (r : Resp) : (s.respond r).acyc = s.acyc := rfl
@[simp] theorem State.respond_cyc (s : State) (r : Resp) : (s.respond r).cyc = s.cyc := rfl
@[simp] theorem State.respond_dcyc (s : State) (r : Resp) : (s.respond r).dcyc = s.dcyc := rfl
@[simp] theorem State.respond_regs (s : State) (r : Resp) : (s.respond r).regs = s.regs := rfl
@[simp] theorem State.respond_mem (s : State) (r : Resp) : (s.respond r).mem = s.mem := rfl
@[simp] theorem State.respond_arr (s : State) (r : Resp) : (s.respond r).arr = s.arr := rfl
@[simp] theorem State.respond_mseq (s : State) (r : Resp) : (s.respond r).mseq = s.mseq := rfl
@[simp] theorem State.respond_sump (s : State) (r : Resp) : (s.respond r).sump = s.sump := rfl
@[simp] theorem State.respond_iss (s : State) (r : Resp) : (s.respond r).iss = s.iss := rfl
@[simp] theorem State.respond_seq (s : State) (r : Resp) : (s.respond r).seq = s.seq := rfl
@[simp] theorem State.respond_cmd (s : State) (r : Resp) : (s.respond r).cmd = s.cmd := rfl
@[simp] theorem State.respond_tick (s : State) (r : Resp) : (s.respond r).tick = s.tick := rfl
@[simp] theorem State.respond_pump (s : State) (r : Resp) : (s.respond r).pump = s.pump := rfl
@[simp] theorem State.respond_cist (s : State) (r : Resp) : (s.respond r).cist = s.cist := rfl
@[simp] theorem State.respond_edge (s : State) (r : Resp) : (s.respond r).edge = s.edge := rfl
@[simp] theorem State.respond_jesd (s : State) (r : Resp) : (s.respond r).jesd = s.jesd := rfl
@[simp] theorem State.respond_valve (s : State) (r : Resp) : (s.respond r).valve = s.valve := rfl
@[simp] theorem State.respond_host (s : State) (r : Resp) : (s.respond r).host = s.host := rfl
@[simp] theorem State.respond_twin (s : State) (r : Resp) : (s.respond r).twin = s.twin := rfl
@[simp] theorem State.respond_pwr (s : State) (r : Resp) : (s.respond r).pwr = s.pwr := rfl
@[simp] theorem State.respond_wh (s : State) (r : Resp) : (s.respond r).wh = s.wh := rfl
@[simp] theorem State.respond_dbg (s : State) (r : Resp) : (s.respond r).dbg = s.dbg := rfl

/-! ### Reads after updates of something else -/

@[simp] theorem State.setByte_reg (s : State) (x : Nat) (v : Byte) (a : Nat) : (s.setByte x v).reg a = s.reg a := by simp [State.reg]
@[simp] theorem State.setByte_fld (s : State) (x : Nat) (v : Byte) (a hi lo : Nat) : (s.setByte x v).fld a hi lo = s.fld a hi lo := by
  simp [State.fld]
@[simp] theorem State.useFree_reg (s : State) (n : Nat) (a : Nat) : (s.useFree n).reg a = s.reg a := by simp [State.reg]
@[simp] theorem State.useFree_fld (s : State) (n : Nat) (a hi lo : Nat) : (s.useFree n).fld a hi lo = s.fld a hi lo := by
  simp [State.fld]
@[simp] theorem State.setCore_reg (s : State) (c : CoreId) (k : Core) (a : Nat) : (s.setCore c k).reg a = s.reg a := by simp [State.reg]
@[simp] theorem State.setCore_fld (s : State) (c : CoreId) (k : Core) (a hi lo : Nat) : (s.setCore c k).fld a hi lo = s.fld a hi lo := by
  simp [State.fld]
@[simp] theorem State.setReg_byte (s : State) (x : Nat) (v : Word) (a : Nat) : (s.setReg x v).byte a = s.byte a := by simp [State.byte]
@[simp] theorem State.useFree_byte (s : State) (n : Nat) (a : Nat) : (s.useFree n).byte a = s.byte a := by simp [State.byte]
@[simp] theorem State.setCore_byte (s : State) (c : CoreId) (k : Core) (a : Nat) : (s.setCore c k).byte a = s.byte a := by simp [State.byte]
@[simp] theorem State.setReg_core (s : State) (x : Nat) (v : Word) (c : CoreId) : (s.setReg x v).core c = s.core c := by cases c <;> rfl
@[simp] theorem State.setByte_core (s : State) (x : Nat) (v : Byte) (c : CoreId) : (s.setByte x v).core c = s.core c := by cases c <;> rfl
@[simp] theorem State.useFree_core (s : State) (n : Nat) (c : CoreId) : (s.useFree n).core c = s.core c := by cases c <;> rfl

end Sys2Proof.Machine
end

