-- ==== Sys2Proof/Laws/Map.lean ====
section
/-! SUPPORT. The sparse maps that hold registers and memory: read after write, and that every operation keeps the
canonical form. -/
namespace Sys2Proof.Machine

/-! ### Read after write -/

theorem sget_filter_same {α : Type} (d : Nat → α) (m : List (Nat × α)) (k : Nat) :
    sget d (m.filter (fun e => e.1 != k)) k = d k := by
  induction m with
  | nil => rfl
  | cons p m ih =>
    obtain ⟨j, w⟩ := p
    by_cases h : j = k <;> simp [h, sget, ih]

theorem sget_filter_other {α : Type} (d : Nat → α) (m : List (Nat × α)) (k a : Nat) (h : a ≠ k) :
    sget d (m.filter (fun e => e.1 != k)) a = sget d m a := by
  induction m with
  | nil => rfl
  | cons p m ih =>
    obtain ⟨j, w⟩ := p
    by_cases hk : j = k
    · subst hk; simp [sget, Ne.symm h, ih]
    · simp only [List.filter_cons, bne_iff_ne, ne_eq, hk, not_false_eq_true, if_true, sget, ih]

theorem sget_sput_other {α : Type} (d : Nat → α) (m : List (Nat × α)) (k a : Nat) (v : α) (h : a ≠ k) :
    sget d (sput k v m) a = sget d m a := by
  induction m with
  | nil => simp [sput, sget, Ne.symm h]
  | cons p m ih =>
    unfold sput
    split <;> simp [sget, Ne.symm h, ih]

theorem sget_sput_same {α : Type} (d : Nat → α) (m : List (Nat × α)) (k : Nat) (v : α)
    (h : ∀ e ∈ m, e.1 ≠ k) : sget d (sput k v m) k = v := by
  induction m with
  | nil => simp [sput, sget]
  | cons p m ih =>
    unfold sput
    split
    · simp [sget]
    · have := h p (by simp)
      simp [sget, this, ih (fun e he => h e (by simp [he]))]

theorem sget_sset_same {α : Type} [DecidableEq α] (d : Nat → α) (m : List (Nat × α)) (k : Nat) (v : α) :
    sget d (sset d m k v) k = v := by
  unfold sset
  split
  · rename_i h; rw [h]; exact sget_filter_same d m k
  · exact sget_sput_same d _ k v (fun e he => by simpa using (List.mem_filter.mp he).2)

theorem sget_sset_other {α : Type} [DecidableEq α] (d : Nat → α) (m : List (Nat × α)) (k a : Nat) (v : α)
    (h : a ≠ k) : sget d (sset d m k v) a = sget d m a := by
  unfold sset
  split
  · exact sget_filter_other d m k a h
  · rw [sget_sput_other d _ k a v h, sget_filter_other d m k a h]

/-! ### The canonical form -/

theorem swfFrom_mono {α : Type} [DecidableEq α] (d : Nat → α) {m : List (Nat × α)} {lo lo' : Nat} (h : lo' ≤ lo)
    (hm : swfFrom d lo m = true) : swfFrom d lo' m = true := by
  cases m with
  | nil => rfl
  | cons p m =>
    simp only [swfFrom, Bool.and_eq_true, decide_eq_true_eq] at hm ⊢
    exact ⟨⟨by omega, hm.1.2⟩, hm.2⟩

theorem swfFrom_filter {α : Type} [DecidableEq α] (d : Nat → α) (p : Nat × α → Bool) {m : List (Nat × α)} {lo : Nat}
    (hm : swfFrom d lo m = true) : swfFrom d lo (m.filter p) = true := by
  induction m generalizing lo with
  | nil => rfl
  | cons q m ih =>
    simp only [swfFrom, Bool.and_eq_true, decide_eq_true_eq] at hm
    obtain ⟨⟨h1, h2⟩, h3⟩ := hm
    rw [List.filter_cons]
    split
    · simp only [swfFrom, Bool.and_eq_true, decide_eq_true_eq]
      exact ⟨⟨h1, h2⟩, ih h3⟩
    · exact swfFrom_mono d (by omega) (ih h3)

theorem swfFrom_sput {α : Type} [DecidableEq α] (d : Nat → α) {m : List (Nat × α)} {lo : Nat} (k : Nat) (v : α)
    (hk : lo ≤ k) (hv : v ≠ d k) (hn : ∀ e ∈ m, e.1 ≠ k) (hm : swfFrom d lo m = true) :
    swfFrom d lo (sput k v m) = true := by
  induction m generalizing lo with
  | nil => simp [sput, swfFrom, hk, hv]
  | cons p m ih =>
    obtain ⟨j, w⟩ := p
    simp only [swfFrom, Bool.and_eq_true, decide_eq_true_eq] at hm
    have hj : j ≠ k := hn (j, w) (by simp)
    unfold sput
    split <;> simp only [swfFrom, Bool.and_eq_true, decide_eq_true_eq]
    · exact ⟨⟨hk, hv⟩, ⟨by omega, hm.1.2⟩, hm.2⟩
    · exact ⟨hm.1, ih (by omega) (fun e he => hn e (by simp [he])) hm.2⟩

theorem swf_sset {α : Type} [DecidableEq α] (d : Nat → α) {m : List (Nat × α)} (k : Nat) (v : α) (hm : swf d m = true) :
    swf d (sset d m k v) = true := by
  unfold sset
  split
  · exact swfFrom_filter d _ hm
  · rename_i hv
    exact swfFrom_sput d k v (Nat.zero_le _) hv (fun e he => by simpa using (List.mem_filter.mp he).2)
      (swfFrom_filter d _ hm)

/-! ### Registers -/

@[simp] theorem State.setReg_reg_same (s : State) (a : Nat) (v : Word) : (s.setReg a v).reg a = v :=
  sget_sset_same regDefault s.regs a v

@[simp] theorem State.setReg_reg_other (s : State) (a b : Nat) (v : Word) (h : b ≠ a) :
    (s.setReg a v).reg b = s.reg b := sget_sset_other regDefault s.regs a b v h

theorem State.setReg_regsWf (s : State) (h : s.regsWf = true) (a : Nat) (v : Word) : (s.setReg a v).regsWf = true :=
  swf_sset regDefault a v h

/-! ### Memory: what each operation does, and that it keeps the canonical form -/

@[simp] theorem State.setByte_byte_same (s : State) (a : Nat) (v : Byte) : (s.setByte a v).byte a = v :=
  sget_sset_same memDefault s.mem a v

@[simp] theorem State.setByte_byte_other (s : State) (a b : Nat) (v : Byte) (h : b ≠ a) :
    (s.setByte a v).byte b = s.byte b := sget_sset_other memDefault s.mem a b v h

theorem State.setByte_memWf (s : State) (h : s.memWf = true) (a : Nat) (v : Byte) : (s.setByte a v).memWf = true :=
  swf_sset memDefault a v h

theorem State.setMemNat_memWf (s : State) (h : s.memWf = true) (a n v : Nat) : (s.setMemNat a n v).memWf = true := by
  induction n generalizing s a v with
  | zero => exact h
  | succ n ih => exact ih _ (s.setByte_memWf h a _) _ _

theorem State.setBytes_memWf (s : State) (h : s.memWf = true) (a : Nat) (l : List Byte) :
    (s.setBytes a l).memWf = true := by
  induction l generalizing s a with
  | nil => exact h
  | cons b l ih => exact ih _ (s.setByte_memWf h a b) _

theorem State.clearMem_memWf (s : State) (h : s.memWf = true) (lo hi : Nat) : (s.clearMem lo hi).memWf = true :=
  swfFrom_filter memDefault _ h

/-- Outside the n bytes from a upwards setMemNat changes nothing. -/
theorem State.setMemNat_byte_other (s : State) (a n v b : Nat) (h : b < a ∨ a + n ≤ b) :
    (s.setMemNat a n v).byte b = s.byte b := by
  induction n generalizing s a v with
  | zero => rfl
  | succ n ih =>
    simp only [State.setMemNat]
    rw [ih _ _ _ (by omega), State.setByte_byte_other _ _ _ _ (by omega)]

/-- The i-th of the n bytes from a upwards becomes byte i of v. -/
theorem State.setMemNat_byte (s : State) (a n v i : Nat) (hi : i < n) :
    (s.setMemNat a n v).byte (a + i) = BitVec.ofNat 8 (v / 256 ^ i) := by
  induction n generalizing s a v i with
  | zero => omega
  | succ n ih =>
    simp only [State.setMemNat]
    cases i with
    | zero =>
      have h0 := State.setMemNat_byte_other (s.setByte a (BitVec.ofNat 8 v)) (a + 1) n (v / 256) a (by omega)
      rw [State.setByte_byte_same] at h0
      simpa using h0
    | succ i =>
      have := ih (s.setByte a (BitVec.ofNat 8 v)) (a + 1) (v / 256) i (by omega)
      rw [show a + (i + 1) = a + 1 + i by omega, this, Nat.div_div_eq_div_mul]
      congr 2
      rw [Nat.pow_succ, Nat.mul_comm]

@[simp] theorem State.setMemNat_core (s : State) (a n v : Nat) (c : CoreId) : (s.setMemNat a n v).core c = s.core c := by
  induction n generalizing s a v with
  | zero => rfl
  | succ n ih => simp [State.setMemNat, ih]

end Sys2Proof.Machine
end

