-- ==== Sys2Proof/Laws/Outcome.lean ====
section
/-! SUPPORT. What done, when and step answer; what the shared writes of registers do. -/
namespace Sys2Proof.Machine

/-! ### Outcomes -/

theorem legalMode_same_or (m m' : Mode) (b : Mode) (h : b = (if legalMode m m' then m' else m)) :
    b = m ∨ legalMode m b = true := by
  subst h; split
  · exact Or.inr ‹_›
  · exact Or.inl rfl

/-- An effect that leaves the queue alone and makes a legal change of mode, or none, is answered as it is. -/
theorem done_eq {s t : State} (hp : t.pending = s.pending) (hm : t.mode = s.mode ∨ legalMode s.mode t.mode = true) :
    done s t = .next t := by
  unfold done
  have : (if legalMode s.mode t.mode then t.mode else s.mode) = t.mode := by
    split
    · rfl
    · rename_i h; cases hm with
      | inl h' => exact h'.symm
      | inr h' => exact absurd h' h
  rw [this, ← hp]

/-- The same for an effect that keeps the mode. -/
theorem done_keep {s t : State} (hp : t.pending = s.pending) (hm : t.mode = s.mode) : done s t = .next t :=
  done_eq hp (Or.inl hm)

/-- Every answer of done is a next state. -/
theorem done_next (s t : State) : ∃ u, done s t = .next u ∧ u.pending = s.pending ∧
    (u.mode = s.mode ∨ legalMode s.mode u.mode = true) :=
  ⟨_, rfl, rfl, legalMode_same_or _ _ _ rfl⟩

theorem when_next (p : Bool) (s : State) (f : State → State) : ∃ u, when p s f = .next u ∧ u.pending = s.pending ∧
    (u.mode = s.mode ∨ legalMode s.mode u.mode = true) := done_next _ _

theorem when_true {p : Bool} (h : p = true) (s : State) (f : State → State) : when p s f = done s (f s) := by
  simp [when, h]

/-- A command whose trigger is absent changes nothing (log 5). -/
theorem when_false {p : Bool} (h : p = false) (s : State) (f : State → State) : when p s f = .next s := by
  simp [when, h, done_keep]

theorem runInstr_next (c : CoreId) (plain : Bool) (s : State) (f : State → Act) :
    ∃ u, runInstr c plain s f = .next u ∧ u.pending = s.pending ∧
      (u.mode = s.mode ∨ legalMode s.mode u.mode = true) := when_next _ _ _

/-! ### Register writes as commands -/

/-- An admitted write has its effect. -/
theorem regWrite_admitted {q : Requester} {a : Nat} {s : State} (f : State → State) (ha : s.alive = true)
    (hc : accessCode s q true a 4 = 0) : regWrite q a s f = f s := by
  simp [regWrite, ha, hc]

/-- A refused one is logged and has none. -/
theorem regWrite_refused {q : Requester} {a : Nat} {s : State} (f : State → State) (ha : s.alive = true)
    (hc : accessCode s q true a 4 ≠ 0) : regWrite q a s f = refuse s q true a (accessCode s q true a 4) := by
  simp [regWrite, ha, hc]

theorem regWrite_off {q : Requester} {a : Nat} {s : State} (f : State → State) (ha : s.alive = false) :
    regWrite q a s f = s := by
  simp [regWrite, ha]

/-! ### Steps -/

theorem step_cons (s : State) (c : Instr) (rest : List Instr) :
    step { s with pending := c :: rest } = exec c { s with pending := rest } := rfl

theorem step_nil {s : State} (h : s.pending = []) : step s = .next s := by simp [step, h]

end Sys2Proof.Machine
end

