-- ==== Sys2Proof/Laws/Core.lean ====
section
/-! SUPPORT. The shared operations of the cores: registers, flags, retirement, and what an instruction's outcome becomes. -/
namespace Sys2Proof.Machine

/-! ### The cores in State -/

@[simp] theorem State.core_setCore_same (s : State) (c : CoreId) (k : Core) : (s.setCore c k).core c = k := by
  cases c <;> rfl

@[simp] theorem State.setCore_setCore (s : State) (c : CoreId) (k k' : Core) :
    (s.setCore c k).setCore c k' = s.setCore c k' := by cases c <;> rfl

@[simp] theorem State.setCore_self (s : State) (c : CoreId) : s.setCore c (s.core c) = s := by cases c <;> rfl

theorem State.core_setCore_other (s : State) {c d : CoreId} (k : Core) (h : d ≠ c) : (s.setCore c k).core d = s.core d := by
  cases c <;> cases d <;> first | rfl | exact absurd rfl h

@[simp] theorem State.setCore_seq_cmd (s : State) (k : Core) : (s.setCore .seq k).cmd = s.cmd := rfl
@[simp] theorem State.setCore_cmd_seq (s : State) (k : Core) : (s.setCore .cmd k).seq = s.seq := rfl

/-! ### General registers (09 R246, R248) -/

theorem Core.gr_zero (k : Core) : k.gr 0 = 0 := rfl

theorem Core.gw_zero (k : Core) (v : Dbl) : k.gw 0 v = k := rfl

theorem vset_get_same {α : Type} {n : Nat} (v : Vector α n) (i : Fin n) (x : α) : (vset v i x)[i] = x := by
  simp [vset]

theorem vset_get_other {α : Type} {n : Nat} (v : Vector α n) (i j : Fin n) (x : α) (h : j ≠ i) : (vset v i x)[j] = v[j] := by
  have : i.val ≠ j.val := fun e => h (Fin.ext e.symm)
  simp [vset, Vector.getElem_set_ne, this]

@[simp] theorem Core.gw_pstat (k : Core) (i : Fin 32) (v : Dbl) : (k.gw i v).pstat = k.pstat := by
  unfold Core.gw; split <;> (try split) <;> rfl
@[simp] theorem Core.gw_pc (k : Core) (i : Fin 32) (v : Dbl) : (k.gw i v).pc = k.pc := by
  unfold Core.gw; split <;> (try split) <;> rfl
@[simp] theorem Core.gw_lc (k : Core) (i : Fin 32) (v : Dbl) : (k.gw i v).lc = k.lc := by
  unfold Core.gw; split <;> (try split) <;> rfl
@[simp] theorem Core.gw_v (k : Core) (i : Fin 32) (v : Dbl) : (k.gw i v).v = k.v := by
  unfold Core.gw; split <;> (try split) <;> rfl
@[simp] theorem Core.gw_k (k : Core) (i : Fin 32) (v : Dbl) : (k.gw i v).k = k.k := by
  unfold Core.gw; split <;> (try split) <;> rfl
@[simp] theorem Core.gw_rsv (k : Core) (i : Fin 32) (v : Dbl) : (k.gw i v).rsv = k.rsv := by
  unfold Core.gw; split <;> (try split) <;> rfl
@[simp] theorem Core.gw_sup (k : Core) (i : Fin 32) (v : Dbl) : (k.gw i v).sup = k.sup := by
  simp [Core.sup, Core.ps]

/-- A written register reads back, but for g0. -/
theorem Core.gr_gw_same (k : Core) (i : Fin 32) (v : Dbl) (h : i ≠ 0) : (k.gw i v).gr i = v := by
  unfold Core.gr
  rw [Core.gw_sup]
  unfold Core.gw
  by_cases h31 : i = 31 ∧ k.sup = true
  · simp [h31]
  · simp [h, h31, vset]

/-- Every other register keeps its value. -/
theorem Core.gr_gw_other (k : Core) (i j : Fin 32) (v : Dbl) (h : j ≠ i) : (k.gw i v).gr j = k.gr j := by
  unfold Core.gr
  rw [Core.gw_sup]
  unfold Core.gw
  by_cases hi : i = 0
  · simp [hi]
  · by_cases h31 : i = 31 ∧ k.sup = true
    · obtain ⟨rfl, hs⟩ := h31
      simp [hs, h]
    · have : i.val ≠ j.val := fun e => h (Fin.ext e.symm)
      simp [hi, h31, vset, Vector.getElem_set_ne, this]

/-! ### Flags (09 R247) -/

theorem Core.ps_setPs (k : Core) (i j : Nat) (b : Bool) (hi : i < 16) (hj : j < 16) :
    (k.setPs i b).ps j = if j = i then b else k.ps j := by
  unfold Core.setPs Core.ps
  rcases Nat.lt_trichotomy j i with h | h | h
  · cases b <;> simp [hj, h, show ¬ j = i by omega]
  · subst h; cases b <;> simp [hj]
  · cases b <;> simp [hj, show ¬ j < i by omega, show ¬ j - i = 0 by omega, show ¬ j = i by omega]

@[simp] theorem Core.setPs_gr (k : Core) (i : Nat) (b : Bool) (j : Fin 32) (h : i ≠ 4) (hi : i < 16) :
    (k.setPs i b).gr j = k.gr j := by
  have : (k.setPs i b).sup = k.sup := by
    unfold Core.sup; rw [Core.ps_setPs _ _ _ _ hi (by omega)]; simp [Ne.symm h]
  unfold Core.gr; rw [this]; rfl

/-! ### Running an instruction -/

/-- A ready core carries the instruction out. -/
theorem runInstr_ready {c : CoreId} {plain : Bool} {s : State} (f : State → Act) (h : s.ready c = true)
    (hp : plain = true ∨ (s.core c).rpt = false) :
    runInstr c plain s f = done s ((f (s.setCore c (s.head c))).finish c) := by
  simp only [State.ready, Bool.and_eq_true, Bool.not_eq_true', Option.isNone_iff_eq_none, Bool.or_eq_true,
    List.isEmpty_iff] at h
  obtain ⟨⟨⟨h1, h2⟩, h3⟩, h4⟩ := h
  have hp' : (plain || !(s.core c).rpt) = true := by cases hp with
    | inl h => simp [h]
    | inr h => simp [h]
  have hm : (if (s.core c).skips = true then ([] : List Nat) else s.iMatches c (s.core c).ipc) = [] := by
    split
    · rfl
    · cases h4 with
      | inl h => contradiction
      | inr h => exact h
  simp [runInstr, when, h1, h2, h3, hp', hm, State.head]

theorem head_core (s : State) (c : CoreId) : (s.setCore c (s.head c)).core c = s.head c := by simp

/-- An instruction that only changes its core. -/
theorem runInstr_core {c : CoreId} {plain : Bool} {s : State} {f : State → Act} {k : Core} (h : s.ready c = true)
    (hp : plain = true ∨ (s.core c).rpt = false)
    (hf : f (s.setCore c (s.head c)) = .next ((s.setCore c (s.head c)).setCore c k)) :
    runInstr c plain s f = .next (s.setCore c k.retire) := by
  rw [runInstr_ready f h hp, hf]
  simp only [Act.finish, State.retire, State.setCore_setCore, State.core_setCore_same]
  exact done_keep (by simp) (by simp)

/-- One that jumps. -/
theorem runInstr_jump {c : CoreId} {plain : Bool} {s : State} {f : State → Act} {k : Core} {t : BitVec 48}
    (h : s.ready c = true) (hp : plain = true ∨ (s.core c).rpt = false)
    (hf : f (s.setCore c (s.head c)) = .jump ((s.setCore c (s.head c)).setCore c k) t) :
    runInstr c plain s f = .next (s.setCore c { k.retire with pc := t }) := by
  rw [runInstr_ready f h hp, hf]
  simp only [Act.finish, State.retire, State.setCore_setCore, State.core_setCore_same]
  exact done_keep (by simp) (by simp)

/-! ### What an operation that changes only one part keeps

Keep s t: t has the queue and the mode of s. -/

/-- The queue and the mode are as before. -/
def Keep (s t : State) : Prop := t.pending = s.pending ∧ t.mode = s.mode

theorem Keep.rfl' (s : State) : Keep s s := ⟨rfl, rfl⟩
theorem Keep.trans {s t u : State} (h : Keep s t) (h' : Keep t u) : Keep s u :=
  ⟨h'.1.trans h.1, h'.2.trans h.2⟩

theorem keep_setReg (s : State) (a : Nat) (v : Word) : Keep s (s.setReg a v) := ⟨rfl, rfl⟩
theorem keep_setFld (s : State) (a hi lo v : Nat) : Keep s (s.setFld a hi lo v) := ⟨rfl, rfl⟩
theorem keep_setBit (s : State) (a i : Nat) : Keep s (s.setBit a i) := ⟨rfl, rfl⟩
theorem keep_setByte (s : State) (a : Nat) (v : Byte) : Keep s (s.setByte a v) := ⟨rfl, rfl⟩
theorem keep_setCore (s : State) (c : CoreId) (k : Core) : Keep s (s.setCore c k) := by cases c <;> exact ⟨rfl, rfl⟩
theorem keep_useFree (s : State) (n : Nat) : Keep s (s.useFree n) := ⟨rfl, rfl⟩

theorem keep_foldl {α : Type} (f : State → α → State) (l : List α) (s : State) (h : ∀ s x, Keep s (f s x)) :
    Keep s (l.foldl f s) := by
  induction l generalizing s with
  | nil => exact ⟨rfl, rfl⟩
  | cons x l ih => exact (h s x).trans (ih _)

theorem keep_setMemNat (s : State) (a n v : Nat) : Keep s (s.setMemNat a n v) := by
  induction n generalizing s a v with
  | zero => exact ⟨rfl, rfl⟩
  | succ n ih => exact (keep_setByte s a _).trans (ih _ _ _)

theorem keep_setBytes (s : State) (a : Nat) (l : List Byte) : Keep s (s.setBytes a l) := by
  induction l generalizing s a with
  | nil => exact ⟨rfl, rfl⟩
  | cons b l ih => exact (keep_setByte s a b).trans (ih _ _)

theorem keep_countEv (s : State) (a hi lo oa ob n : Nat) : Keep s (s.countEv a hi lo oa ob n) := by
  unfold State.countEv
  split
  · exact ⟨rfl, rfl⟩
  · simp only; split <;> exact ⟨rfl, rfl⟩

theorem keep_countWord (s : State) (a oa ob n : Nat) : Keep s (s.countWord a oa ob n) := keep_countEv _ _ _ _ _ _ _

theorem keep_irq (s : State) (c : CoreId) (n : Nat) : Keep s (s.irq c n) := keep_setCore _ _ _

theorem keep_closing (s : State) : Keep s s.closing := by
  unfold State.closing; split <;> exact ⟨rfl, rfl⟩

theorem keep_fatal (s : State) (code : Nat) (core : Bool) : Keep s (s.fatal code core) := by
  unfold State.fatal
  split
  · exact ⟨rfl, rfl⟩
  · have h := (keep_setFld s Reg.errorFatal 6 0 (code + 64 * b2n core)).trans (keep_closing _)
    simp only; split <;> exact ⟨h.1, h.2⟩

theorem keep_contained (s : State) (code : Nat) : Keep s (s.contained code) := by
  unfold State.contained
  refine (keep_countWord s Reg.errorContCnt Reg.errorContLog 7 1).trans
    (Keep.trans ?_ ((keep_irq _ .cmd 1).trans (keep_irq _ .seq 4)))
  split <;> exact ⟨rfl, rfl⟩

theorem keep_logResponse (s : State) (q : Requester) (a tag code : Nat) : Keep s (logResponse s q a tag code) := by
  unfold logResponse
  split
  · exact ⟨rfl, rfl⟩
  · have h := keep_countWord s Reg.ringErrcnt Reg.ringStat 4 1
    simp only
    split
    · exact h
    · exact h.trans (((keep_setReg _ _ _).trans (keep_setReg _ _ _)).trans (keep_setReg _ _ _))

theorem keep_logUntagged (s : State) (q : Requester) (a code : Nat) : Keep s (logUntagged s q a code) := by
  unfold logUntagged
  split
  · exact ⟨rfl, rfl⟩
  · exact (keep_useFree s 1).trans (keep_logResponse _ _ _ _ _)

theorem keep_logHost (s : State) (winb write : Bool) (off code : Nat) : Keep s (logHost s winb write off code) := by
  unfold logHost
  have h := keep_countWord s Reg.hostifErrcnt Reg.hostifErrlog 7 1
  simp only
  split
  · exact h
  · exact h.trans ((keep_setFld _ _ _ _ _).trans (keep_setReg _ _ _))

theorem keep_refuse (s : State) (q : Requester) (write : Bool) (a code : Nat) : Keep s (refuse s q write a code) := by
  unfold refuse
  refine (keep_logUntagged s q a code).trans ?_
  simp only; split
  · exact keep_logHost _ _ _ _ _
  · exact ⟨rfl, rfl⟩

theorem keep_breakRsv (s : State) (src g : Nat) : Keep s (s.breakRsv src g) := by
  have h : ∀ (c : CoreId) (s : State), Keep s (if coreStation c ≠ src ∧ (s.core c).rsv = some g then
      s.setCore c { s.core c with rsv := none } else s) := by
    intro c s; split
    · exact keep_setCore _ _ _
    · exact ⟨rfl, rfl⟩
  exact (h .seq s).trans (h .cmd _)

theorem keep_memStore (s : State) (src a n v : Nat) : Keep s (s.memStore src a n v) :=
  ((keep_breakRsv _ _ _).trans (keep_breakRsv _ _ _)).trans (keep_setMemNat _ _ _ _)

theorem keep_memPut (s : State) (src a : Nat) (l : List Byte) : Keep s (s.memPut src a l) :=
  (keep_foldl _ _ _ (fun s g => keep_breakRsv s src g)).trans (keep_setBytes _ _ _)

theorem keep_coreFatal (s : State) (c : CoreId) (cause : Nat) : Keep s (s.coreFatal c cause) := by
  unfold State.coreFatal
  simp only
  refine Keep.trans ?_ (keep_fatal _ _ _)
  split <;> exact ⟨rfl, rfl⟩

/-! ### Taking an exception (09 R260 to R262) -/

theorem keep_exc (s : State) (c : CoreId) (cause faddr : Nat) (synd : Option Nat) : Keep s (s.exc c cause faddr synd) := by
  unfold State.exc
  simp only
  split
  · exact Keep.trans (keep_foldl _ _ _ (fun s i => keep_memStore s _ _ _ _)) (keep_setCore _ _ _)
  · exact (keep_logUntagged _ _ _ _).trans (keep_coreFatal _ _ _)

/-- What an exception makes of its core, where the frame can be written. -/
theorem exc_core {s : State} {c : CoreId} (cause faddr : Nat) (synd : Option Nat)
    (h : frameOk s c true ((s.core c).ssp - 64).toNat = true) :
    let k := s.core c
    (s.exc c cause faddr synd).core c = { k with
      ssp := k.ssp - 64
      pstat := (k.pstat ||| 0x10#16) &&& ~~~(0x20#16)
      pc := BitVec.ofNat 48 (k.vbase.toNat + 8 * cause)
      synd := match synd with
        | some v => BitVec.ofNat 64 v
        | none => k.synd
      rsv := none
      rpt := false
      wait := none
      haltReq := if k.stepping then 5 else k.haltReq } := by
  have hk : ∀ (src a n v : Nat) (s : State), ∃ r, (s.memStore src a n v).core c = { s.core c with rsv := r } := by
    intro src a n v s
    have hb : ∀ (s : State) (g : Nat), ∃ r, (s.breakRsv src g).core c = { s.core c with rsv := r } := by
      intro s g
      have h1 : ∀ (d : CoreId) (s : State), ∃ r, (if coreStation d ≠ src ∧ (s.core d).rsv = some g then
          s.setCore d { s.core d with rsv := none } else s).core c = { s.core c with rsv := r } := by
        intro d s; split
        · cases c <;> cases d <;> exact ⟨_, rfl⟩
        · exact ⟨_, rfl⟩
      obtain ⟨r1, e1⟩ := h1 .seq s
      obtain ⟨r2, e2⟩ := h1 .cmd (if coreStation .seq ≠ src ∧ (s.core .seq).rsv = some g then
          s.setCore .seq { s.core .seq with rsv := none } else s)
      rw [e1] at e2
      exact ⟨r2, e2⟩
    obtain ⟨r1, h1⟩ := hb s (a / 64)
    obtain ⟨r2, h2⟩ := hb (s.breakRsv src (a / 64)) ((a + n - 1) / 64)
    refine ⟨r2, ?_⟩
    simp only [State.memStore, State.setMemNat_core, h2, h1]
  have hf : ∀ (l : List Nat) (g : Nat → Nat) (b : Nat) (s : State), ∃ r,
      (l.foldl (fun s i => s.memStore (coreStation c) (b + 8 * i) 8 (g i)) s).core c = { s.core c with rsv := r } := by
    intro l g b
    induction l with
    | nil => intro s; exact ⟨_, rfl⟩
    | cons i l ih =>
      intro s
      obtain ⟨r1, h1⟩ := hk (coreStation c) (b + 8 * i) 8 (g i) s
      obtain ⟨r2, h2⟩ := ih (s.memStore (coreStation c) (b + 8 * i) 8 (g i))
      exact ⟨r2, by simp only [List.foldl_cons, h2, h1]⟩
  obtain ⟨r, hr⟩ := hf (List.range 8) (fun i => (((s.core c).frame cause faddr).getD i 0).toNat)
    ((s.core c).ssp - 64).toNat s
  simp only [State.exc, h, if_true, State.core_setCore_same]
  rw [hr]
  have e : BitVec.ofNat 64 ((s.core c).ssp - 64).toNat = (s.core c).ssp - 64 := by simp only [BitVec.ofNat_toNat, BitVec.setWidth_eq]
  simp only [e] <;> rfl

end Sys2Proof.Machine
end

