-- ==== Sys2Proof/Tests/Slice0.lean ====
section
/-! SUPPORT. Tests: the smoke test of the well-formedness checks, one step of a command from each family with its
result from the specification, and for each statement with hypotheses a state and operands that meet them, clause by
clause. -/
namespace Sys2Proof.Tests
open Sys2Proof Sys2Proof.Machine
set_option Elab.async false

/-! ### States for the tests -/

/-- A core that runs, its code and its supervisor stack in cistern 0. -/
def core0 : Core := { Core.reset with run := true, pc := 0x10000100, ssp := 0x10008000 }

/-- A device in Ready whose memories are on and whose cores both run. -/
def ready0 : State :=
  { State.reset with
    mode := .ready, seq := core0, cmd := core0
    cist := { State.reset.cist with st := Vector.replicate 64 .on, chg := [], rdy := 3 }
    wh := { State.reset.wh with seqRun := false, pllLock := true, devOk := true, khz := 250000 }
    host := { State.reset.host with fw := true } }

/-- The same with a change to its command core. -/
def withCore (f : Core → Core) : State := { ready0 with cmd := f core0 }

/-- Task windows of a core that cover cistern 0 with reading, writing and execution. -/
def inTask (k : Core) : Core := { k with pstat := 0, twb := vset k.twb 0 0x10000007, twl := vset k.twl 0 0x1007F000 }

/-- Requests of the command core and the sequencer core in supervisor mode, of the host through window A, of the command
core in task mode. -/
def byCmd : Requester := ⟨8, true, false, false, false⟩
def bySeq : Requester := ⟨0, true, false, false, false⟩
def byHostA : Requester := ⟨15, false, false, false, false⟩
def byTask : Requester := ⟨8, false, false, false, false⟩

/-- The state that a command answers. -/
def nextOf (o : Host.Outcome State Fault Refusal) : Option State := match o with
  | .next t => some t
  | _ => none

/-- A load, a store of the command core passes every check. -/
def loadOk (u : State) (a n : Nat) : Bool :=
  decide (u.accessFault .cmd false a n = none) && !u.coreCut .cmd && inMem a n && accessCode u (u.coreReq .cmd) false a n == 0 &&
    (u.dMatches .cmd false [(a, n, u.memNat a n)]).isEmpty
def storeOk (u : State) (a n v : Nat) : Bool :=
  decide (u.accessFault .cmd true a n = none) && !u.coreCut .cmd && inMem a n && accessCode u (u.coreReq .cmd) true a n == 0 &&
    (u.dMatches .cmd true [(a, n, v % 256 ^ n)]).isEmpty

/-- Nothing befalls a load. -/
def calm : LoadEv := ⟨.clean, .clean, false, false⟩
/-- A load with rd 1 and ra 3. -/
def load0 (ev : LoadEv) : LoadI := ⟨⟨.cmd, 1, 3, 0⟩, ev⟩
def flit0 (op : BitVec 3) (a : BitVec 48) : ReqFlit := ⟨byCmd, op, 5, a, 8, 7, .clean, false, 0, 0⟩
/-- A command slot with this opcode and sequence number; byte 16, and a scatter reference to one entry of this many bytes. -/
def slot0 (op : BitVec 16) (seq : Word) (total : Nat := 1) (b : Byte := 0) : Slot :=
  ⟨op, 7, 16, if sgOpcode op.toNat then 1 else 0, seq, 0,
    b :: List.replicate 7 0 ++ [1, 0, 0, 0] ++ leBytes 4 total ++ List.replicate 32 0, [⟨0, BitVec.ofNat 32 total, 0⟩],
    true, true, true⟩

/-! ### Well-formedness: each check refuses an ill-formed command -/

theorem test_wf_accepts : (Instr.tickCtl byCmd 1).wf = true ∧ (Instr.hostAccess true 0 false 4096 [] []).wf = true ∧
    (Instr.hostAccess true 0 true 2 [1, 2] []).wf = true := by decide
theorem test_wf_requester : (Instr.tickCtl ⟨32, true, false, false, false⟩ 1).wf = false := by decide
theorem test_wf_request_length : (Instr.request { flit0 1 0x10000000 with len := 65 }).wf = false := by decide
theorem test_wf_request_granule : (Instr.request (flit0 1 0x1000003C)).wf = false := by decide
theorem test_wf_request_source :
    (Instr.request { flit0 1 0x10000000 with who := ⟨32, true, false, false, false⟩ }).wf = false := by decide
theorem test_wf_host_access :
    (Instr.hostAccess false 0 false 0 [] []).wf = false ∧ (Instr.hostAccess false 0 false 4097 [] []).wf = false ∧
    (Instr.hostAccess false 0 true 2 [1] []).wf = false := by decide
theorem test_wf_snoop : (Instr.snoop ⟨0, 6, 7, 8, 0, 0, 0⟩).wf = false := by decide
theorem test_wf_slot : (Instr.commandStart { slot0 1 0 with params := [] }).wf = false := by decide
theorem test_wf_limit_write : (Instr.limitWrite 2 0).wf = false := by decide
theorem test_wf_dbgreg : (Instr.dbgreg true 3 0).wf = false := by decide
theorem test_wf_thermal : (Instr.thermalSample [45]).wf = false := by decide
theorem test_wf_identify : (Instr.identify 0 (2 ^ 32) true).wf = false := by decide
theorem test_wf_link_up : (Instr.linkUp (2 ^ 32)).wf = false := by decide
theorem test_wf_jesd_section : (Instr.wlLoad ⟨[], true, some ⟨0, [], [], [], 0⟩⟩).wf = false := by decide
theorem test_wf_hello :
    (Instr.hello ⟨0, 0, 0, 0, 0, 0, 0, 0, 0, 0, [], true, 0, 0, 0, [], 0, false, false⟩ 0).wf = false := by decide
theorem test_wf_mirrored : (Instr.fwd 0 (.user 0xFFF []) 0 0).wf = false := by decide
theorem test_wf_user : (Instr.user (List.replicate 49 0) 0 0).wf = false := by decide

/-! ### Witnesses: the block as a whole -/

theorem witness_StepRunsFrontCommand : State.reset.pending = [] := rfl

theorem witness_QueueServedInOrder : step State.reset = .next State.reset := rfl

theorem witness_ModeChangesOnlyAsListed :
    (nextOf (exec .vddAonRemoved ready0)).map (·.mode) = some .off ∧
    (nextOf (step { ready0 with pending := [.vddAonRemoved] })).map (·.mode) = some .off := by decide +kernel

/-! ### Witnesses: the cores -/

theorem witness_GeneralRegisters :
    core0.sup = true ∧ (inTask core0).sup = false ∧ frameOk ready0 .cmd true (core0.ssp - 64).toNat = true := by
  decide +kernel

theorem witness_RetirementAndRepetition :
    ready0.readyOnce .cmd = true ∧ ready0.cmd.lc = 0 ∧ notRepeatable 0 = false ∧ notRepeatable (0x0A * 2 ^ 26) = true ∧
    ({ core0 with rpt := true, lc := 1 } : Core).lc = 1 ∧ ({ core0 with rpt := true, lc := 2 } : Core).lc ≠ 1 := by
  decide +kernel

theorem witness_AdditionAndSubtraction : ready0.ready .seq = true ∧ ready0.ready .cmd = true := by decide +kernel
theorem witness_NegationAndMultiplication : ready0.ready (⟨.cmd, true, 1, 2, 0⟩ : IntR).c = true := by decide +kernel
theorem witness_LogicAndMoves :
    (withCore (fun k => { k with g := vset k.g 2 1 })).ready .cmd = true ∧ (0 : Nat) < wid true ∧
    2 ^ (wid true - 1 - 31) ≤ 1 ∧ 1 < 2 ^ (wid true - 31) := by decide +kernel
theorem witness_ShiftAmounts :
    (withCore (fun k => { k with g := vset k.g 3 127 })).ready .cmd = true ∧
    ((withCore (fun k => { k with g := vset k.g 3 127 })).head .cmd).gr 3 = 127 := by decide +kernel
theorem witness_Division :
    (withCore (·.divided true true 7 2)).ready .cmd = true ∧
    (withCore (fun k => { k with dvSt := 64 })).ready .cmd = true ∧ wid false ≤ divCount 64 ∧
    0 < 2 ^ wid true ∧ 2 ^ 63 < 2 ^ wid false := by decide +kernel

/-- g2 points at the last doubleword of cistern 0, g3 at the first of bulk memory, g4 at TICK_PERIOD. -/
def pointers : State := withCore (fun k =>
  { k with g := vset (vset (vset k.g 2 0x1007FFF8) 3 0x1000000000) 4 0x20030004 })

theorem witness_Loads :
    pointers.ready .cmd = true ∧ loadOk pointers 0x1007FFFF 1 = true ∧ loadOk pointers 0x1007FFFE 2 = true ∧
    loadOk pointers 0x1007FFFC 4 = true ∧ loadOk pointers 0x1007FFF8 8 = true ∧ loadOk pointers 0x1000000000 8 = true ∧
    (withCore inTask).ready .cmd = true ∧ loadOk (withCore inTask) 0x1007FFF8 8 = true ∧
    regionOf 0x20030004 = some (.block 3) ∧ pointers.accessFault .cmd false 0x20030004 4 = none ∧
    pointers.coreCut .cmd = false ∧ (load0 calm).ev = calm ∧ (load0 ⟨.clean, .clean, true, false⟩).ev.parity = true ∧
    (load0 ⟨.clean, .lost, false, false⟩).ev.l1 = .lost ∧
    accessCode pointers (pointers.coreReq .cmd) false 0x20030004 4 = 0 ∧
    pointers.dMatches .cmd false [(0x20030004, 4, (pointers.readReg 8 0x20030004 false).2.toNat)] = [] ∧
    (pointers.readReg 8 0x20030004 false).1.pending = pointers.pending ∧
    (pointers.readReg 8 0x20030004 false).1.mode = pointers.mode := by decide +kernel

theorem witness_StoresAndReservations :
    storeOk pointers 0x1007FFFF 1 0 = true ∧ storeOk pointers 0x1007FFFE 2 0 = true ∧
    storeOk pointers 0x1007FFFC 4 0 = true ∧ storeOk pointers 0x1007FFF8 8 0 = true ∧
    storeOk (withCore inTask) 0x10000000 8 0 = true ∧
    isBulk 0x1000000000 = true ∧ loadOk pointers 0x1000000000 4 = true ∧ loadOk pointers 0x1000000000 8 = true ∧
    storeOk pointers 0x1000000000 4 0 = true ∧ storeOk pointers 0x1000000000 8 0 = true ∧
    pointers.cmd.rsv = none ∧ (withCore (fun k => { k with rsv := some 0x40000000 })).ready .cmd = true := by decide +kernel

theorem witness_MemoryKeepsItsForm : ready0.memWf = true ∧ (ready0.setMemNat 0x10000000 8 5).memWf = true := by
  decide +kernel

theorem witness_BranchConditions : ready0.readyOnce .seq = true ∧ ready0.readyOnce .cmd = true := by decide +kernel
theorem witness_JumpsAndLoops :
    (withCore (fun k => { k with lc := 1 })).readyOnce .cmd = true ∧
    (withCore (fun k => { k with lc := 2 })).readyOnce .cmd = true ∧ ready0.cmd.lc = 0 := by decide +kernel
theorem witness_ControlRegisters :
    ready0.readyOnce .cmd = true ∧ (ready0.head .cmd).sup = true ∧ (withCore inTask).readyOnce .cmd = true ∧
    ((withCore inTask).head .cmd).sup = false := by decide +kernel
theorem witness_ExceptionEntryAndReturn :
    frameOk ready0 .cmd true 0x10007FC0 = true ∧ ready0.readyOnce .cmd = true ∧
    frameOk (ready0.setCore .cmd (ready0.head .cmd)) .cmd false 0x10008000 = true := by decide +kernel

/-- A load that the ring answers with an error: the register block's window above TICK's. -/
theorem witness_FaultsTrapsAndPrivilege :
    ready0.readyOnce .cmd = true ∧ bit (ready0.reg (dbgOf .cmd Reg.dbgCtl)) 4 = false ∧ ready0.coreCut .cmd = false ∧
    decodeCore .cmd (0x3F * 2 ^ 26) = none ∧
    bit ((ready0.setReg (dbgOf .cmd Reg.dbgCtl) 0x10).reg (dbgOf .cmd Reg.dbgCtl)) 4 = true ∧
    (ready0.setReg (dbgOf .cmd Reg.dbgCtl) 0x10).readyOnce .cmd = true ∧ (withCore inTask).readyOnce .cmd = true ∧
    0x10000001 % 8 ≠ 0 ∧ ((withCore inTask).head .cmd).windowOk 0 0x10080000 8 = false ∧
    ready0.accessFault .cmd false 0x2F000000 8 = none ∧ accessCode ready0 (ready0.coreReq .cmd) false 0x2F000000 8 ≠ 0 := by
  decide +kernel

/-- Lines pending at the command core, all of them enabled; masked: with PSTAT.IE 0. -/
def masked (lines : Word) : State :=
  (withCore (fun k => { k with irqPend := lines })).setReg (Reg.seqcoreIrqEn + coreBase .cmd) 0xFFFFFFFF
def interrupting (lines : Word) : State := (masked lines).setCore .cmd { (masked lines).cmd with pstat := 0x30 }

theorem witness_InterruptsAndWaiting :
    (withCore (fun k => { k with nmi16 := true })).atBoundary .cmd = true ∧
    (withCore (fun k => { k with nmi16 := true })).intDue .cmd = true ∧
    (withCore (fun k => { k with nmi17 := some (0x10000000, 4) })).intDue .cmd = true ∧
    (interrupting 0x80000000).atBoundary .cmd = true ∧ (interrupting 0x80000000).intDue .cmd = true ∧
    ((interrupting 0x80000000).irqLines .cmd).getLsbD 31 = true ∧
    (∀ j, j < 31 → ((interrupting 0x80000000).irqLines .cmd).getLsbD j = false) ∧
    ((interrupting 1).irqLines .cmd).getLsbD 0 = true ∧
    (withCore (fun k => { k with nmi16 := true, wfi := true })).atBoundary .cmd = true ∧
    ready0.readyOnce .cmd = true ∧ ready0.wakes .cmd = false ∧ (masked 1).readyOnce .cmd = true ∧
    (masked 1).wakes .cmd = true ∧ ((masked 1).setCore .cmd { (masked 1).cmd with wfi := true }).atBoundary .cmd = true ∧
    ((masked 1).setCore .cmd { (masked 1).cmd with wfi := true }).intDue .cmd = false := by decide +kernel

/-! ### Witnesses: floating point and vectors -/

theorem witness_FloatArithmetic :
    (withCore (fun k => { k with fsr := 0x400 })).ready .cmd = true ∧
    4 = (if (7#3 : BitVec 3) = 7 then (0x400#16).toNat / 256 % 8 else 7) := by decide +kernel
theorem witness_FloatSpecialCases :
    fmt16.dec 0x7C00 = .inf false ∧ fmt16.dec 0xFC00 = .inf true ∧ fmtBf.dec 0x7F80 = .inf false ∧
    (∃ e, fmt32.dec 0 = .fin false 0 e) ∧ fmt32.dec 0x7F800000 = .inf false ∧
    (∃ e, fmt64.dec 0x8000000000000000 = .fin true 0 e) ∧ (∃ m e, fmt64.dec 0xBFF0000000000000 = .fin true m e ∧ m ≠ 0) ∧
    (fmt32.dec 0x7FC00000).isNan = true ∧ (fmt32.dec 0x7F800001).isSnan = true ∧
    fmt32.qmin + fmt32.fb ≤ (Nat.log2 1 : Int) + fmt32.qmin + fmt32.fb ∧ (Nat.log2 1 : Int) + 0 < fmt32.bias := by
  refine ⟨by decide +kernel, by decide +kernel, by decide +kernel, ⟨_, rfl⟩, by decide +kernel, ⟨_, rfl⟩,
    ⟨_, _, rfl, by decide +kernel⟩, by decide +kernel, by decide +kernel, by decide +kernel, by decide +kernel⟩
theorem witness_FloatMovesAndIllegalForms :
    ready0.ready .cmd = true ∧ (withCore (fun k => { k with fsr := 0x500 })).ready .cmd = true ∧
    4 < (0x500#16).toNat / 256 % 8 := by decide +kernel
theorem witness_FloatCompare : ready0.ready (⟨.cmd, true, 0, 0, 1, 2⟩ : FpOp).c = true := by decide +kernel
theorem witness_FloatConversions :
    ready0.ready .seq = true ∧ 0 = (if (0#3 : BitVec 3) = 7 then (0#16).toNat / 256 % 8 else 0) ∧
    (fmt64.dec 0x7FF8000000000000).isNan = true ∧ fmt64.dec 0x7FF0000000000000 = .inf false ∧
    fmt64.dec 0xFFF0000000000000 = .inf true := by decide +kernel
theorem witness_VectorLength : (withCore (fun k => { k with g := vset k.g 1 65 })).ready .cmd = true := by decide +kernel

/-- All elements within the length, elements 0 and 63 active under k1. -/
def masked64 : Core := { core0 with vl := 64, k := vset core0.k 1 0x8000000000000001 }

theorem witness_VectorMasking :
    63 < min masked64.vl (512 / 8) ∧ masked64.k[1].getLsbD 63 = true ∧ masked64.k[1].getLsbD 62 = false := by decide +kernel
theorem witness_VectorInteger : (withCore (fun _ => masked64)).ready .cmd = true ∧ (8 : Fin 32).val = 8 := by decide +kernel
theorem witness_VectorReductionsAndMoves :
    (withCore (fun _ => masked64)).ready .cmd = true ∧ masked64.k[0] = 0 ∧ masked64.k[1].getLsbD 0 = true ∧
    ({ masked64 with k := vset masked64.k 1 (1#64 <<< 63) } : Core).k[1].getLsbD 63 = true ∧
    (∀ j, j < 63 → (1#64 <<< 63).getLsbD j = false) := by decide +kernel
theorem witness_VectorFloat :
    (withCore (fun _ => masked64)).ready .cmd = true ∧ (withCore (fun k => k)).cmd.actives 0 32 = [] ∧
    ({ masked64 with vl := 1 } : Core).actives 0 32 = [0] ∧
    0 = (if (0#3 : BitVec 3) = 7 then (0#16).toNat / 256 % 8 else 0) := by decide +kernel

/-- Two active elements of a word vector at the end of cistern 0, or reaching beyond it; indices 0 and 8 in v3. -/
def vecAt (a : Dbl) : State :=
  withCore (fun k => { k with vl := 2, g := vset (vset k.g 2 a) 4 4, v := vset k.v 3 (8 <<< 32) })
def vecOp : VecOp := ⟨.cmd, 0, 2, 8, 2, 0⟩
def vecFits (u : State) (wr : Bool) (l : List VAcc) : Bool :=
  decide (u.vecFault .cmd wr 4 l = none) && l.all (fun x => accessCode u (u.coreReq .cmd) wr x.addr 4 == 0) &&
    (List.range 4).all (fun i => !bit (u.reg (dbgOf .cmd Reg.dbgDbsLoC0 + 64 * i + 16)) 0)

theorem witness_VectorMemory :
    (vecAt 0x1007FFF8).ready .cmd = true ∧ (vecAt 0x1007FFF8).coreCut .cmd = false ∧ vecOp.rd.val + (1 : Fin 4).val ≤ 31 ∧
    (plainAccs vecOp (vecAt 0x1007FFF8) (strideOff vecOp false))[1]?.isSome = true ∧
    vecFits (vecAt 0x1007FFF8) false (plainAccs vecOp (vecAt 0x1007FFF8) (strideOff vecOp false)) = true ∧
    vecFits (vecAt 0x1007FFF8) true (plainAccs { vecOp with rb := 4 } (vecAt 0x1007FFF8) (strideOff { vecOp with rb := 4 } true)) = true ∧
    vecFits (vecAt 0x1007FFF4) true (plainAccs { vecOp with rb := 3 } (vecAt 0x1007FFF4) (indexOff { vecOp with rb := 3 })) = true ∧
    vecFits (vecAt 0x1007FFF0) false (segAccs vecOp 2 (vecAt 0x1007FFF0)) = true ∧
    ((vecAt 0x1007FFFA).vecFault .cmd true 4 (plainAccs vecOp (vecAt 0x1007FFFA) (strideOff vecOp false))).isSome = true ∧
    ((vecAt 0x1007FFFA).vecFault .cmd false 4 (segAccs vecOp 2 (vecAt 0x1007FFFA))).isSome = true ∧
    (plainAccs vecOp (vecAt 0x1007FFF8) (strideOff vecOp false)).any (fun x => x.idx == 1) = true ∧
    (segAccs vecOp 2 (vecAt 0x1007FFF0)).any (fun x => x.idx == 1 && x.reg == 1) = true ∧
    1 < min (vecAt 0x1007FFF8).cmd.vl (512 / 32) := by decide +kernel

/-! ### Witnesses: the array group, the microsequencer, the array, the sump -/

/-- A run: field 0 is live, dispatch enabled. -/
def solo0 : State :=
  { ready0 with
    mode := .solo, arr := { ready0.arr with live := 1, mapOk := true }, mseq := { ready0.mseq with dispEn := true, vendorLib := false }
    pwr := { ready0.pwr with bcast := true, edgeOn := true, fld := vset ready0.pwr.fld 0 .on } }

def entry0 (urgent : Bool) : Entry := ⟨5, ⟨0, 8, 0⟩, ⟨8, 8, 0⟩, ⟨16, 8, 0⟩, some 1, 1, 0, urgent⟩
def solo1 (f : Mseq → Mseq) : State := { solo0 with mseq := f solo0.mseq }
def named (valid : Bool) : State :=
  { solo0 with iss := { solo0.iss with issueNo := 1, sreg := vset solo0.iss.sreg 1 ⟨9, valid, 1, true⟩ } }
def inTick (s : State) : State := { s with tick := { s.tick with inTick := true } }
def waiting (s : State) (w : Wait) : State := { s with seq := { s.seq with wait := some w } }
def arrived : Delivery := ⟨0, 1, 1, 77, false, none⟩

theorem witness_ArrayInstructions :
    solo0.readyOnce .cmd = true ∧ solo0.readyOnce .seq = true ∧ solo0.mseq.full true = false ∧
    (solo1 (fun m => { m with uq := List.replicate 8 (entry0 true) })).mseq.full true = true ∧
    (solo1 (fun m => { m with nq := List.replicate 32 (entry0 false) })).readyOnce .seq = true ∧
    (solo1 (fun m => { m with nq := List.replicate 32 (entry0 false) })).mseq.full false = true ∧
    (solo1 (fun m => { m with nq := List.replicate 31 (entry0 false) })).mseq.full false = false ∧
    solo0.iss.sreg[1].named = false ∧ (named true).readyOnce .seq = true ∧ (named true).iss.sreg[1].named = true ∧
    (named true).iss.sreg[1].valid = true ∧ (named false).iss.sreg[1].valid = false ∧ solo0.idleNow true = true ∧
    solo0.tick.inTick = false ∧ (solo1 (fun m => { m with uq := [entry0 true] })).idleNow true = false := by decide +kernel

theorem witness_ArrayInstructions_waits :
    (inTick solo0).readyOnce .seq = true ∧ (inTick solo0).idleNow true = true ∧ (inTick solo0).tick.inTick = true ∧
    (inTick solo0).tick.held = none ∧ (inTick solo0).twin.inputs = [] ∧ (inTick solo0).twin.digTicks = [] ∧
    (waiting solo0 (.issue (entry0 true))).waitFree = true ∧ (waiting solo0 (.issue (entry0 true))).mseq.full true = false ∧
    (waiting solo0 (.await true)).waitFree = true ∧ (waiting solo0 (.await true)).idleBoth true = some 0 ∧
    (waiting solo0 (.await true)).canReach 0 = true ∧ (waiting (named true) (.sread 2 1)).waitFree = true ∧
    (waiting (inTick solo0) .tend).waitFree = true ∧ (waiting (inTick solo0) .tend).idleBoth true = some 0 ∧
    argMin (·.due) ([arrived].filter (fun x => match x.needs with
      | none => true
      | some i => !(solo0.sump.flight.any (·.id == i)))) = some arrived ∧
    (named false).iss.sreg[arrived.sreg].owner = arrived.issue ∧ (named false).iss.sreg[arrived.sreg].named = true ∧
    (named false).iss.sreg[arrived.sreg].valid = false ∧ (named false).mode ≠ .faultHold := by decide +kernel

/-- Routine 5 has a valid entry that starts at address 100. -/
def withRoutine (f : Mseq → Mseq) : State := (solo1 f).setReg (Reg.mseqRtabLo + 40) 0x80000064

/-- A routine of one microword runs from address 100; wr: it writes plane 16, swap: it swaps it; sq: its sequencing. -/
def running0 (sq : Nat) (dst : Nat) (l : LoopSt) (wr swap : Bool) : State :=
  withRoutine (fun m => { m with
    loopN := l
    cs := [(100, BitVec.ofNat 128 (2 ^ 126 * 0 + 2 ^ 88 * sq + 2 ^ 91 * dst + 2 ^ 46 * 16 + (if wr then 2 ^ 66 else 0) +
      (if swap then 2 ^ 119 else 0)))]
    run := some ⟨entry0 false, 100, none, none, 0, 0, []⟩ })

theorem witness_MicrosequencerCommands :
    (solo1 (fun m => { m with accept := [entry0 true] })).mode ≠ .faultHold ∧
    (withRoutine (fun m => { m with uq := [entry0 true] })).mayDispatch = true ∧
    ((withRoutine id).rtabLo 5).getLsbD 31 = true ∧ ((withRoutine id).rtabLo 5).toNat % 2 ^ 14 < 8192 ∧
    (withRoutine id).mseq.prep = none ∧ (solo0.rtabLo 5).getLsbD 31 = false ∧ solo0.mode ≠ .faultHold ∧
    (withRoutine (fun m => { m with restart := some (entry0 false), prep := some .restart })).mayDispatch = true ∧
    (withRoutine (fun m => { m with nq := [entry0 false] })).mayDispatch = true ∧
    (withRoutine id).mseq.run = none ∧ (withRoutine id).mseq.lastP = none ∧
    max (withRoutine id).acyc ((entry0 true).acc + 1) ≤ max ((entry0 false).acc + 17) ((withRoutine id).mseq.relH + 16) ∧
    (solo0.reg Reg.mseqPreempt).toNat < 2 ^ 32 - 1 ∧
    (let s := running0 0 0 ⟨0, 0, [], []⟩ false false
     { s with mseq := { s.mseq with uq := [entry0 true], run := some ⟨entry0 false, 100, none, none, 0, 0, []⟩ }
              acyc := 1 }).preemptAt.isSome = true := by decide +kernel

theorem witness_MicrosequencerCommands_store :
    (let s := running0 0 0 ⟨0, 0, [], []⟩ false false
     let r : Running := ⟨entry0 false, 100, some 0, none, 0, 0, []⟩
     let u := { s with mseq := { s.mseq with run := some r }, acyc := 9 }
     u.overrunDue r && u.preemptAt.isNone) = true ∧
    solo0.mseqDown = false ∧ solo0.mseq.brk = none ∧ solo0.fatalSeen = false ∧
    solo0.admitted byCmd true Reg.mseqCtl = true ∧ accessCode ready0 byCmd true (0x30000000 + 16 * 16383) 8 = 0 ∧
    accessCode ready0 byCmd true 0x30000000 8 = 0 ∧ parityOk 0 = true ∧ parityOk 1 = false ∧ ready0.alive = true ∧
    accessCode ready0 byCmd true (0x30000000 + 16 * 16383 + 12) 4 = 0 ∧ accessCode ready0 byCmd true 0x30000000 4 = 0 := by decide +kernel

theorem witness_MicrowordRuns :
    [running0 0 0 ⟨0, 0, [], []⟩ false false, running0 1 7 ⟨3, 0, [], []⟩ false false, running0 2 7 ⟨0, 0, [], []⟩ false false,
      running0 3 7 ⟨0, 0, [], []⟩ false false, running0 4 7 ⟨0, 0, [], [1, 2, 3]⟩ false false,
      running0 5 0 ⟨0, 0, [], [1, 2, 3, 4]⟩ false false, running0 6 0 ⟨0, 0, [], []⟩ false false,
      running0 0 0 ⟨0, 0, [], []⟩ true false, running0 0 0 ⟨0, 0, [], []⟩ false true].all (fun s =>
      let r : Running := ⟨entry0 false, 100, none, none, 0, 0, []⟩
      let m := sget (fun _ => (0 : Micro)) s.mseq.cs 100
      s.mseq.run == some r && !s.fromLib r && !s.mseqDown && s.mseq.brk.isNone && s.preemptAt.isNone && !s.overrunDue r &&
        !illegalMicro m && decide (r.entry.rtn < 512) && decide (r.next < 16383) && s.arr.errs.isEmpty && s.arr.inj.isEmpty && mf m 107 105 == 0) = true ∧
    (opOf (sget (fun _ => (0 : Micro)) (running0 0 0 ⟨0, 0, [], []⟩ true false).mseq.cs 100) (entry0 false) 0 0).wr =
      some (16, 0) := by decide +kernel

def clearing0 : State := { solo0 with arr := { solo0.arr with live := 0, clearing := 0x8000 } }
def write0 : WellWrite := ⟨2, 7, 1, 3, false, false, none⟩

theorem witness_ArrayCells :
    write0.scrub = none ∧ (∀ x ∈ [{ write0 with due := 3 }], write0.due < x.due) ∧
    clearing0.arr.clearing.getLsbD 15 = true ∧ clearing0.arr.flight = [] ∧
    ({ clearing0 with arr := { clearing0.arr with clearing := 0, cleared := 0x8000 } } : State).arr.cleared.getLsbD 15 = true ∧
    solo0.mseq.run = none ∧ solo0.mseq.uq = [] ∧ solo0.arr.live.getLsbD 0 = true ∧ solo0.arr.flight = [] ∧
    solo0.mode ≠ .faultHold ∧ solo0.pwr.bcast = true ∧ solo0.arr.pathBad.getLsbD 15 = false ∧ ready0.pwr.bcast = false ∧
    (solo0.pump[(0 : Fin 16)].desc = none ∧ solo0.pump[(0 : Fin 16)].result = none) ∧
    (∃ g, (0, g) ∈ ({ solo0 with pwr := { solo0.pwr with chg := [(0, .retain)] } } : State).pwr.chg ∧ g ≠ .on) := by
  refine ⟨by decide +kernel, by decide +kernel, by decide +kernel, by decide +kernel, by decide +kernel, by decide +kernel,
    by decide +kernel, by decide +kernel, by decide +kernel, by decide +kernel, by decide +kernel, by decide +kernel,
    by decide +kernel, by decide +kernel, .retain, by decide +kernel, by decide +kernel⟩

theorem witness_ArrayCells_commands :
    (solo0.setReg Reg.arrayScrub 1).scrubCycle.isSome = true ∧ solo0.mseqDown = false ∧ solo0.arr.live ≠ 0 ∧ bit ((solo0.setReg Reg.arrayScrub 1).reg Reg.arrayScrub) 0 = true ∧
    ({ solo0 with arr := { solo0.arr with scrubPlane := 4095 } } : State).scrubCycle.isSome = true ∧ solo0.arr.errs = [] ∧
    (solo0.reg Reg.arrayScrubPasses).toNat < 2 ^ 32 - 1 ∧
    ({ solo0 with arr := { solo0.arr with logging := some (9, 3) } } : State).arr.logging = some (9, 3) ∧ solo0.admitted byCmd true Reg.arrayOvlCmd = true ∧
    solo0.arr.logging = none ∧ solo0.wh.flash.log.length < 1000 ∧ solo0.arr.overlay.length < 256 ∧
    ready0.admitted byCmd true (Reg.tileCtl + 16 * 1023) = true ∧ ready0.arr.live.getLsbD (fieldOfTile 1023) = false ∧
    ({ solo0 with mode := .ready } : State).admitted byCmd true Reg.tileCtl = true ∧
    ({ solo0 with mode := .ready } : State).arr.live.getLsbD (fieldOfTile 0) = true := by decide +kernel

def edgeSet (f : Edge → Edge) (s : State) : State := { s with edge := f s.edge }

theorem witness_SumpAndTap :
    argMin Contrib.due [⟨0, 1, false, 2, true, 1, 5, 9, 0, false, 0, 5⟩] = some ⟨0, 1, false, 2, true, 1, 5, 9, 0, false, 0, 5⟩ ∧
    argMin Contrib.due [⟨0, 1, true, 3, true, 1, 5, 9, 7, false, 1, 5⟩] = some ⟨0, 1, true, 3, true, 1, 5, 9, 7, false, 1, 5⟩ ∧
    argMin Contrib.due [⟨0, 1, false, 1, true, 1, 0, 0, 0, false, 0, 5⟩] = some ⟨0, 1, false, 1, true, 1, 0, 0, 0, false, 0, 5⟩ ∧
    ({ solo0.sump with tapFlight := [⟨0, false, true, 1, 0⟩] } : Sump).tapFlight = [⟨0, false, true, 1, 0⟩] ∧
    solo0.alive = true ∧ solo0.admitted byCmd true Reg.sumpCtl = true ∧ State.reset.edgeActs = false ∧
    (edgeSet (fun e => { e with st := .running }) solo0).edgeActs = true ∧
    solo0.admitted byCmd false Reg.sumpTileor = true ∧ (solo0.reg Reg.sumpCtl).getLsbD 0 = false ∧
    ((solo0.setReg Reg.sumpCtl 1).reg Reg.sumpCtl).getLsbD 0 = true := by decide +kernel

/-! ### Witnesses: registers and ticks -/

theorem witness_RegisterAccess :
    solo0.alive = true ∧ byCmd.src ≠ 15 ∧ byCmd.quiet = false ∧ accessCode solo0 byTask true Reg.tickOffset 4 ≠ 0 ∧
    [Reg.tickOffset, Reg.tickStat, Reg.arrayEdge, Reg.arrayScrub, Reg.arrayEccStat, Reg.mseqStat, Reg.sumpStat, Reg.cisternStat,
      Reg.bulkStat, Reg.ringStat, Reg.edgeStat, Reg.jesdStat, Reg.jesdSysrefDly, Reg.valveStat, Reg.twinStat, Reg.powerStat,
      Reg.clockStat, Reg.pumpIrq, Reg.errorContLog, Reg.pumpRbase].all (solo0.admitted byCmd true) = true ∧
    solo0.admitted bySeq true Reg.seqcoreIrqEn = true ∧
    [Reg.tickOverruns, Reg.tickSkips, Reg.tickLates, Reg.arrayEccCorr, Reg.arrayScrubPasses, Reg.mseqDispatch,
      Reg.mseqPreempt, Reg.pumpDone, Reg.cisternCorr, Reg.cisternColl, Reg.bulkCorr, Reg.ringErrcnt, Reg.ringAged,
      Reg.jesdSrErr, Reg.jesdLaneErr, Reg.valveClips, Reg.twinFailover, Reg.errorContCnt, Reg.errorStPasses].all
      (solo0.admitted byCmd false) = true ∧
    latchedPairs.all (fun a => solo0.admitted byCmd false a && solo0.admitted byCmd false (a + 4)) = true := by
  decide +kernel

def tickSet (f : Tick → Tick) (s : State) : State := { s with tick := f s.tick }
/-- Ticks run: tick 9, third of its frame of four. -/
def ticking (s : State) : State :=
  tickSet (fun t => { t with
    en := true, run := true, period := 64, frameLen := 4, count := 9, cur := 9, inframe := 2, lastB := 640, nextB := 704 }) s

theorem witness_TickGenerator_registers :
    solo0.admitted byCmd true Reg.tickCtl = true ∧ solo0.admitted byCmd true Reg.tickPeriod = true ∧
    solo0.admitted byCmd true Reg.tickFrameLen = true ∧ solo0.tick.en = false ∧ (ticking solo0).tick.en = true ∧
    solo0.alive = true ∧ solo0.mode ≠ .quiescent ∧
    (ticking solo0).admitted byCmd true Reg.tickPeriod = true := by decide +kernel

theorem witness_TickGenerator_events :
    (tickSet (fun t => { t with armed := true, period := 64 }) solo0).devRuns = true ∧ solo0.tick.first = false ∧
    solo0.tick.join = none ∧ solo0.twin.joinCap = none ∧ solo0.twin.join = false ∧ solo0.twin.armStep = 0 ∧
    solo0.jesd.srSeen = false ∧ solo0.alive = true ∧ solo0.mode ≠ .quiescent ∧ solo0.wh.devLost = false ∧
    solo0.running = true ∧ ready0.running = false ∧
    (ticking solo0).devRuns = true ∧ (ticking solo0).tick.coming = true ∧ (ticking solo0).stopped = false ∧
    (ticking solo0).tick.inframe + 1 < (ticking solo0).tick.frameLen ∧ (ticking solo0).twin.digTicks = [] ∧
    (inTick (ticking solo0)).tick.judged = false ∧ (inTick (ticking solo0)).tick.lateDone = false ∧
    (tickSet (fun t => { t with warnEn := true, policy := 2 }) (inTick (ticking solo0))).stopped = false ∧
    ({ solo0.tick with join := some (4, 1, 0) } : Tick).join = some (4, 1, 0) ∧ solo0.twin.inputs = [] ∧
    (tickSet (fun t => { t with first := true, nextB := 7 }) solo0).tick.first = true ∧ solo0.tick.divAt ≤ solo0.tick.nextB ∧
    solo0.mode ≠ .active ∧ solo0.mode ≠ .shadow := by decide +kernel

/-- A TEND that waits may retire in the core cycle of the boundary. -/
theorem witness_TickGenerator_tie :
    (waiting (inTick (ticking solo0)) .tend).waitFree = true ∧ (waiting (inTick (ticking solo0)) .tend).idleBoth true = some 0 ∧
    (waiting (inTick (ticking solo0)) .tend).canReach 0 = true ∧ (inTick (ticking solo0)).tick.held = none ∧
    (ticking solo0).seq.wait ≠ some .tend := by decide +kernel

/-! ### Witnesses: pumps, cisterns, edge fabric -/

/-- Pump 0 is enabled with a ring of four descriptors at the start of cistern 0 and two of them waiting; w0: their first
word's value. -/
def pump0 (w0 : Nat) : State :=
  let s := (((solo0.setReg Reg.pumpCtl 1).setReg Reg.pumpRbase 0x10000000).setReg Reg.pumpRsize 2).setReg Reg.pumpTail 2
  ((s.setMemNat 0x10000000 8 w0).setMemNat 0x10000008 8 0x10040000).setMemNat 0x10000010 8 1
def pumping (d : Desc) (st : PumpSt) (result : Option Nat) : State :=
  { pump0 0 with pump := vset (pump0 0).pump 0 { (pump0 0).pump[0] with desc := some d, st := st, result := result } }
def desc0 (op : Nat) : Desc := { readDesc (pump0 33) 0x10000000 with op := op, addr := 0x10040000 }

theorem witness_PumpCommands :
    solo0.admitted byCmd true (Reg.pumpTail + 0x40 * 15) = true ∧ (pump0 33).pumpsRun = true ∧ (pump0 33).pumpEn 0 = true ∧
    (pump0 33).pump[0].st ≠ .error ∧ (pump0 33).portIso 0 = false ∧ (pump0 33).pump[0].next = none ∧
    (pump0 33).pump[0].desc = none ∧ (pump0 33).pumpWork 0 0 = true ∧ (pump0 33).pumpWork 0 1 = true ∧
    accessCode (pump0 33) (portReq 0) false ((pump0 33).pumpEntry 0 0) 64 = 0 ∧
    accessCode (pump0 33) (portReq 0) false ((pump0 33).pumpEntry 0 1) 64 = 0 ∧
    (readDesc (pump0 0) ((pump0 0).pumpEntry 0 0)).formatOk = false ∧ (pump0 33).arr.live.getLsbD 0 = true ∧
    solo0.admitted byCmd true (Reg.pumpCtl + 0x40 * 15) = true := by decide +kernel

theorem witness_PumpCommands_shift :
    let s := pumping (desc0 1) .shift none
    s.pumpsRun = true ∧ s.pwr.bcast = true ∧ (desc0 1).groupFail s 0 = none ∧ (desc0 2).groupFail s 0 = none ∧
    s.pump[0].turn = [] ∧ s.pump[0].rows = 0 ∧ s.pump[0].judged = false ∧ s.pump[0].j % 8 = 0 ∧ (desc0 2).npl = 1 ∧
    ({ desc0 1 with npl := 9 } : Desc).groupFail s 8 = none ∧ ({ desc0 1 with addr := 0x40000000 } : Desc).groupFail s 0 = some 0 ∧
    (desc0 1).touches 0 0x10040000 = true ∧ regionOf 0x10040000 = some (.cistern 0) ∧ s.fld Reg.cisternColl 15 0 < 65535 := by
  decide +kernel

theorem witness_PumpCommands_end :
    (pumping (desc0 1) .shift (some 3)).pump[0].result = some 3 ∧ (pumping (desc0 1) .shift (some 3)).portIso 0 = false ∧
    accessCode (pumping (desc0 1) .shift (some 3)) (portReq 0) true ((pump0 33).pumpEntry 0 0 + 40) 2 = 0 ∧
    1 ∉ [3, 4, 5, 6, 8] ∧ (readDesc (pump0 33) 0x10000000).formatOk = true ∧
    (readDesc (pump0 33) 0x10000000).inMemory (pump0 33) = true ∧
    ({ readDesc (pump0 33) 0x10000000 with addr := 0x40000000 } : Desc).inMemory (pump0 33) = false := by decide +kernel

/-- The edge fabric runs and owns port B of cistern bank 63. -/
def fabric0 : State :=
  { solo0 with edge := { solo0.edge with st := .running }, cist := { solo0.cist with owner := 1#64 <<< 63, eff := 1#64 <<< 63 } }

theorem witness_CisternCommands :
    fabric0.admitted byCmd true (Reg.cisternPwr + 12) = true ∧ fabric0.cist.chg = [] ∧ fabric0.cist.req = [] ∧
    (∀ i, i < 16 → bits (0x55555554#32).toNat (2 * i + 1) (2 * i) ≠ 3) ∧
    bankCode (bits (0x55555554#32).toNat 1 0) ≠ none ∧ fabric0.mode ≠ .off ∧
    fabric0.admitted byCmd true Reg.cisternPortbOwnerHi = true ∧ fabric0.admitted byCmd true Reg.cisternPortbOwnerLo = true ∧
    fabric0.portBusy 63 = false ∧ fabric0.bayActive 7 = true ∧ fabric0.cist.cw[7].length < 16 ∧
    fabric0.fabricOwns ((0xFFFFF#20).toNat / 16384) = true ∧ fabric0.fabricOwns 0 = false ∧
    fabric0.fld (Reg.cisternColl + 4 * 63) 15 0 < 65535 ∧ fabric0.alive = true ∧ fabric0.mode ≠ .faultHold ∧
    fabric0.admitted byCmd true Reg.cisternSecCtl = true ∧ solo0.bayActive 7 = false ∧
    ({ fabric0.cist with chg := [(63, .retention)] } : Cist).chg = [(63, .retention)] ∧
    ({ fabric0.cist with req := [(63, .on)] } : Cist).req = [(63, .on)] ∧
    ({ fabric0.cist with wiping := true } : Cist).wiping = true := by decide +kernel

/-- Port 7 has a write and a read of bank 63 accepted; then the bank is busy. -/
theorem witness_CisternCommands_busy :
    let s := { fabric0 with cist := { fabric0.cist with
      cw := vset fabric0.cist.cw 7 [⟨1032192, 0, 0, true, false⟩], cr := vset fabric0.cist.cr 7 [⟨1032192, true, true⟩] } }
    s.portBusy 63 = true ∧ s.cist.cw[7] = [⟨1032192, 0, 0, true, false⟩] ∧ s.cist.cr[7] = [⟨1032192, true, true⟩] := by
  decide +kernel

/-- A frame of a configuration image with this CRC. -/
def sealed (n crc : Nat) : BitVec 2048 := BitVec.ofNat 2048 (n + 2 ^ 2016 * crc)
/-- HEADER of a full image, END of one whose CRC so far is all ones; their CRCs (CRC-32, 07 R202) computed apart. -/
def headerFrame : BitVec 2048 := sealed (1 + 2 ^ 32 + 2 ^ 64 * 5616) 0xda5a9e5f
def endFrame : BitVec 2048 := sealed (5 + 2 ^ 18 * 5615) 0xc0458fba
def loadAt (seq : Nat) : EdgeLoad := ⟨false, 0, 0x10000000, seq, false, 0, 0xFFFFFFFF, 0, 0, none⟩
/-- The configuration engine at one frame, with this frame in memory. -/
def loading (l : EdgeLoad) (f : BitVec 2048) : State :=
  let s := solo0.setReg Reg.edgeCfgLen 5616
  { s with
    edge := { s.edge with st := .loading, load := some l }
    mem := (List.range 256).filterMap (fun i =>
      if frameByte f i = 0 then none else some (⟨l.src + 256 * l.seq + i, frameByte f i⟩ : Host.Cell)) }

set_option maxRecDepth 20000 in
theorem witness_EdgeAndSerial_frames :
    frameKind (loading (loadAt 0) headerFrame) (loadAt 0)
      (BitVec.ofNat 2048 ((loading (loadAt 0) headerFrame).memNat 0x10000000 256)) = 0 ∧
    (frameCode (loading (loadAt 0) headerFrame) 0x10000000).2 = 0 ∧ (loadAt 0).seq + 1 < imageLen false ∧
    frameKind solo0 (loadAt 5615) endFrame = 0 ∧ (loadAt 5615).seq + 1 = imageLen false ∧
    frameKind solo0 (loadAt 5615) headerFrame = 2 ∧ frameCrcOk headerFrame = true ∧ frameCrcOk 0 = false := by decide +kernel

set_option maxRecDepth 20000 in
theorem witness_EdgeAndSerial_engine :
    solo0.admitted byCmd true Reg.edgeCfgCmd = true ∧ solo0.mode ≠ .faultHold ∧ solo0.pwr.edgeOn = true ∧
    solo0.edge.st = .unloaded ∧ fabric0.edge.st = .running ∧ fabric0.edge.load = none ∧ fabric0.running = true ∧
    fabric0.admitted byCmd true Reg.edgeCfgCmd = true ∧ solo0.edge.startPend = none ∧
    (edgeSet (fun e => { e with st := .loaded, startPend := some (false, 8, none) }) solo0).edgeAt false 8 none 8 = true ∧
    (edgeSet (fun e => { e with st := .loaded, startPend := some (true, 8, none) }) (ticking solo0)).edgeAt true 8 none 704 = true ∧
    (ticking solo0).edgeAt true 8 (some 640) 640 = true ∧
    (loadAt 1).bay = 0 ∧ fabric0.edgeAt false 0 none 0 = true ∧ fabric0.wh.devLost = false ∧ (fabric0.linkBays 0).contains 0 = true ∧
    solo0.ring.iso.getLsbD 31 = false ∧ solo0.alive = true ∧ State.reset.pwr.edgeOn = false ∧ ready0.running = false ∧
    (edgeSet (fun e => { e with frames := [(5, 0)] }) fabric0).edge.frames.any (·.1 == 5) = true ∧
    frameCrcOk (sget noFrame [(5, 0)] 5) = false ∧ frameCrcOk (sget noFrame [(5, headerFrame)] 5) = true := by
  decide +kernel

/-- Controller i enabled, with a byte to send and its receive FIFO empty. -/
def serial0 (i : Fin 5) (flags : BitVec 4) : State :=
  edgeSet (fun e => { e with ser := e.ser.set i.val ⟨[(7, flags)], [], none⟩ }) (solo0.setReg (Reg.edgeSerCtl + 16 * i.val) 1)

theorem witness_EdgeAndSerial_serial :
    (serial0 4 0).admitted byCmd true (Reg.edgeSerData + 64) = true ∧ bit ((serial0 4 0).reg (Reg.edgeSerCtl + 64)) 0 = true ∧
    bit (solo0.reg (Reg.edgeSerCtl + 64)) 0 = false ∧ (serial0 4 0).admitted byCmd false (Reg.edgeSerData + 64) = true ∧
    (serial0 4 0).admitted byCmd true (Reg.edgeSerCtl + 64) = true ∧ (serial0 4 0).edge.ser[4].tx = [(7, 0)] ∧
    (serial0 2 0).edge.ser[2].tx = [(7, 0)] ∧ (0#4).getLsbD 2 = false ∧ (serial0 3 4).edge.ser[3].tx = [(7, 4)] ∧
    (4#4).getLsbD 2 = true ∧ (serial0 4 0).edge.ser[4].rx.length < 16 ∧
    16 ≤ (List.replicate 16 (0 : Byte)).length := by decide +kernel

/-! ### Witnesses: links and valve -/

/-- Receive and transmit link 0: one lane, one converter of 16 bits, LEMC of 128 cycles. -/
def linked (rx tx : Nat) : State :=
  let s := (fabric0.setReg Reg.jesdRxcfg 0x2000).setReg Reg.jesdTxcfg 0x2000
  { s with jesd := { s.jesd with
      rxEn := 1, txEn := 1, srSeen := true, lemc0 := 0, lock := 1, marker := 1
      rxSt := vset s.jesd.rxSt 0 rx, txSt := vset s.jesd.txSt 0 tx } }

theorem witness_LinkLayers :
    solo0.admitted byCmd true Reg.jesdCtl = true ∧ (linked 2 1).rxLinkOf 0 = some 0 ∧ (linked 2 1).wh.devLost = false ∧
    (linked 2 1).jesd.lock.getLsbD 0 = true ∧ (linked 2 1).jesd.rxSt[0] = 2 ∧ (linked 2 1).jesd.txSt[0] = 1 ∧
    (linked 2 1).host.linkUp = none ∧ cfgLemc ((linked 2 1).rxCfg 0) = 128 ∧ (256 - 0) % 128 = 0 ∧
    (∀ m ∈ cfgLanes ((linked 2 1).rxCfg 0), (linked 2 1).jesd.marker.getLsbD m = true) ∧
    (linked 3 2).jesd.rxSt[0] = 3 ∧ (linked 3 2).lemcAt ((linked 3 2).rxCfg 0)
      (128 - (linked 3 2).fld Reg.jesdRxRbd 11 0) = true ∧ (linked 3 2).fld Reg.jesdRxRbd 11 0 ≤ 128 ∧
    (0 : Nat) ∈ cfgLanes ((linked 3 2).rxCfg 0) ∧ (linked 3 2).fld Reg.jesdLaneErr 15 0 < 65535 ∧
    (linked 3 2).fld Reg.jesdLaneErr 23 16 < 255 ∧ (linked 2 1).jesd.srSeen = true ∧
    (List.range 64).countP (fun i => (BitVec.allOnes 64).getLsbD i == false) = 0 ∧
    (List.range 64).countP (fun i => (0xFFFFFFFFFFFF0000#64).getLsbD i == false) = 16 ∧
    ((1#4).getLsbD 0 = true ∧ (enables 1 1 (fun _ => 0x2000) 250000).1 = 1) := by decide +kernel

/-- The valve with its limits set, in a run whose fabric and ticks run, permitted from the start. -/
def valve0 (f : Valve → Valve) : State :=
  let s := ticking (linked 3 2)
  { s with valve := f { s.valve with
      block := 64, permitPin := true, permitOld := true, slotNext := 700, lim := { s.valve.lim with
        set := true, slot := 100, link := vset s.valve.lim.link 0 ⟨10, 0, 50, 0, 0⟩ } } }

theorem witness_ValveStates :
    (valve0 (fun v => { v with open_ := true, shut := true })).valveCond ≠ 0 ∧ (valve0 id).mode ≠ .quiescent ∧
    (valve0 (fun v => { v with closeBy := some 8 })).valve.closeBy = some 8 ∧ (valve0 id).valve.closeBy = none ∧
    (valve0 id).valve.permits.length ≤ 3 ∧ (valve0 id).valve.permitPin ≠ false ∧ (valve0 id).valve.open_ = false ∧
    (valve0 id).valveCond = 0 ∧ (valve0 id).blockBoundary 640 = true ∧ (valve0 id).twin.lossAt = none ∧
    (valve0 id).tick.run = true ∧ (valve0 id).valve.lim.slot ≠ 0 ∧ (valve0 id).alive = true ∧ (valve0 id).mode ≠ .quiescent ∧
    (valve0 id).admitted hostB true 0x200D03FC = true ∧ isLimit 0x3FC = true ∧ isLimit 0 = true ∧
    (valve0 id).admitted hostB true 0x200D0000 = true ∧ (valve0 id).valve.lock = false ∧
    (valve0 (fun v => { v with lock := true })).admitted hostB true 0x200D0000 = true ∧
    (valve0 id).admitted hostB true Reg.valveCtl = true ∧ (valve0 id).admitted byCmd true Reg.valveShut = true := by
  decide +kernel

theorem witness_BurstLimits :
    (valve0 id).burstAble 0 = true ∧ (valve0 id).valve.link[0].req = false ∧
    (((valve0 id).atD 700).slotsTo 700).burstStarts 0 700 = false ∧ (valve0 id).jesd.txSt[0] = 2 ∧
    (((valve0 (fun v => { v with open_ := true, openAt := 0 })).atD 700).slotsTo 700).burstStarts 0 700 = true ∧
    (linked 3 1).jesd.txSt[0] ≠ 2 ∧
    (nextOf (exec (.burstRequest 0 700 [[1]]) (valve0 (fun v => { v with open_ := true, openAt := 0 })))).isSome = true ∧
    ((valve0 id).reg (Reg.valveClips + 4)).toNat < 2 ^ 32 - 1 ∧
    (let s := valve0 (fun v => { v with
        open_ := true, link := vset v.link 0 { v.link[0] with req := true, start := 690, seen := 10, granting := true, burst := 10 } })
     s.valve.link[0].req && s.valve.link[0].granting && !s.valve.goesOn 0 700) = true := by decide +kernel

/-! ### Witnesses: ring fabric and host -/

def resp0 (urg : Nat) (epoch : Bool) : Resp := ⟨8, 0, 1, 0, 3, true, false, 0, urg, 0, epoch, ⟨[], none, 0⟩⟩
def snoop0 (ty : Nat) (epoch : Bool) : Snoop := ⟨7, 8, 0x40000000, ty, 1, 3, epoch, ⟨[], none, 0⟩⟩
def ringSet (f : Ring → Ring) (s : State) : State := { s with ring := f s.ring }

theorem witness_RingFabric :
    solo0.alive = true ∧ (flit0 1 0x10000000).who.src ≠ 15 ∧ solo0.ring.iso.getLsbD 8 = false ∧ (flit0 1 0x10000000).op = 1 ∧
    accessCode solo0 byCmd false 0x1FF80000 8 ≠ 0 ∧ accessCode solo0 byCmd false 0x10000000 8 = 0 ∧
    accessCode solo0 byCmd true 0x11FFFFF8 8 = 0 ∧ inMem 0x11FFFFF8 8 = true ∧ (flit0 3 0x11FFFFF8).op ≠ 1 ∧
    accessCode solo0 byCmd false 0 8 = 0 ∧ regionOf 0 = some .rom ∧ (flit0 0 0).op = 0 ∧ 3 < (flit0 4 0).op.toNat ∧
    (ringSet (fun r => { r with iso := 0x100 }) solo0).ring.iso.getLsbD 8 = true ∧ errDst byCmd 0x10000000 ≠ 8 := by
  decide +kernel

theorem witness_RingFabric_responses :
    (ringSet (fun r => { r with resp := [resp0 6 false] }) solo0).ring.resp = [resp0 6 false] ∧ (resp0 7 false).code = 0 ∧
    (∃ x ∈ [{ snoop0 1 false with src := 8, granule := 0 }], x.src = (resp0 7 false).src ∧
      x.granule = (resp0 7 false).addr.toNat / 64) ∧
    (ringSet (fun r => { r with resp := [resp0 7 false, resp0 6 false] }) solo0).ring.snoops = [] ∧
    (ringSet (fun r => { r with resp := [resp0 7 false] }) solo0).ring.resp[0]? = some (resp0 7 false) ∧
    (solo0.reg Reg.ringErrcnt).toNat < 2 ^ 32 - 1 ∧ (solo0.reg Reg.ringAged).toNat < 2 ^ 32 - 1 ∧
    (ringSet (fun r => { r with snoops := [snoop0 1 false] }) solo0).ring.snoops[0]? = some (snoop0 1 false) := by decide +kernel

theorem witness_RingFabric_stations :
    solo0.ring.iso.getLsbD 31 = false ∧ solo0.running = true ∧ ready0.running = false ∧
    (ringSet (fun r => { r with drain := 0x80000001 }) solo0).ring.drain.getLsbD 31 = true ∧
    (ringSet (fun r => { r with drain := 0x80000001 }) solo0).ring.drain.getLsbD 0 = true ∧
    solo0.admitted byCmd true Reg.ringEpoch = true ∧
    (∀ r ∈ [resp0 4 false], r.epoch = solo0.ring.epoch) ∧ (∃ r ∈ [resp0 4 true], r.epoch ≠ solo0.ring.epoch) ∧
    (⟨0x40000000, 1, 23, 8, 1, 3, 0⟩ : SnoopFlit).dst.toNat = coreStation .cmd ∧
    (⟨0x40000000, 4, 8, 7, 1, 3, 0⟩ : SnoopFlit).src.toNat = coreStation .cmd ∧ (snoop0 1 false).src = (7#5).toNat ∧
    (snoop0 1 false).granule = (0x40000000#42).toNat ∧ (snoop0 1 false).tag = (1#4).toNat := by decide +kernel

def hring0 (tail : Nat) : HRing := ⟨0, 4, true, tail, 0, 0, false, 0⟩
def hostSet (f : HostIf → HostIf) (s : State) : State := { s with host := f s.host }
/-- Command ring 1 holds a command, reply and event ring have room. -/
def rings0 (s : State) : State :=
  hostSet (fun h => { h with cr := vset h.cr 1 (hring0 1), rp := hring0 0, ev := hring0 0 }) s

theorem witness_HostRings :
    (rings0 solo0).mode ≠ .quiescent ∧ (rings0 solo0).admitted hostA true (Reg.hostifCrTail + 0x60) = true ∧
    (rings0 solo0).host.cr[1].en = true ∧ (rings0 solo0).host.cr[1].stopped = false ∧ (15#13).toNat < 2 ^ (4#4).toNat ∧
    2 ^ (4#4).toNat ≤ (16#13).toNat ∧ solo0.host.cr[0].en = false ∧ solo0.host.held = none ∧
    solo0.admitted hostA true (ringBase 3 + 8) = true ∧ (rings0 solo0).serves = true ∧ (rings0 solo0).host.cur = none ∧
    (rings0 solo0).rpRoom = true ∧ (rings0 solo0).nextRing = some 1 ∧ (slot0 0x30 0).fetched = true ∧
    (slot0 0x30 0).seq = (rings0 solo0).host.cr[1].seq ∧ (slot0 0x30 1).seq ≠ (rings0 solo0).host.cr[1].seq ∧
    knownOpcode solo0.host.rom 0x30 = true ∧ knownOpcode solo0.host.rom 0x7FFF = true ∧
    knownOpcode solo0.host.rom 0x8000 = false ∧ solo0.host.fw = true ∧ (rings0 solo0).evRoom = true ∧ solo0.evRoom = false ∧
    solo0.host.lost = false ∧ solo0.host.evQ = [] ∧ solo0.admitted byCmd true Reg.hostifMsixSend = true := by decide +kernel

/-- The longest read and write that end with window A, and one byte of a bank that is off. -/
theorem witness_HostRings_windows :
    0x1FFF000 + 4096 ≤ 0x2000000 ∧ rangeFail solo0 hostA false 0x11FFF000 4096 = none ∧
    rangeFail solo0 hostA true 0x11FFFE00 512 = none ∧ (List.replicate 512 (1 : Byte)).length = 512 ∧
    (rangeFail State.reset hostA false 0x10000000 1).isSome = true ∧ (rangeFail State.reset hostA true 0x10000000 1).isSome = true ∧
    (0x3C#26).toNat % 64 + 4 ≤ 64 ∧ solo0.ring.iso.getLsbD 15 = false ∧ solo0.alive = true ∧
    (hostSet (fun h => { h with evQ := [(3, 1, 2)] }) (rings0 solo0)).evRoom = true ∧
    (hostSet (fun h => { h with held := some ⟨7, 1, 0, 0, 0, 0, 0, true, true⟩ }) solo0).host.held.isSome = true := by decide +kernel

/-- A command with this opcode is in execution. -/
def serve (op : BitVec 16) (s : State) (total : Nat := 1) (b : Byte := 0) : State :=
  hostSet (fun h => { h with cur := some ⟨1, slot0 op 0 total b⟩ }) s
/-- The same with a reserved flag set, so that its slot is not in order; with a scatter list that cannot be read. -/
def serveBad (op : BitVec 16) (s : State) : State :=
  hostSet (fun h => { h with cur := some ⟨1, { slot0 op 0 with flags := 5 }⟩ }) s
def serveLost (op : BitVec 16) (s : State) : State :=
  hostSet (fun h => { h with cur := some ⟨1, { slot0 op 0 with listRead := false }⟩ }) s
def active0 : State := { solo0 with mode := .active }

theorem witness_HostData :
    (serve 1 solo0).serves = true ∧
    [1, 2, 3, 0x41, 0x40, 0x42, 0x1000, 0x7FFF].all (fun op => (serve (BitVec.ofNat 16 op) solo0).serving op &&
      slotValid (slot0 (BitVec.ofNat 16 op) 0) && !listLost (slot0 (BitVec.ofNat 16 op) 0)) = true ∧
    slotValid (slot0 0x10 0) = true ∧ (serve 0x10 ready0).serving 0x10 = true ∧ (serveBad 0x41 solo0).serving 0x41 = true ∧
    slotValid { slot0 0x41 0 with flags := 5 } = false ∧ (serveLost 0x40 solo0).serving 0x40 = true ∧
    slotValid { slot0 0x40 0 with listRead := false } = true ∧ listLost { slot0 0x40 0 with listRead := false } = true ∧
    dataRange 0x12000000 1 = false ∧ dataRange 0x11FFFFFF 1 = true ∧ slotTotal (slot0 0x41 0 1) = 1 ∧
    rangeFail solo0 (supReq .cmd) false 0x11FFFFFF 1 = none ∧ rangeFail solo0 (supReq .cmd) true 0x11FFFFFF 1 = none ∧
    (rangeFail State.reset (supReq .cmd) true 0x10000000 1).isSome = true ∧ (serve 0x40 active0).serving 0x40 = true ∧
    (serve 0x42 active0).serves = true ∧ (serve 0x42 active0).mirrorWaits = false ∧
    ({ active0.twin with inputs := [⟨3, .seed 1, true, some none⟩] } : Twin).inputs = [⟨3, .seed 1, true, some none⟩] ∧
    (slot0 0x7FFF 0).opcode.toNat ≤ 0x7FFF := by decide +kernel

/-- An image of one section of 64 bytes, of the value x, with this magic, section type, destination and total length; key
slot 0, permitted in every life-cycle state; its trailer follows. -/
def image0 (magic ty dest len x : Nat) : List Byte :=
  leBytes 320 (magic + 2 ^ 32 + 2 ^ 48 + 2 ^ 64 * len + 2 ^ 168 * 15 + 2 ^ 512 * ty + 2 ^ 528 * dest + 2 ^ 576 * 256 +
    2 ^ 608 * 64 + 2 ^ 2048 * x)
/-- 48 bytes, the highest first. -/
def wide48 (n : Nat) : List Byte := (leBytes 48 n).reverse
/-- A key pair's public key; a firmware image with its signature under that key, computed apart from the model; the same
with a signature that is none. -/
def key0 : PubKey :=
  (0x4FD2EF7C1BF5155C41BD6B8467607BF865527A29EA89E0646718EE45E9C599CB932BAA2B1A06411E89E677919977B456,
   0x9C1E77438D01FB8A381D923CF60E0B9526DC241271074AE461514BEB85E3188AC1F044A502EEB8EB38BCCA71ED781007)
def sigR : Nat := 0x6420F2AFE0C29219607A9C65089AA4F8EBB2FDB47B4930419C17E9C3900E1D5D18E7D84A59D7A047AB3FE8D298675EA3
def sigS : Nat := 0xAE5A2F404B3C1D4994CC20A87AF303E225EF58E1E06A7E3CCFA03B1D2BC34489D1C6FB30AEFEF6CE69073D58214BD0B2
def fwImage0 : FwImage := ⟨image0 0x46545653 1 0x1000000000 416 0 ++ wide48 sigR ++ wide48 sigS, true⟩
def fwImage1 : FwImage := ⟨image0 0x46545653 1 0x1000000000 416 0 ++ wide48 sigR ++ wide48 (sigS + 1), true⟩
/-- A workload image and its digest. -/
def wlImage0 (ty dest x : Nat) : WlImage :=
  let b := image0 0x57545653 ty dest 368 x
  ⟨b ++ wide48 (sha384 b).toNat, true, none⟩
def inMode (m : Mode) (s : State) : State :=
  { s with mode := m, wh := { s.wh with flash := { s.wh.flash with keys := 15, pub := vset s.wh.flash.pub 0 key0 } } }

/-- SHA-384 of the three bytes "abc" (FIPS 180-4). -/
theorem test_sha384 : sha384 [0x61, 0x62, 0x63] =
    0xCB00753F45A35E8BB5A03D699AC65007272C32AB0EDED1631A8B605A43FF5BED8086072BA1E7CC2358BAECA134C825A7#384 := by
  decide +kernel

theorem witness_HostImages_prime :
    (serve 4 (inMode .bare ready0) 416).serving 4 = true ∧ (serve 4 (inMode .priming ready0) 416).serves = true ∧
    (inMode .bare ready0).wh.flash.lc ≠ 3 ∧ slotValid (slot0 4 0 416) = true ∧ listLost (slot0 4 0 416) = false ∧
    (serveBad 4 (inMode .priming ready0)).serves = true ∧ slotValid { slot0 4 0 with flags := 5 } = false ∧
    (serve 4 (inMode .priming ready0) 416).primeCheck fwImage0 = 0 ∧ (inMode .priming ready0).ring.iso.getLsbD 7 = false ∧
    (inMode .priming ready0).ring.drain.getLsbD 7 = false ∧ (inMode .priming ready0).ring.dry.getLsbD 7 = false ∧
    (inMode .priming ready0).cist.rdy.getLsbD 0 = true ∧ (inMode .priming ready0).cist.selfRefresh = false ∧
    State.reset.cist.rdy.getLsbD 0 = false ∧ sections fwImage0.raw = [⟨1, 0x1000000000, 256, 64⟩] ∧
    (serve 4 (inMode .priming ready0) 416).primeCheck fwImage1 = 5 := by decide +kernel

theorem witness_HostImages :
    (serve 0x20 ready0 368).serving 0x20 = true ∧ (serve 0x20 ready0 368).serves = true ∧ slotValid (slot0 0x20 0 368) = true ∧
    listLost (slot0 0x20 0 368) = false ∧ slotTotal (slot0 0x20 0 368) = imgLen (wlImage0 20 0 0).raw ∧
    slotTotal (slot0 0x20 0 369) ≠ imgLen (wlImage0 20 0 0).raw ∧ formatOk false (wlImage0 20 0 0).raw = true ∧
    digestOk (wlImage0 20 0 0).raw = true ∧ formatOk false fwImage0.raw = false ∧
    (sections (wlImage0 20 0 0).raw).all Sect.destOk = true ∧ (∀ x ∈ sections (wlImage0 20 0 0).raw, x.ty = 20) ∧
    (sections (wlImage0 20 1 0).raw).all Sect.destOk = false ∧ formatOk false (wlImage0 20 1 0).raw = true ∧
    (sections (wlImage0 18 512 0x80000000).raw).all Sect.destOk = true ∧
    (ready0.verifyImage (wlImage0 18 512 0x80000000).raw).isSome = true := by
  decide +kernel

theorem witness_HostImages_fabric :
    [0x21, 0x22, 0x23, 0x24].all (fun op => slotValid (slot0 (BitVec.ofNat 16 op) 0) && !listLost (slot0 (BitVec.ofNat 16 op) 0)) =
      true ∧ active0.mirrorWaits = false ∧
    (serve 0x21 ready0).serving 0x21 = true ∧ ready0.edge.st = .unloaded ∧ ready0.edge.startPend = none ∧
    (edgeSet (fun e => { e with st := .loaded }) (serve 0x21 ready0)).serving 0x21 = true ∧
    (serve 0x22 ready0).serving 0x22 = true ∧ (serve 0x23 active0).serving 0x23 = true ∧
    (serve 0x24 ready0).serving 0x24 = true ∧ ready0.host.linkUp = none ∧ ready0.putLinks.linksInData = true ∧
    (hostSet (fun h => { h with wlJesd := some ⟨1, [0x42000, 0, 0, 0], [0, 0, 0, 0], [0, 0, 0, 0], 0⟩ }) ready0).putLinks.linksInData =
      false ∧
    (hostSet (fun h => { h with linkUp := some 5 }) (serve 0x24 ready0)).host.linkUp.isSome = true := by decide +kernel

theorem witness_HostRunsAndModes :
    [0x30, 0x31, 0x50, 0x51].all (fun op => slotValid (slot0 (BitVec.ofNat 16 op) 0) && !listLost (slot0 (BitVec.ofNat 16 op) 0)) =
      true ∧ (serve 0x50 ready0).curByte = 0 ∧ (serve 0x50 solo0 1 1).curByte = 1 ∧ slotValid (slot0 0x50 0 1 1) = true ∧
    (serve 0x50 solo0 1 2).curByte = 2 ∧ (serve 0x50 (inMode .faultHold ready0) 1 1).curByte = 1 ∧ (serve 0x50 solo0 1 1).serving 0x50 = true ∧
    (serve 0x30 ready0).serving 0x30 = true ∧ (serve 0x30 ready0).serves = true ∧ ready0.host.runReq = none ∧
    ready0.wh.flash.lc ≠ 2 ∧ (serve 0x31 solo0).serving 0x31 = true ∧ solo0.host.stopReq = false ∧ solo0.running = true ∧
    (serve 0x50 ready0).serving 0x50 = true ∧ (serve 0x50 solo0).serving 0x50 = true ∧
    (serve 0x51 ready0).serving 0x51 = true ∧ (serve 0x51 ready0).idleNow true = true ∧
    ({ serve 0x51 ready0 with mseq := { ready0.mseq with uq := [entry0 true] } } : State).idleNow true = false ∧
    (slot0 0x51 0).replyOk = true ∧ ready0.host.held = none ∧
    (hostSet (fun h => { h with stOpts := some (true, false) }) (serve 0x50 (inMode .selfTest ready0))).cmdDead = false ∧
    (hostSet (fun h => { h with stOpts := some (true, false) }) (serve 0x50 (inMode .selfTest ready0))).serves = true := by
  decide +kernel

theorem witness_HostRunsAndModes_refused :
    [0x04, 0x10, 0x20, 0x21, 0x22, 0x23, 0x24, 0x30, 0x31, 0x40, 0x42, 0x50, 0x51, 0x1234].all (fun op =>
      (serve (BitVec.ofNat 16 op) (inMode .faultHold ready0)).serves &&
        (serve (BitVec.ofNat 16 op) (inMode .faultHold ready0)).serving op) = true ∧
    (slot0 0x30 0).opcode.toNat ≠ 4 := by decide +kernel

/-- From Reset, with PRIME in execution and RUN waiting in command ring 1: start-up, PRIME offered twice, RUN. (The sequencer
core runs already: its start address would be a free value, log 30, that the kernel cannot evaluate.) -/
theorem witness_NoRunWithoutPriming : State.reset.mode = .reset ∧
    (runSteps 5 { rings0 (serve 4 (inMode .reset State.reset) 416) with seq := core0, pending := [
      .startUpSequence ⟨true, true, true, true, 5, 16, false, true, 0⟩, .prime fwImage0, .prime fwImage0,
      .commandStart (slot0 0x30 0), .run 0] }).map (·.mode) = some .solo := by decide +kernel

/-! ### Witnesses: resets, start-up, life cycle -/

theorem witness_Resets :
    solo0.mode ≠ .off ∧ solo0.admitted hostB true Reg.hostifBReset = true ∧ solo0.mode ≠ .quiescent ∧ solo0.alive = true ∧
    (hostSet (fun h => { h with primeTimer := true }) (inMode .priming ready0)).alive = true ∧
    (hostSet (fun h => { h with lcPend := some 1 }) ready0).host.lcPend = some 1 ∧
    ({ solo0.wh with wdEn := true } : Wh).frozen = false ∧ solo0.tapOpen = true ∧ (0 : Word) ≠ 0xD1E5 := by decide +kernel

theorem witness_StartUpAndLifeCycle :
    (inMode .off State.reset).mode = .off ∧ ({ solo0.wh with perstLow := true } : Wh).perstLow = true ∧
    State.reset.mode = .reset ∧ State.reset.wh.seqRun = true ∧ State.reset.wh.perstLow = false ∧
    hotAt 100 State.reset.wh.temps = false ∧ hotAt 100 (List.replicate 64 164) = true ∧ hotAt 100 (List.replicate 64 163) = false ∧
    solo0.wh.tamper = false ∧ ({ solo0.wh with tamper := true } : Wh).tamper = true ∧
    ({ solo0 with wh := { solo0.wh with flash := { solo0.wh.flash with lc := 1 } } } : State).deployed = true ∧
    solo0.admitted hostB true Reg.hostifBLcReq = true ∧
    (0x1C5A0001#32).toNat / 2 ^ 16 = 0x1C5A ∧ (0x1C5A0001#32).toNat / 4 % 4 = solo0.wh.flash.lc.toNat ∧
    solo0.host.lcPend = none ∧ (inMode .solo solo0).wh.flash.keys &&& 0xE ≠ 0 ∧ (0x1C5A0001#32) ≠ 0x10 := by decide +kernel

theorem witness_StepsKeepMemoryForm : solo0.memWf = true ∧ step solo0 = .next solo0 := ⟨by decide +kernel, rfl⟩

/-! ### Witnesses: pairs -/

def twinSet (f : Twin → Twin) (s : State) : State := { s with twin := f s.twin }
/-- A Ready device with a workload, its fabric loaded, RUN waiting for its partner. -/
def forming (role : BitVec 2) : State :=
  twinSet (fun t => { t with state := 1, role := role, link := true })
    (hostSet (fun h => { h with wl := some 0, runReq := some role.toNat })
      (edgeSet (fun e => { e with st := .loaded }) (serve 0x30 (inMode .ready solo0))))
def hello0 (role : BitVec 2) (edgeSt : BitVec 2) (out : Bool) : Hello :=
  ⟨0, 0, 0, 0, 0, 1, solo0.tick.period, solo0.tick.frameLen, 0, 0, (forming 1).linkWords, true, 0, edgeSt, 0, [], role, out, true⟩
/-- A member of a pair in this state. -/
def member (m : Mode) (state : BitVec 3) : State :=
  twinSet (fun t => { t with state := state, link := true, peer := some (hello0 1 2 false) }) (inMode m fabric0)

theorem witness_PairFormation :
    (forming 1).twin.link = true ∧ (forming 1).mode = .ready ∧ (forming 1).twin.state = 1 ∧ (forming 1).twin.peer = none ∧
    (forming 1).host.runReq.isSome = true ∧ (forming 1).pairChecks 1 (hello0 2 2 false) false = true ∧
    (forming 2).pairChecks 2 (hello0 1 3 true) true = true ∧ (forming 1).pairChecks 1 (hello0 1 2 false) false = false ∧
    (forming 1).host.cur.isSome = true ∧
    (hostSet (fun h => { h with wl := some 0 }) (member .active 4)).twin.join = false ∧
    (hostSet (fun h => { h with wl := some 0 }) (member .active 4)).pairChecks 1 (hello0 2 2 false) true = true ∧
    (twinSet (fun t => { t with peer := some (hello0 1 2 false) }) (forming 2)).twin.armStep = 0 ∧
    (forming 2).twin.joinCap = none ∧ (forming 2).tick.en = false := by decide +kernel

theorem witness_PairFormation_events :
    (tickSet (fun t => { t with armed := true, period := 64 }) (twinSet (fun t => { t with joinCap := some 3 }) (forming 2))).devRuns =
      true ∧
    (forming 2).tick.join = none ∧ bit ((solo0.setReg Reg.twinCtl 1).reg Reg.twinCtl) 0 = true ∧ solo0.twin.link = false ∧
    (member .shadow 3).lockstep = true ∧ (member .shadow 2).ckptState = true ∧ (member .shadow 2).levelsEqual = true ∧
    (member .active 2).levelsEqual = true ∧ ({ solo0.tick with run := true, inframe := 0 } : Tick).frame.toNat = 0 ∧
    (member .active 2).twin.lossAt = none ∧ (member .active 2).admitted byCmd true Reg.twinCkptCtl = true ∧
    (member .active 2).twin.ckptSend = none ∧ inMem 0x10000000 (max ([] : List Byte).length 1) = true ∧
    inMem 0x11FFFFFF (max [(1 : Byte)].length 1) = true ∧ (member .shadow 2).twin.link = true ∧
    (twinSet (fun t => { t with ckptRx := some (3, [[1]]) }) ((((member .shadow 2).setReg Reg.twinCkptN 1).setReg
      Reg.twinCkptBaseLo 0x10000000).setMemNat 0x10000000 8 0x11FFFFFF |>.setMemNat 0x10000008 4 1)).ckptTable =
        [(0x11FFFFFF, 1)] := by decide +kernel

/-- A shadow with a copied checkpoint of the frame that begins. -/
theorem witness_PairFormation_lockstep :
    let s := tickSet (fun t => { t with run := true, inframe := 0, lastB := 5 }) (twinSet (fun t => { t with ckptDone := some 0 }) (member .shadow 2))
    s.levelsEqual = true ∧ s.tick.run = true ∧ s.tick.inframe = 0 ∧ s.twin.ckptDone = some s.tick.frame.toNat ∧
    s.twin.lossAt = none ∧ s.twin.state = 2 ∧ s.mode = .shadow ∧ s.twin.inputs = [] ∧ s.stopped = false ∧
    s.tick.inTick = false ∧ s.twin.copyAt < s.tick.lastB ∧ s.alive = true ∧ s.twin.link = true := by decide +kernel

/-- A shadow in the checkpoint state that has lost its peer, at a frame boundary; an active and a shadow member at the
frame of their handover; a member B that owns while its peer does. -/
theorem witness_PairLoss_boundary :
    (let s := tickSet (fun t => { t with inframe := 0 }) (ticking (twinSet (fun t => { t with lossAt := some 5 }) (member .shadow 2)))
     s.ckptState = true ∧ s.twin.ckptRx = none ∧ s.tick.run = true ∧ s.tick.inframe = 0 ∧ s.twin.peerOwn = false ∧
     s.wh.devLost = false ∧ s.fatalSeen = false ∧ s.twin.inputs = [] ∧ s.twin.copyAt + 64 ≤ s.tick.lastB ∧ s.tick.inTick = false) ∧
    (let s := serve 0x31 (twinSet (fun t => { t with handF := some 0 }) (member .active 3))
     s.mode = .active ∧ 0 = s.tick.frame.toNat ∧ s.host.cur.isSome = true) ∧
    (let s := twinSet (fun t => { t with handF := some 0 }) (member .shadow 3)
     s.lockstep = true ∧ s.host.stopReq = false ∧ 0 ≤ s.tick.frame.toNat ∧ s.twin.peerOwn = false) ∧
    (let s := twinSet (fun t => { t with sel := true, peerOwn := true }) (member .active 3)
     s.alive = true ∧ s.txOwn = true ∧ s.twin.peerOwn = true) ∧
    (let s := twinSet (fun t => { t with lossAt := some 5, peerOwn := true }) (member .shadow 3)
     s.mode = .shadow ∧ s.twin.lossAt.isSome = true ∧ s.twin.peerOwn = true ∧ s.twin.handF = none ∧ s.twin.ownForce = false) := by
  decide +kernel

theorem witness_PairLoss :
    (member .active 3).twin.link = true ∧ (member .shadow 2).mode = .shadow ∧ (member .shadow 3).twin.lossAt = none ∧
    (member .shadow 3).alive = true ∧ (member .shadow 3).twin.handF = none ∧
    (twinSet (fun t => { t with lossAt := some 5, ownForce := true }) (member .shadow 3)).lockstep = true ∧
    (twinSet (fun t => { t with lossAt := some 5, ownForce := true }) (member .shadow 3)).fatalSeen = false ∧
    (member .shadow 3).twin.ownForce = false ∧ (member .shadow 3).twin.peerOwn = false ∧ (member .shadow 3).wh.devLost = false ∧
    (member .active 3).txOwn = true ∧ (member .active 3).twin.sel = false ∧
    (ticking (twinSet (fun t => { t with handF := some 1, peerOwn := true }) (member .active 3))).tick.frameAt 1 = 768 ∧
    640 + 128 = 768 ∧ (ticking (member .active 3)).tick.frame.toNat < 1 := by decide +kernel

theorem witness_PairMirroring :
    (member .shadow 3).lockstep = true ∧ (member .shadow 3).twin.link = true ∧ (member .active 3).digesting = true ∧
    (member .shadow 3).digesting = true ∧
    (twinSet (fun t => { t with inputs := [⟨5, .seed 1, false, none⟩] }) (member .active 3)).twin.inputs =
      [] ++ ⟨5, .seed 1, false, none⟩ :: [] ∧
    (⟨1, .seed 1, false, none⟩ : MirIn).t ≤ (member .active 3).tick.count.toNat + 1 ∧
    (∀ y ∈ [(⟨5, .seed 1, true, none⟩ : MirIn)], y.acked = true) ∧
    (tickSet (fun t => { t with count := 300 }) (twinSet (fun t => { t with ownDig := [(1, 7)] }) (member .shadow 3))).digestOverdue =
      true ∧
    (member .shadow 3).twin.peerDig = [] ∧ (member .shadow 3).twin.ownDig = [] ∧ (7 : Dbl) ≠ 8 ∧
    bit (((member .shadow 3).setReg Reg.twinCtl 7).reg Reg.twinCtl) 2 = true := by decide +kernel

/-! ### Witnesses: power, watchdogs, debug -/

def pwrSet (f : Pwr → Pwr) (s : State) : State := { s with pwr := f s.pwr }

theorem witness_PowerDomains :
    solo0.admitted byCmd true Reg.powerFldReq = true ∧ solo0.pwr.chg = [] ∧ solo0.pwr.fld[0] = .on ∧ solo0.pwr.fld[15] = .off ∧
    (∀ g : Fin 16, g ≠ 15 → (0x80000002#32).toNat / 4 ^ g.val % 4 = match solo0.pwr.fld[g] with
      | .off => 0
      | .retain => 1
      | .on => 2) ∧ (0x80000002#32).toNat / 4 ^ (15 : Fin 16).val % 4 = 2 ∧
    ({ solo0 with arr := { solo0.arr with mapOk := false } } : State).fieldDead 15 = true ∧ active0.mode = .active ∧ active0.admitted byCmd true Reg.powerFldReq = true ∧
    (pwrSet (fun p => { p with chg := [(15, .on)], req := 0x80000002 }) solo0).arr.live.getLsbD 15 = false ∧
    (pwrSet (fun p => { p with chg := [(0, .retain)], req := 1 }) solo0).arr.live.getLsbD 0 = true ∧
    bits (0x80000002#32).toNat 31 30 = 2 ∧ solo0.admitted byCmd true Reg.powerDom = true ∧
    ready0.admitted byCmd true Reg.powerDom = true ∧ ready0.pwr.fld.any (· == .on) = false ∧ solo0.pwr.edgeOn = true ∧
    ready0.pwr.edgeOn = false ∧ (inMode .quiescent ready0).mode = .quiescent := by decide +kernel

/-- A repair map without a bad row. -/
def mapped : State :=
  { solo0 with
    arr := { solo0.arr with mapOk := true, mapCopy := false }
    wh := { solo0.wh with flash := { solo0.wh.flash with copy0 := some [], copy1 := some [] } } }
theorem witness_PowerDomains_alive : mapped.fieldDead 15 = false := by decide +kernel

def guarded : State := solo0.setReg Reg.seqcoreWdogCtl 1

theorem witness_WatchdogsAndErrors :
    solo0.admitted bySeq true (Reg.seqcoreWdogCtl + coreBase .seq) = true ∧ bit (solo0.reg Reg.seqcoreWdogCtl) 0 = false ∧
    bit (guarded.reg Reg.seqcoreWdogCtl) 0 = true ∧ solo0.admitted bySeq true (Reg.seqcoreWdogKick + coreBase .seq) = true ∧
    (0xFFFF6B1C#32).toNat % 2 ^ 16 = 0x6B1C ∧ guarded.wdogRuns .seq = true ∧ guarded.seq.wdFired = false ∧
    guarded.fld (Reg.seqcoreFatal + coreBase .seq) 2 0 = 0 ∧ solo0.admitted bySeq true (Reg.seqcoreIrqSet + coreBase .seq) = true ∧
    solo0.admitted byCmd true Reg.seqcoreRel = true ∧ solo0.seq.run = true ∧ Core.reset.run = false ∧
    solo0.admitted byCmd true Reg.wellheadWdog = true ∧ solo0.admitted byCmd true Reg.wellheadWdogKick = true := by decide +kernel

theorem witness_WatchdogsAndErrors_events :
    (List.replicate 64 (174 : Byte)).length = 64 ∧ (∃ x ∈ List.replicate 64 (164 : Byte), 164 ≤ x.toNat) ∧
    (∀ x ∈ List.replicate 64 (158 : Byte), x.toNat < 159) ∧
    hotSet (List.replicate 64 (174 : Byte)) = 2 ^ 64 - 1 ∧
    (let w := { solo0.wh with temps := List.replicate 64 174, hot := 2 ^ 64 - 1 }
     w.hot = hotSet w.temps ∧ w.trip = false) ∧ solo0.wh.alert = false ∧ solo0.wh.trip = false ∧ solo0.wh.hot = 0 ∧
    (solo0.setReg Reg.errorFatal 1).fatalSeen = true ∧ solo0.mode ≠ .faultHold ∧ (serve 0x30 solo0).cmdDead = false ∧
    (slot0 0x30 0).opcode.toNat ∉ [1, 2, 3, 0x41] ∧ (slot0 0x41 0).opcode.toNat ∈ [1, 2, 3, 0x41] ∧
    solo0.running = true ∧ bit ((solo0.setReg Reg.errorStStat 2).reg Reg.errorStStat) 1 = true ∧
    solo0.tick.inTick = false ∧ (solo0.setReg Reg.errorStStat 2).idleNow true = true ∧
    (solo0.setReg Reg.errorStStat 2).mayDispatch = true ∧ (solo0.reg Reg.errorStPasses).toNat < 2 ^ 32 - 1 := by decide +kernel

def haltedCores (s : State) : State := { s with seq := { s.seq with halted := true }, cmd := { s.cmd with halted := true } }

theorem witness_RunControl :
    solo0.admitted byCmd true (dbgOf .seq Reg.dbgCtl) = true ∧ active0.admitted portReq24 true (dbgOf .cmd Reg.dbgCtl) = true ∧
    solo0.seq.halted = false ∧ solo0.seq.haltReq = 0 ∧ (haltedCores solo0).admitted byCmd true (dbgOf .seq Reg.dbgCtl) = true ∧
    ({ haltedCores solo0 with mode := .halted, leftMode := .solo } : State).admitted byCmd true (dbgOf .seq Reg.dbgCtl) = true ∧
    solo0.coreDown .seq = false ∧ solo0.seq.run = true ∧ ({ solo0.seq with haltReq := 7 } : Core).haltReq < 8 ∧
    ({ solo0.cmd with stepping := true, wfi := true } : Core).wfi = true ∧ solo0.alive = true ∧
    inMem (((haltedCores solo0).setReg (dbgOf .cmd Reg.dbgMaddrLo) 0x10000007).addr48 (dbgOf .cmd Reg.dbgMaddrLo) / 1 * 1) 1 = true ∧
    accessCode solo0 ⟨coreStation .cmd, true, false, true, true⟩ false 0x10000000 1 = 0 ∧
    accessCode solo0 ⟨coreStation .cmd, true, false, true, false⟩ true 0x10000000 8 = 0 := by decide +kernel

theorem witness_RunControl_registers :
    [dbgOf .cmd Reg.dbgRegHi, dbgOf .cmd Reg.dbgRegLo, dbgOf .seq Reg.dbgRegHi, dbgOf .seq Reg.dbgRegLo, Reg.dbgGlb,
      dbgOf .cmd Reg.dbgTxd, dbgOf .seq Reg.dbgRxd].all (solo0.admitted byCmd true) = true ∧
    [dbgOf .cmd Reg.dbgRegHi, dbgOf .seq Reg.dbgRegLo, dbgOf .cmd Reg.dbgTxd, dbgOf .seq Reg.dbgRxd].all
      (solo0.admitted byCmd false) = true ∧
    (solo0.setReg (dbgOf .cmd Reg.dbgRegSel) 31).fld (dbgOf .cmd Reg.dbgRegSel) 9 0 = 31 ∧
    ({ ready0.mseq with brk := some (1, 2) } : Mseq).brk.isSome = true ∧ ready0.mseq.brk = none ∧ ready0.wh.flash.lc ≠ 1 ∧
    solo0.seq.txd.length < 64 ∧ 64 ≤ (List.replicate 64 (0 : Byte)).length := by decide +kernel

def lcSet (lc : BitVec 2) (s : State) : State := { s with wh := { s.wh with flash := { s.wh.flash with lc := lc, keys := 15 } } }
def dbgSet (f : Dbg → Dbg) (s : State) : State := { s with dbg := f s.dbg }

theorem witness_TestAccessPort :
    solo0.tapOpen = true ∧ (lcSet 1 solo0).tapOpen = false ∧ (lcSet 1 solo0).wh.flash.lc = 1 ∧ (lcSet 3 solo0).tapOpen = false ∧
    (dbgSet (fun d => { d with unlocked := 2 }) (lcSet 1 ready0)).tapOpen = true ∧ 0x20120000 + 4 * 1 ≠ Reg.dbgLock ∧
    State.reset.tapOpen = true ∧ State.reset.mode = .reset ∧
    accessCode (ringSet (fun r => { r with iso := 0xFFFFFFFF }) solo0) portReq24 false Reg.dbgGlb 4 = 4 ∧ accessCode solo0 portReq24 true Reg.dbgGlb 4 = 0 ∧
    (dbgSet (fun d => { d with fails := 3 }) (lcSet 1 solo0)).dbg.fails = 3 ∧ solo0.dbg.unlocked = 0 ∧ solo0.dbg.nonce = none ∧
    (dbgSet (fun d => { d with unlocked := 1, respHeld := some (3, 0, 0, 0) }) (lcSet 1 solo0)).dbg.respHeld = some (3, 0, 0, 0) ∧
    (dbgSet (fun d => { d with nonce := some 9 }) (lcSet 1 solo0)).dbg.nonce = some 9 ∧ State.reset.mode ≠ .off ∧
    (3#8).toNat ≤ 3 ∧ (lcSet 1 solo0).wh.flash.keys.getLsbD 3 = true := by decide +kernel

/-- A signature, computed apart from the model, of 40 bytes of 0 (a nonce and a serial number of 0) under the key of slot 3. -/
theorem witness_TestAccessPort_unlock :
    let f := { (lcSet 1 solo0).wh.flash with pub := vset solo0.wh.flash.pub 3 key0, serial := 0 }
    f.keys.getLsbD (3#8).toNat = true ∧ f.pub[(3#8).toNat]? = some key0 ∧
    ecdsaOk key0 (sha384 (leBytes 32 (0#256).toNat ++ leBytes 8 f.serial.toNat))
      0x46338CA671079C221E561A24DEEB0A92E028CDEA0F4E5EFE08885140465EA328FA53455545B174449D37872E047979C0
      0xBA2E95F9159CB7BC1CEA5B7519D78328A6F9994DC93DDD408A04281B53DF5A0519E6588014C0853836D76887742BFD70 = true := by
  decide +kernel

/-! ### Decoding: words written out from the encodings of 05 R146, R147, 09 R251 to R254 and 10 R281, R283, R296 -/

theorem test_decode_integer :
    -- major 1, rd 1, ra 2, rb 3, W, operation 1; major 2, rd 5, ra 6, imm −1; major 7, rd 3, op 2, imm; the word 0
    decodeTableWord 32 0b00000100001000100001110000000001 = some (.sub ⟨.seq, true, 1, 2, 3⟩) ∧
    decodeTableWord 32 0b00001000101001101111111111111111 = some (.addi ⟨.seq, 5, 6, 0xFFFF⟩) ∧
    decodeTableWord 32 0b00011100011010000001001000110100 = some (.shin .seq 3 0x1234) ∧ decodeTableWord 32 0 = none := by decide
theorem test_decode_memory_and_branches :
    -- major 0x16, rd 1, ra 3, imm 8; major 0x20, cond 9, offset −2; major 0x25, ra 4, CBNZ, offset 1; major 0x0A func 3, code 5
    decodeTableWord 32 0b01011000001000110000000000001000 = some (.ld ⟨⟨.seq, 1, 3, 8⟩, noEv⟩) ∧
    decodeTableWord 32 0b10000010011111111111111111111110 = some (.bCond .seq 9 (-2)) ∧
    decodeTableWord 32 0b10010100100100000000000000000001 = some (.cbnz .seq 4 1) ∧
    decodeTableWord 32 0b00101000101000000000000000000011 = some (.trap .seq 5 none) := by decide
theorem test_decode_float_and_vector :
    -- major 0x28, D, RM 7, op 0; major 0x2F, K 1, EW 2, op 2; major 0x31, op 8 with EW 1: illegal
    decodeTableWord 32 0b10100000001000100001111110000000 = some (.fadd ⟨.seq, true, 7, 1, 2, 3⟩) ∧
    decodeTableWord 32 0b10111100001000100001100110000010 = some (.vmul ⟨.seq, 1, 2, 1, 2, 3⟩) ∧
    decodeTableWord 32 0b11000100001000100000000001001000 = none := by decide
theorem test_decode_array :
    -- major 0x39, routine 513, pd 1, ps1 2, ps2 3, s 4, SV; major 0x3A, minor 5, pointer 2, immediate −1; minor 6
    decodeTableWord 32 0b11100110000000010001001000111001 = some (.issu .seq 513 1 2 3 4 true) ∧
    decodeTableWord 32 0b11101001010000000100111111111111 = some (.ppadd .seq 2 0xFFF) ∧
    decodeTableWord 32 0b11101001100000000000000000000000 = none := by decide

/-! ### One step, with the result the specification gives

Expected values come from the specification's tables and examples, or from hand calculation by its rules. -/

/-- The command core after a command on a state whose command core has these g2 and g3. -/
def after (g2 g3 : Dbl) (i : Instr) : Option Core :=
  (nextOf (exec i (withCore (fun k => { k with g := vset (vset k.g 2 g2) 3 g3 })))).map (·.cmd)

/-- g1 and N, Z, C, V as bits 3 to 0. -/
def g1f (k : Option Core) : Option (Dbl × Nat) := k.map (fun k => (k.g[1], k.pstat.toNat % 16))

/-- 2^64 − 1 + 1 is 0 with Z and C; in W form 2^31 − 1 + 1 is negative with V. -/
theorem test_add :
    g1f (after 0xFFFFFFFFFFFFFFFF 1 (.add ⟨.cmd, false, 1, 2, 3⟩)) = some (0, 6) ∧
    g1f (after 0x7FFFFFFF 1 (.add ⟨.cmd, true, 1, 2, 3⟩)) = some (0xFFFFFFFF80000000, 9) := by decide +kernel
/-- 0 − 1 borrows; the pc moves on by 4; a write of g0 is lost. -/
theorem test_sub :
    g1f (after 0 1 (.sub ⟨.cmd, false, 1, 2, 3⟩)) = some (0xFFFFFFFFFFFFFFFF, 10) ∧
    (after 0 1 (.sub ⟨.cmd, false, 0, 2, 3⟩)).map (fun k => (k.gr 0, k.pc)) = some (0, 0x10000104) := by decide +kernel
/-- −1 × 2: the high half, signed and unsigned. -/
theorem test_mulh :
    (g1f (after 0xFFFFFFFFFFFFFFFF 2 (.mulhs ⟨.cmd, false, 1, 2, 3⟩))).map (·.1) = some 0xFFFFFFFFFFFFFFFF ∧
    (g1f (after 0xFFFFFFFFFFFFFFFF 2 (.mulhu ⟨.cmd, false, 1, 2, 3⟩))).map (·.1) = some 1 := by decide +kernel
/-- A shift by 127 leaves sign bits only and the sign in C (09 R256). -/
theorem test_shra :
    g1f (after 0x8000000000000000 127 (.shra ⟨.cmd, false, 1, 2, 3⟩)) = some (0xFFFFFFFFFFFFFFFF, 10) := by decide +kernel
/-- −7 ÷ 2 is −3, remainder −1 (09 R258). -/
theorem test_division :
    let k := (Nat.repeat Core.divStep 32 { core0 with dvQ := 0xFFFFFFF9, dvR := 2, dvSt := 0xC000000000000000 })
    k.dvQ = 0xFFFFFFFFFFFFFFFD ∧ k.dvR = 0xFFFFFFFFFFFFFFFF := by decide +kernel
/-- BEQ back by two words, taken and not taken. -/
theorem test_b_cond :
    ((nextOf (exec (.bCond .cmd 0 (-2)) (withCore (·.setPs 2 true)))).map (·.cmd.pc)) = some 0x100000F8 ∧
    ((nextOf (exec (.bCond .cmd 0 (-2)) ready0)).map (·.cmd.pc)) = some 0x10000104 := by decide +kernel
/-- TRAP 5: cause 8, the frame's doublewords 6 and 7, the entry at VBASE + 64 (09 R260, R262). -/
theorem test_trap :
    ((nextOf (exec (.trap .cmd 5 none) ready0)).map (fun t =>
      (t.cmd.pc.toNat - t.cmd.vbase.toNat, t.cmd.ssp, t.cmd.synd, t.memNat 0x10007FF0 6, t.memNat 0x10007FFE 1))) =
    some (64, 0x10007FC0, 5, 0x10000100, 8) := by decide +kernel
/-- SB of 0x80 read back sign-extended by LB. -/
theorem test_byte_store_load :
    ((nextOf (exec (.sb ⟨.cmd, 2, 3, 0⟩)
        (withCore (fun k => { k with g := vset (vset k.g 2 0x180) 3 0x10000201 })))).bind (fun t =>
      nextOf (exec (.lb (load0 calm)) t))).map (fun t => (t.memNat 0x10000200 4, t.cmd.g[1])) =
    some (0x8000, 0xFFFFFFFFFFFFFF80) := by decide +kernel
/-- VADD of bytes under predicate k1: element 1 only, and it wraps. -/
theorem test_vadd :
    (nextOf (exec (.vadd ⟨.cmd, 1, 0, 1, 2, 3⟩) (withCore (fun k =>
      { k with vl := 3, k := vset k.k 1 2, v := vset (vset (vset k.v 1 0x111111) 2 0x01FF01) 3 0x010201 })))).map
      (fun t => t.cmd.v[1]) = some 0x110111 := by decide +kernel
/-- A posted-free write of 8 bytes answers OK, and a read of them gives the data in its lane (11 R306, R307). -/
theorem test_request :
    ((nextOf (exec (.request ⟨bySeq, 2, 7, 0x10000008, 8, 0x0102030405060708#512 <<< 64, .clean, false, 0, 0⟩) ready0)).bind
      (fun t => nextOf (exec (.request ⟨bySeq, 1, 8, 0x10000008, 8, 0, .clean, false, 0, 0⟩) t))).map
      (fun t => (t.memNat 0x10000008 2, t.ring.resp.map (fun r => (r.tag, r.code, r.data.toNat / 2 ^ 64)))) =
    some (0x0708, [(7, 0, 0), (8, 0, 0x0102030405060708)]) := by decide +kernel

/-- The worked routes of 11 R312: 0 to 7 with more credits anticlockwise, over the dateline, 13 cycles; 0 to 30 by bridge
0, 8 cycles. -/
theorem test_route :
    routeOf 0 2 0 0 7 = ⟨[⟨0, 7, true, 1⟩], none, 13⟩ ∧
    routeOf 0 0 0 0 30 = ⟨[⟨0, 0, false, 0⟩, ⟨0, 14, true, 1⟩], some 0, 8⟩ := by decide +kernel

/-! The table of 10 R292, binary32: M and s are 0x7F7FFFFF and 1; rm 0 NEV, 1 NAW, 2 TZR, 3 TPI, 4 TNI. -/

theorem test_float_overflow :
    [0, 2, 4, 3, 1].map (fun rm => fmt32.add rm 0x7F7FFFFF 0x7F7FFFFF) =
      [(0x7F800000, 20), (0x7F7FFFFF, 20), (0x7F7FFFFF, 20), (0x7F800000, 20), (0x7F800000, 20)] ∧
    [0, 2, 4, 3, 1].map (fun rm => fmt32.add rm 0x7F7FFFFF 1) =
      [(0x7F7FFFFF, 16), (0x7F7FFFFF, 16), (0x7F7FFFFF, 16), (0x7F800000, 20), (0x7F7FFFFF, 16)] := by decide +kernel
theorem test_float_underflow :
    [0, 2, 4, 3, 1].map (fun rm => fmt32.mul rm 1 0x3F000000) = [(0, 24), (0, 24), (0, 24), (1, 24), (1, 24)] ∧
    [0, 2, 4, 3, 1].map (fun rm => fmt32.mul rm 1 1) = [(0, 24), (0, 24), (0, 24), (1, 24), (0, 24)] ∧
    [0, 2, 4, 3, 1].map (fun rm => fmt32.fma rm 1 0x3F000000 1) =
      [(2, 24), (1, 24), (1, 24), (2, 24), (2, 24)] := by decide +kernel
theorem test_float_zero_sign :
    [0, 2, 4, 3, 1].map (fun rm => fmt32.sub rm 1 1) = [(0, 0), (0, 0), (0x80000000, 0), (0, 0), (0, 0)] ∧
    fmt32.fma 0 0x7F7FFFFF 0x40000000 0xFF7FFFFF = (0x7F7FFFFF, 0) ∧ fmt32.mul 0 1 0x7F7FFFFF = (0x34FFFFFF, 0) := by
  decide +kernel
theorem test_float_root :
    [0, 2, 4, 3, 1].map (fun rm => fmt32.sqrt rm 0x7F7FFFFF) =
      [(0x5F7FFFFF, 16), (0x5F7FFFFF, 16), (0x5F7FFFFF, 16), (0x5F800000, 16), (0x5F7FFFFF, 16)] ∧
    [0, 3].map (fun rm => fmt32.sqrt rm 1) = [(0x1A3504F3, 16), (0x1A3504F4, 16)] ∧
    fmt64.sqrt 0 1 = (0x1E60000000000000, 0) := by decide +kernel
theorem test_float_convert :
    [0, 2, 4, 3, 1].map (fun rm => Fmt.cvt fmt64 fmt32 rm 0x7FEFFFFFFFFFFFFF) =
      [(0x7F800000, 20), (0x7F7FFFFF, 20), (0x7F7FFFFF, 20), (0x7F800000, 20), (0x7F800000, 20)] ∧
    Fmt.cvt fmt32 fmt64 0 0x7F7FFFFF = (0x47EFFFFFE0000000, 0) ∧ Fmt.cvt fmt32 fmt64 0 1 = (0x36A0000000000000, 0) ∧
    [0, 2, 4, 3, 1].map (fun rm => fmt32.toInt rm 0 (2 ^ 64 - 1) 0x80000001) =
      [(0, 16), (0, 16), (0, 1), (0, 16), (0, 16)] := by decide +kernel

/-- D and V of a routine in one lane of 8 bits. -/
def lane8 (rtn x y : Nat) : Nat × Bool := ((laneFn rtn 8 8 3 x y 0).d, (laneFn rtn 8 8 3 x y 0).v)

/-- The rows of 04 R134 for division. -/
theorem test_array_division :
    lane8 20 0x80 0xFF = (0x80, true) ∧ lane8 22 0x80 0xFF = (0, true) ∧ lane8 19 200 0 = (0xFF, true) ∧
    lane8 21 200 0 = (200, true) ∧ lane8 20 0xF9 2 = (0xFD, false) ∧ lane8 22 0xF9 2 = (0xFF, false) ∧
    lane8 20 7 0xFE = (0xFD, false) ∧ lane8 22 7 0xFE = (1, false) := by decide +kernel
/-- The rows of 04 R134 for shifts and POPC with w = 3. -/
theorem test_array_shifts :
    lane8 23 0x81 1 = (2, true) ∧ lane8 23 0x81 8 = (0, true) ∧ lane8 23 0x81 9 = (0, false) ∧
    lane8 24 0x81 8 = (0, true) ∧ lane8 25 0x81 7 = (0xFF, false) ∧ lane8 25 0x81 8 = (0xFF, true) ∧
    lane8 25 0x81 127 = (0xFF, true) ∧ lane8 25 0x41 127 = (0, false) ∧ ((lane8 31 0xFF 0).1 % 8, (lane8 31 0xFF 0).2) = (0, true) := by
  decide +kernel
/-- The check value of 13 R361. -/
theorem test_crc64 : crc64 ("123456789".toList.map (fun c => BitVec.ofNat 8 c.toNat)) = 0x6C40DF5F0B497347 := by
  decide +kernel

end Sys2Proof.Tests
end

section
/-! Register accesses as commands: a write that an access type decides, a read that clears, a pair of words of which the
low one holds the high one (00 R8 to R10; 15 R407, R408). -/
namespace Sys2Proof.Machine

/-! ### Requests of the stations other than the host's -/

/-- Only the host interface's request wakes the device (14 R381). -/
theorem State.fromHost_of_ne_host (s : State) {q : Requester} (hq : q.src ≠ 15) : s.fromHost q = s := if_neg hq

theorem State.admitted_iff {s : State} {q : Requester} {write : Bool} {a : Nat} :
    s.admitted q write a = true ↔ s.alive = true ∧ accessCode s q write a 4 = 0 := by
  simp [State.admitted]

/-! ### What the log of a refusal leaves alone -/

/-- Counting an event changes stored words only. -/
theorem State.countEv_regs (s : State) (a hi lo oa ob n : Nat) :
    ∃ l, s.countEv a hi lo oa ob n = { s with regs := l } := by
  unfold State.countEv
  by_cases hn : n = 0
  · exact ⟨s.regs, if_pos hn⟩
  · rw [if_neg hn]
    dsimp only
    split
    · exact ⟨_, rfl⟩
    · exact ⟨_, rfl⟩

theorem State.countWord_regs (s : State) (a oa ob n : Nat) : ∃ l, s.countWord a oa ob n = { s with regs := l } :=
  s.countEv_regs a 31 0 oa ob n

theorem logResponse_regs (s : State) (q : Requester) (a tag code : Nat) :
    ∃ l, logResponse s q a tag code = { s with regs := l } := by
  obtain ⟨l, hl⟩ := s.countWord_regs Reg.ringErrcnt Reg.ringStat 4 1
  unfold logResponse
  rw [hl]
  split
  · exact ⟨s.regs, rfl⟩
  · dsimp only
    split
    · exact ⟨l, rfl⟩
    · unfold State.setReg
      exact ⟨_, rfl⟩

/-- The log of a refusal is stored words and a free tag. -/
theorem logUntagged_regs (s : State) (q : Requester) (a code : Nat) :
    ∃ l n, logUntagged s q a code = { s with regs := l, free := n } := by
  unfold logUntagged
  split
  · exact ⟨s.regs, s.free, rfl⟩
  · obtain ⟨l, hl⟩ := logResponse_regs (s.useFree 1) q a (Config.freeNat s.free % 256) code
    exact ⟨l, _, hl⟩

/-- A refused write changes nothing but the log of its refusal (11 R323). -/
theorem execRegisterWrite_refused {s : State} {q : Requester} {a : BitVec 48} (v ev : Word) (hal : s.alive = true)
    (hq : q.src ≠ 15) (hc : accessCode s q true a.toNat 4 ≠ 0) :
    execRegisterWrite q a v ev s = .next (logUntagged s q a.toNat (accessCode s q true a.toNat 4)) := by
  have hr : refuse s q true a.toNat (accessCode s q true a.toNat 4) =
      logUntagged s q a.toNat (accessCode s q true a.toNat 4) := if_neg hq
  unfold execRegisterWrite
  rw [State.fromHost_of_ne_host s hq, regWrite_refused _ hal hc, hr]
  obtain ⟨l, n, hlog⟩ := logUntagged_regs s q a.toNat (accessCode s q true a.toNat 4)
  rw [hlog]
  exact done_keep rfl rfl

/-! ### States that differ in one stored word -/

/-- t is s with the word w stored at a; w may be what a held before. -/
structure State.Stores (s : State) (a : Nat) (w : Word) (t : State) : Prop where
  frame : t = { s with regs := t.regs }
  others : ∀ b, b ≠ a → t.reg b = s.reg b
  word : t.reg a = w

theorem State.stores_setReg (s : State) (a : Nat) (w : Word) : s.Stores a w (s.setReg a w) :=
  ⟨rfl, fun b hb => s.setReg_reg_other a b w hb, s.setReg_reg_same a w⟩

theorem State.stores_self (s : State) (a : Nat) : s.Stores a (s.reg a) s := ⟨rfl, fun _ _ => rfl, rfl⟩

theorem State.Stores.trans {s t u : State} {a : Nat} {w w' : Word} (h : s.Stores a w t) (h' : t.Stores a w' u) :
    s.Stores a w' u := by
  refine ⟨?_, fun b hb => (h'.others b hb).trans (h.others b hb), h'.word⟩
  rw [h'.frame, h.frame]

theorem State.Stores.done_eq {s t : State} {a : Nat} {w : Word} (h : s.Stores a w t) : done s t = .next t :=
  done_keep (by rw [h.frame]) (by rw [h.frame])

/-! ### Writes by access type (00 R8, R9, R10) -/

/-- What a write of v leaves of the word old: the bits of rw stored, those of w1c cleared where v has 1. -/
def plainWord (rw w1c old v : Word) : Word := (old &&& ~~~rw &&& ~~~(v &&& w1c)) ||| (v &&& rw)

theorem State.plainWrite_stores (s : State) {a : Nat} {r : RegRow} (hr : regRow a = some r) (v : Word) :
    s.Stores a (plainWord (w32 r.rw) (w32 r.w1c) (s.reg a) v) (s.plainWrite a v) := by
  simp only [State.plainWrite, hr]
  exact s.stores_setReg _ _

theorem State.keepW1c_stores (s old : State) {a : Nat} {r : RegRow} (hr : regRow a = some r)
    (hseq : a ≠ Reg.seqcoreIrqPend) (hcmd : a ≠ Reg.seqcoreIrqPend + 0x10000) (ev : Word) :
    s.Stores a (s.reg a ||| (ev &&& w32 r.w1c &&& old.regWord a true)) (s.keepW1c old a ev) := by
  simp only [State.keepW1c, hr, hseq, hcmd, if_false]
  split
  case isTrue hon =>
    rw [hon, show s.reg a ||| 0 = s.reg a from BitVec.or_zero]
    exact s.stores_self a
  case isFalse => exact s.stores_setReg _ _

theorem w32_getLsbD (n : Nat) {i : Nat} (hi : i < 32) : (w32 n).getLsbD i = n.testBit i := by
  rw [w32, BitVec.getLsbD_ofNat, decide_eq_true hi, Bool.true_and]

theorem plainWord_getLsbD (rw w1c : Nat) (old v : Word) {i : Nat} (hi : i < 32) :
    (plainWord (w32 rw) (w32 w1c) old v).getLsbD i =
      if rw.testBit i then v.getLsbD i else old.getLsbD i && !(w1c.testBit i && v.getLsbD i) := by
  simp only [plainWord, BitVec.getLsbD_or, BitVec.getLsbD_and, BitVec.getLsbD_not, w32_getLsbD _ hi, hi]
  cases rw.testBit i <;> cases w1c.testBit i <;> simp

/-- A bit for which no event comes, or that no write clears, is as the write leaves it. -/
theorem plainWord_event_getLsbD (rw w1c : Nat) (old shown v ev : Word) {i : Nat} (hi : i < 32)
    (h : ev.getLsbD i = false ∨ w1c.testBit i = false) :
    (plainWord (w32 rw) (w32 w1c) old v ||| (ev &&& w32 w1c &&& shown)).getLsbD i =
      if rw.testBit i then v.getLsbD i else old.getLsbD i && !(w1c.testBit i && v.getLsbD i) := by
  have hnone : (ev &&& w32 w1c &&& shown).getLsbD i = false := by
    rw [BitVec.getLsbD_and, BitVec.getLsbD_and, w32_getLsbD _ hi]
    rcases h with hev | hw1c
    · rw [hev, Bool.false_and, Bool.false_and]
    · rw [hw1c, Bool.and_false, Bool.false_and]
  rw [BitVec.getLsbD_or, hnone, Bool.or_false, plainWord_getLsbD _ _ _ _ hi]

/-- A W1C bit that stood at 1 and for which an event comes stays, whatever is written. -/
theorem event_keeps_bit (w : Word) {w1c : Nat} {shown ev : Word} {i : Nat} (hi : i < 32) (hev : ev.getLsbD i = true)
    (hw1c : w1c.testBit i = true) (hshown : shown.getLsbD i = true) :
    (w ||| (ev &&& w32 w1c &&& shown)).getLsbD i = true := by
  rw [BitVec.getLsbD_or, BitVec.getLsbD_and, BitVec.getLsbD_and, w32_getLsbD _ hi, hev, hw1c, hshown, Bool.and_true,
    Bool.and_true, Bool.or_true]

/-- In every state the register at a reads 1 wherever the stored word has one among the bits of w1c. -/
def ShowsW1c (a w1c : Nat) : Prop :=
  ∀ (s : State) (i : Nat), w1c.testBit i = true → (s.reg a).getLsbD i = true → (s.regWord a true).getLsbD i = true

theorem showsW1c_zero (a : Nat) : ShowsW1c a 0 := fun _ i h => by simp at h

theorem showsW1c_of_stored {a : Nat} (w1c : Nat) (h : ∀ s : State, s.regWord a true = s.reg a) : ShowsW1c a w1c :=
  fun s _ _ hb => by rw [h s]; exact hb

theorem showsW1c_of_or {a : Nat} (w1c : Nat) (live : State → Word)
    (h : ∀ s : State, s.regWord a true = s.reg a ||| live s) : ShowsW1c a w1c :=
  fun s _ _ hb => by rw [h s, BitVec.getLsbD_or, hb, Bool.true_or]

/-- The live fields lie outside the mask, and the mask has every W1C bit. -/
theorem showsW1c_of_overlay {a w1c : Nat} (mask : Word) (live : State → Word)
    (h : ∀ s : State, s.regWord a true = (s.reg a &&& mask) ||| live s) (hm : w32 w1c &&& mask = w32 w1c) :
    ShowsW1c a w1c := by
  intro s i hw hb
  have hi : i < 32 := BitVec.lt_of_getLsbD hb
  have hmask : mask.getLsbD i = true := by
    have hbit : (w32 w1c &&& mask).getLsbD i = true := by rw [hm, w32_getLsbD _ hi, hw]
    rw [BitVec.getLsbD_and, Bool.and_eq_true] at hbit
    exact hbit.2
  rw [h s, BitVec.getLsbD_or, BitVec.getLsbD_and, hb, hmask, Bool.true_and, Bool.true_or]

/-- A register whose bits a write of it stores, clears or leaves by their access types alone: RW bits rw, W1C bits w1c. -/
structure StoredReg (a rw w1c : Nat) : Prop where
  row : ∃ r, regRow a = some r ∧ r.rw = rw ∧ r.w1c = w1c
  write : ∀ (s : State) (v : Word), s.writeAny a v = s.plainWrite a v
  notSeqIrq : a ≠ Reg.seqcoreIrqPend
  notCmdIrq : a ≠ Reg.seqcoreIrqPend + 0x10000
  addr : a < 2 ^ 48
  shown : ShowsW1c a w1c

theorem execRegisterWrite_stored {s : State} {q : Requester} {a rw w1c : Nat} (h : StoredReg a rw w1c) (v ev : Word)
    (hq : q.src ≠ 15) (ha : s.admitted q true a = true) :
    ∃ t, execRegisterWrite q (BitVec.ofNat 48 a) v ev s = .next t ∧
      s.Stores a (plainWord (w32 rw) (w32 w1c) (s.reg a) v ||| (ev &&& w32 w1c &&& s.regWord a true)) t := by
  obtain ⟨r, hr, rfl, rfl⟩ := h.row
  obtain ⟨hal, hc⟩ := State.admitted_iff.mp ha
  have hplain := s.plainWrite_stores hr v
  have hst := hplain.trans ((s.plainWrite a v).keepW1c_stores s hr h.notSeqIrq h.notCmdIrq ev)
  rw [hplain.word] at hst
  refine ⟨_, ?_, hst⟩
  unfold execRegisterWrite
  rw [BitVec.toNat_ofNat, Nat.mod_eq_of_lt h.addr, State.fromHost_of_ne_host s hq, regWrite_admitted _ hal hc, h.write]
  exact hst.done_eq

/-- Registers of every block that act by their access types alone, with their RW and W1C bits. -/
def storedRegs : List (Nat × Nat × Nat) :=
  [(Reg.tickOffset, 0x1FFFFFF, 0), (Reg.tickStat, 0, 0x3A0), (Reg.arrayEdge, 0xF, 0), (Reg.arrayScrub, 0xFFFF0001, 0),
    (Reg.arrayEccStat, 0, 0x6000000), (Reg.mseqStat, 0, 0x3FC000), (Reg.sumpStat, 0, 3), (Reg.cisternStat, 0, 0xC0C0),
    (Reg.bulkStat, 0, 0x34), (Reg.ringStat, 0, 0x34), (Reg.edgeStat, 0, 0x3F0000), (Reg.jesdStat, 0, 0x30000),
    (Reg.jesdSysrefDly, 0xFFF, 0), (Reg.valveStat, 0, 0x800), (Reg.twinStat, 0, 0x1C00), (Reg.powerStat, 0, 0x70000),
    (Reg.clockStat, 0, 0x20), (Reg.pumpIrq, 0, 0xFFFF), (Reg.errorContLog, 0, 0xC0), (Reg.seqcoreIrqEn, 0xFFFFFFFF, 0),
    (Reg.pumpRbase, 0xFFFFFFC0, 0)]

theorem storedRegs_row : ∀ x ∈ storedRegs, ∃ r, regRow x.1 = some r ∧ r.rw = x.2.1 ∧ r.w1c = x.2.2 := by
  have h : ∀ x ∈ storedRegs, (regRow x.1).map (fun r => (r.rw, r.w1c)) = some x.2 := by decide +kernel
  intro x hx
  obtain ⟨r, hr, he⟩ := Option.map_eq_some_iff.mp (h x hx)
  exact ⟨r, hr, congrArg Prod.fst he, congrArg Prod.snd he⟩

theorem storedRegs_writeReg (s : State) (v : Word) : ∀ x ∈ storedRegs, s.writeReg x.1 v = s.plainWrite x.1 v := by
  intro x hx
  unfold storedRegs at hx
  fin_cases hx <;> rfl

/-- None of them starts a memory access of the debugger. -/
theorem storedRegs_writeAny (s : State) (v : Word) : ∀ x ∈ storedRegs, s.writeAny x.1 v = s.plainWrite x.1 v := by
  have h : ∀ x ∈ storedRegs, x.1 ≠ Reg.dbgMctl ∧ x.1 ≠ Reg.dbgMctl + 0x1000 := by decide
  intro x hx
  simp only [State.writeAny, h x hx, if_false, ite_self, storedRegs_writeReg s v x hx]

/-- In the order of the list: an RW register has no W1C bit; a status register is shown as stored, or with its live fields
in the other bits; RING_STAT lays its live bits over the stored word. -/
theorem storedRegs_shown : ∀ x ∈ storedRegs, ShowsW1c x.1 x.2.2 := by
  simp only [storedRegs, List.forall_mem_cons]
  exact ⟨showsW1c_zero _, showsW1c_of_overlay _ _ (fun _ => rfl) rfl, showsW1c_zero _, showsW1c_zero _,
    showsW1c_of_stored _ (fun _ => rfl), showsW1c_of_overlay _ _ (fun _ => rfl) rfl, showsW1c_of_stored _ (fun _ => rfl),
    showsW1c_of_stored _ (fun _ => rfl), showsW1c_of_overlay _ _ (fun _ => rfl) rfl, showsW1c_of_or _ _ (fun _ => rfl),
    showsW1c_of_overlay _ _ (fun _ => rfl) rfl, showsW1c_of_overlay _ _ (fun _ => rfl) rfl, showsW1c_zero _,
    showsW1c_of_overlay _ _ (fun _ => rfl) rfl, showsW1c_of_overlay _ _ (fun _ => rfl) rfl,
    showsW1c_of_overlay _ _ (fun _ => rfl) rfl, showsW1c_of_overlay _ _ (fun _ => rfl) rfl,
    showsW1c_of_stored _ (fun _ => rfl), showsW1c_of_stored _ (fun _ => rfl), showsW1c_zero _, showsW1c_zero _, nofun⟩

theorem storedReg_of_mem {x : Nat × Nat × Nat} (hx : x ∈ storedRegs) : StoredReg x.1 x.2.1 x.2.2 where
  row := storedRegs_row x hx
  write s v := storedRegs_writeAny s v x hx
  notSeqIrq := (show ∀ x ∈ storedRegs, x.1 ≠ Reg.seqcoreIrqPend by decide) x hx
  notCmdIrq := (show ∀ x ∈ storedRegs, x.1 ≠ Reg.seqcoreIrqPend + 0x10000 by decide) x hx
  addr := (show ∀ x ∈ storedRegs, x.1 < 2 ^ 48 by decide) x hx
  shown := storedRegs_shown x hx

/-! ### Reads as commands -/

/-- An admitted read delivers the register's value; nothing else of it is seen by the ring. -/
theorem State.readCmd_admitted {s : State} {q : Requester} {a : Nat} (hq : q.src ≠ 15)
    (ha : s.admitted q false a = true) :
    s.readCmd q a = { (s.readReg q.src a q.quiet).1 with
      ring := { (s.readReg q.src a q.quiet).1.ring with readVal := some (s.readReg q.src a q.quiet).2 } } := by
  simp [State.readCmd, State.fromHost_of_ne_host s hq, (State.admitted_iff.mp ha).2]

/-! ### Counters that a read clears (00 R8, R10; 15 R407) -/

/-- Counters of every block that a read clears, with their RC bits. -/
def counterRegs : List (Nat × Nat) :=
  [(Reg.tickOverruns, 0xFFFFFFFF), (Reg.tickSkips, 0xFFFFFFFF), (Reg.tickLates, 0xFFFFFFFF),
    (Reg.arrayEccCorr, 0xFFFFFFFF), (Reg.arrayScrubPasses, 0xFFFFFFFF), (Reg.mseqDispatch, 0xFFFFFFFF),
    (Reg.mseqPreempt, 0xFFFFFFFF), (Reg.pumpDone, 0xFFFFFFFF), (Reg.cisternCorr, 0xFFFFFFFF), (Reg.cisternColl, 0xFFFF),
    (Reg.bulkCorr, 0xFFFFFFFF), (Reg.ringErrcnt, 0xFFFFFFFF), (Reg.ringAged, 0xFFFFFFFF), (Reg.jesdSrErr, 0xFFFF),
    (Reg.jesdLaneErr, 0xFFFFFF), (Reg.valveClips, 0xFFFFFFFF), (Reg.twinFailover, 0xFFFFFFFF),
    (Reg.errorContCnt, 0xFFFFFFFF), (Reg.errorStPasses, 0xFFFFFFFF)]

theorem counterRegs_row : ∀ x ∈ counterRegs, ∃ r, regRow x.1 = some r ∧ r.rc = x.2 ∧ r.rc ≠ 0 := by
  have h : ∀ x ∈ counterRegs, (regRow x.1).map RegRow.rc = some x.2 ∧ x.2 ≠ 0 := by decide +kernel
  intro x hx
  obtain ⟨hrow, hne⟩ := h x hx
  obtain ⟨r, hr, hrc⟩ := Option.map_eq_some_iff.mp hrow
  exact ⟨r, hr, hrc, hrc ▸ hne⟩

theorem counterRegs_readReg (s : State) (src : Nat) : ∀ x ∈ counterRegs,
    s.readReg src x.1 false = (s.setReg x.1 (s.reg x.1 &&& ~~~w32 x.2), s.reg x.1) := by
  intro x hx
  unfold counterRegs at hx
  fin_cases hx <;> rfl

/-- s after a read of the counter at a that clears the bits rc and delivers its value. -/
def State.counted (s : State) (a rc : Nat) : State :=
  { s.setReg a (s.reg a &&& ~~~w32 rc) with ring := { s.ring with readVal := some (s.reg a) } }

/-- Neither stored words nor the delivered value decide an access. -/
theorem accessCode_counted (s : State) (q : Requester) (write : Bool) (b len a rc : Nat) :
    accessCode (s.counted a rc) q write b len = accessCode s q write b len := rfl

theorem counterRegs_readCmd {s : State} {q : Requester} {x : Nat × Nat} (hx : x ∈ counterRegs) (hq : q.src ≠ 15)
    (hquiet : q.quiet = false) (ha : s.admitted q false x.1 = true) : s.readCmd q x.1 = s.counted x.1 x.2 := by
  rw [State.readCmd_admitted hq ha, hquiet, counterRegs_readReg s q.src x hx]
  rfl

theorem State.counted_keepRc {s : State} {q : Requester} {a : Nat} {r : RegRow} (hr : regRow a = some r)
    (hquiet : q.quiet = false) (ha : s.admitted q false a = true) (ev : Word) :
    (s.counted a r.rc).keepRc q a ev =
      (s.counted a r.rc).setReg a ((s.reg a &&& ~~~w32 r.rc) ||| (ev &&& w32 r.rc)) := by
  have hread : (s.counted a r.rc).reg a = s.reg a &&& ~~~w32 r.rc := s.setReg_reg_same a _
  simp [State.keepRc, hr, hquiet, accessCode_counted, (State.admitted_iff.mp ha).2, hread]

/-- An RC counter is delivered and cleared, and what an event of the same cycle puts into it stays (00 R10). -/
theorem execReadClear_counter {s : State} {q : Requester} {x : Nat × Nat} (hx : x ∈ counterRegs) (hq : q.src ≠ 15)
    (hquiet : q.quiet = false) (ha : s.admitted q false x.1 = true) (ev : Word) :
    execReadClear q (BitVec.ofNat 48 x.1) ev s =
      .next ((s.counted x.1 x.2).setReg x.1 ((s.reg x.1 &&& ~~~w32 x.2) ||| (ev &&& w32 x.2))) := by
  have haddr : x.1 < 2 ^ 48 := (show ∀ x ∈ counterRegs, x.1 < 2 ^ 48 by decide) x hx
  obtain ⟨r, hr, hrc, hne⟩ := counterRegs_row x hx
  unfold execReadClear
  rw [BitVec.toNat_ofNat, Nat.mod_eq_of_lt haddr, when_true (by simp [(State.admitted_iff.mp ha).1, hr, hne]),
    counterRegs_readCmd hx hq hquiet ha, ← hrc, State.counted_keepRc hr hquiet ha]
  exact done_keep rfl rfl

theorem clearedWord_getLsbD (rc : Nat) (old ev : Word) {i : Nat} (hi : i < 32) :
    ((old &&& ~~~w32 rc) ||| (ev &&& w32 rc)).getLsbD i = if rc.testBit i then ev.getLsbD i else old.getLsbD i := by
  simp only [BitVec.getLsbD_or, BitVec.getLsbD_and, BitVec.getLsbD_not, w32_getLsbD _ hi, hi]
  cases rc.testBit i <;> simp

/-! ### Latched pairs (15 R408) -/

theorem State.passCore_frame (s : State) (r : Nat) :
    (s.passCore r).pending = s.pending ∧ (s.passCore r).mode = s.mode ∧ (s.passCore r).ring = s.ring := by
  unfold State.passCore
  dsimp only
  split <;> exact ⟨rfl, rfl, rfl⟩

/-- Time that passes before a read leaves the queue, the mode and the ring alone. -/
theorem State.passTime_frame (s : State) (a : Nat) :
    (s.passTime a).pending = s.pending ∧ (s.passTime a).mode = s.mode ∧ (s.passTime a).ring = s.ring := by
  unfold State.passTime
  split
  · exact ⟨rfl, rfl, rfl⟩
  split
  · split <;> exact ⟨rfl, rfl, rfl⟩
  split
  · exact (s.useFree 1).passCore_frame _
  split
  · split <;> exact ⟨rfl, rfl, rfl⟩
  split
  · split <;> exact ⟨rfl, rfl, rfl⟩
  split
  · split <;> exact ⟨rfl, rfl, rfl⟩
  · exact ⟨rfl, rfl, rfl⟩

/-- The words of a pair are registers of a block, the high one is no pair's low word, and neither takes a snapshot. -/
theorem latchedPairs_words : ∀ a ∈ latchedPairs,
    regionOf a = some (.block ((a - 0x20000000) / 0x10000)) ∧ latchedPairs.contains (a + 4) = false ∧
      a ≠ Reg.sumpTileor ∧ a + 4 ≠ Reg.sumpTileor := by decide

theorem State.regWord_low (s : State) {a : Nat} (h : a ∈ latchedPairs) (quiet : Bool) :
    s.regWord a quiet = loHalf (s.pairVal a) := by
  obtain ⟨hblock, -⟩ := latchedPairs_words a h
  simp [State.regWord, hblock, h]

/-- A read of the low word delivers it and holds the high half. -/
theorem State.readReg_low (s : State) {a : Nat} (h : a ∈ latchedPairs) (src : Nat) (quiet : Bool) :
    s.readReg src a quiet =
      (((s.passTime a).useFree ((s.passTime a).readFree a)).holdHigh src a quiet (hiHalf ((s.passTime a).pairVal a)),
        loHalf ((s.passTime a).pairVal a)) := by
  obtain ⟨-, -, hsnap, -⟩ := latchedPairs_words a h
  simp [State.readReg, hsnap, h, State.regWord_low]

/-- A read of the high word delivers what is held for its station, where something is. -/
theorem State.readReg_high (s : State) {a : Nat} (h : a ∈ latchedPairs) (src : Nat) (quiet : Bool) {hi : Word}
    (hheld : s.heldHigh src a quiet = some hi) :
    s.readReg src (a + 4) quiet = ((s.passTime (a + 4)).useFree ((s.passTime (a + 4)).readFree (a + 4)), hi) := by
  obtain ⟨-, hhigh, -, hsnap⟩ := latchedPairs_words a h
  obtain ⟨-, -, hring⟩ := s.passTime_frame (a + 4)
  have hheld' : (s.passTime (a + 4)).heldHigh src a quiet = some hi := by
    rw [State.heldHigh, hring]
    exact hheld
  have hnot : a + 4 ∉ latchedPairs := by simpa using hhigh
  simp [State.readReg, hsnap, hnot, h, hheld']

/-- What a read of the low word holds is found by the same station's read of the high one. -/
theorem State.heldHigh_holdHigh (s : State) (src a : Nat) (quiet : Bool) (hi : Word) :
    (s.holdHigh src a quiet hi).heldHigh src a quiet = some hi := by
  have hnone {α : Type} (l : List α) : l.find? (fun _ => false) = none := by simp
  cases quiet <;> simp [State.heldHigh, State.holdHigh, List.find?_append, List.find?_filter, hnone]

/-- A read of a word of a pair is answered by the register's read where that leaves the queue and the mode alone. -/
theorem execLatchedHighRead_readCmd {s : State} {q : Requester} {a : BitVec 48} (hq : q.src ≠ 15)
    (ha : s.admitted q false a.toNat = true) (hword : a.toNat ∈ latchedPairs ∨ a.toNat - 4 ∈ latchedPairs)
    (hp : (s.readReg q.src a.toNat q.quiet).1.pending = s.pending)
    (hm : (s.readReg q.src a.toNat q.quiet).1.mode = s.mode) :
    execLatchedHighRead q a s = .next { (s.readReg q.src a.toNat q.quiet).1 with
      ring := { (s.readReg q.src a.toNat q.quiet).1.ring with readVal := some (s.readReg q.src a.toNat q.quiet).2 } } := by
  unfold execLatchedHighRead
  rw [when_true (by simp [(State.admitted_iff.mp ha).1, hword]), State.readCmd_admitted hq ha]
  exact done_keep hp hm

/-- The low word is delivered, and the high half is held. -/
theorem execLatchedHighRead_low {s : State} {q : Requester} {a : BitVec 48} (h : a.toNat ∈ latchedPairs)
    (hq : q.src ≠ 15) (ha : s.admitted q false a.toNat = true) :
    ∃ t, execLatchedHighRead q a s = .next t ∧ t.ring.readVal = some (loHalf (t.pairVal a.toNat)) ∧
      t.heldHigh q.src a.toNat q.quiet = some (hiHalf (t.pairVal a.toNat)) := by
  obtain ⟨hp, hm, -⟩ := s.passTime_frame a.toNat
  have hread := s.readReg_low h q.src q.quiet
  refine ⟨_, execLatchedHighRead_readCmd hq ha (.inl h) (by rw [hread]; exact hp) (by rw [hread]; exact hm), ?_, ?_⟩
  · rw [hread]
    rfl
  · rw [hread]
    exact State.heldHigh_holdHigh ((s.passTime a.toNat).useFree _) q.src a.toNat q.quiet _

/-- The high word is delivered as it was held. -/
theorem execLatchedHighRead_high {s : State} {q : Requester} {a a' : BitVec 48} (h : a.toNat ∈ latchedPairs)
    (ha' : a'.toNat = a.toNat + 4) (hq : q.src ≠ 15) (hadm : s.admitted q false a'.toNat = true) {hi : Word}
    (hheld : s.heldHigh q.src a.toNat q.quiet = some hi) :
    ∃ u, execLatchedHighRead q a' s = .next u ∧ u.ring.readVal = some hi := by
  obtain ⟨hp, hm, -⟩ := s.passTime_frame a'.toNat
  have hread : s.readReg q.src a'.toNat q.quiet = _ := ha' ▸ s.readReg_high h q.src q.quiet hheld
  refine ⟨_, execLatchedHighRead_readCmd hq hadm (.inr (by rw [ha', Nat.add_sub_cancel]; exact h))
    (by rw [hread]; exact hp) (by rw [hread]; exact hm), ?_⟩
  rw [hread]

end Sys2Proof.Machine

open Sys2Proof Sys2Proof.Machine

/-- Settles O37: a refused write is its log; the listed writes are decided by their access types, word by word and then bit
by bit; the listed counters are cleared by their read; a pair's high word is the one that the low word's read held. -/
theorem registerAccess : Obligations.RegisterAccess := by
  unfold Obligations.RegisterAccess
  intro s q v ev hal hq
  refine ⟨fun a hc => execRegisterWrite_refused v ev hal hq hc, ?_, ?_, ?_⟩
  · intro x hx ha
    have hx : x ∈ storedRegs := hx
    obtain ⟨t, ht, hregs, hother, hsame⟩ := execRegisterWrite_stored (storedReg_of_mem hx) v ev hq ha
    refine ⟨t, ht, hregs, hother, fun i hi => ⟨fun hev => ?_, fun hev hw1c hold => ?_⟩⟩
    · rw [hsame, plainWord_event_getLsbD _ _ _ _ _ _ hi hev]
    · rw [hsame, event_keeps_bit _ hi hev hw1c (storedRegs_shown x hx s i hw1c hold)]
  · intro x hx ha hquiet
    have hx : x ∈ counterRegs := hx
    refine ⟨_, execReadClear_counter hx hq hquiet ha ev, rfl, fun b hb => ?_, rfl, fun i hi => ?_⟩
    · rw [State.setReg_reg_other _ _ _ _ hb]
      exact s.setReg_reg_other _ _ _ hb
    · rw [State.setReg_reg_same, clearedWord_getLsbD _ _ _ hi]
  · intro a a' hpair ha' ha
    have hpair : a.toNat ∈ latchedPairs := List.contains_iff_mem.mp hpair
    obtain ⟨t, ht, hval, hheld⟩ := execLatchedHighRead_low hpair hq ha
    exact ⟨t, ht, hval, fun hadm => execLatchedHighRead_high hpair ha' hq hadm hheld⟩

end

section
/-! Fields and bits of stored words: what a store into one field leaves of the word (00 R8, R9; 15 R407). -/
namespace Sys2Proof.Machine

theorem bits_testBit (x hi lo i : Nat) : (bits x hi lo).testBit i = (decide (i < hi + 1 - lo) && x.testBit (lo + i)) := by
  simp [bits, Nat.testBit_mod_two_pow, Nat.testBit_shiftRight]

/-- The mask of bits lo to hi. -/
theorem fieldBits_testBit (hi lo i : Nat) : (2 ^ (hi + 1) - 2 ^ lo).testBit i = (decide (i ≤ hi) && decide (lo ≤ i)) := by
  by_cases h : lo ≤ hi + 1
  · have hpos : 0 < 2 ^ lo := Nat.two_pow_pos lo
    have hle : 2 ^ lo ≤ 2 ^ (hi + 1) := Nat.pow_le_pow_right (by decide) h
    rw [show 2 ^ (hi + 1) - 2 ^ lo = 2 ^ (hi + 1) - ((2 ^ lo - 1) + 1) by omega,
      Nat.testBit_two_pow_sub_succ (by omega), Nat.testBit_two_pow_sub_one]
    rw [Bool.eq_iff_iff]
    simp
  · rw [Nat.sub_eq_zero_of_le (Nat.pow_le_pow_right (by decide) (by omega)), Nat.zero_testBit]
    simp; omega

/-- Bit i of a word one field of which is replaced. -/
theorem setBits_getLsbD (x : Word) (hi lo v : Nat) {i : Nat} (hi32 : i < 32) :
    (setBits x hi lo v).getLsbD i = if lo ≤ i ∧ i ≤ hi then v.testBit (i - lo) else x.getLsbD i := by
  simp only [setBits, BitVec.getLsbD_or, BitVec.getLsbD_and, BitVec.getLsbD_not, BitVec.getLsbD_ofNat, fieldBits_testBit,
    Nat.testBit_mod_two_pow, Nat.testBit_shiftLeft, hi32]
  by_cases h1 : lo ≤ i <;> by_cases h2 : i ≤ hi <;> simp [h1, h2]

/-- A bit of the stored word after a store into one of its fields. -/
theorem State.bit_setFld (s : State) (a hi lo v : Nat) {i : Nat} (h : i < 32) :
    bit ((s.setFld a hi lo v).reg a) i = if lo ≤ i ∧ i ≤ hi then v.testBit (i - lo) else bit (s.reg a) i := by
  unfold State.setFld
  rw [State.setReg_reg_same]
  exact setBits_getLsbD (s.reg a) hi lo v h

/-- A bit of a field is a bit of the stored word. -/
theorem State.fld_testBit (s : State) (a hi lo i : Nat) :
    (s.fld a hi lo).testBit i = (decide (i < hi + 1 - lo) && bit (s.reg a) (lo + i)) := by
  rw [State.fld, bits_testBit, BitVec.testBit_toNat, bit]

theorem State.bit_setBit (s : State) (a n : Nat) {i : Nat} (h : i < 32) :
    bit ((s.setBit a n).reg a) i = (decide (i = n) || bit (s.reg a) i) := by
  unfold State.setBit
  rw [State.bit_setFld s a n n 1 h]
  by_cases hn : i = n
  · simp [hn]
  · simp [hn, show ¬ (n ≤ i ∧ i ≤ n) by omega]

@[simp] theorem State.setFld_reg_other (s : State) (a hi lo v b : Nat) (h : b ≠ a) :
    (s.setFld a hi lo v).reg b = s.reg b := s.setReg_reg_other a b _ h

@[simp] theorem State.setBit_reg_other (s : State) (a n b : Nat) (h : b ≠ a) : (s.setBit a n).reg b = s.reg b :=
  s.setReg_reg_other a b _ h

/-- A field reads what was stored in it. -/
theorem State.fld_setFld_same (s : State) (a hi lo v : Nat) (h : hi < 32) :
    (s.setFld a hi lo v).fld a hi lo = v % 2 ^ (hi + 1 - lo) := by
  refine Nat.eq_of_testBit_eq fun i => ?_
  rw [State.fld_testBit, Nat.testBit_mod_two_pow]
  by_cases hi' : i < hi + 1 - lo
  · have hb := s.bit_setFld a hi lo v (show lo + i < 32 by omega)
    rw [if_pos ⟨by omega, by omega⟩, Nat.add_sub_cancel_left] at hb
    simpa [hi'] using hb
  · simp [hi']

/-- A lower part of a field reads the lower bits of what was stored in it. -/
theorem State.fld_setFld_within (s : State) (a hi v hi' : Nat) (h : hi < 32) (hle : hi' ≤ hi) :
    (s.setFld a hi 0 v).fld a hi' 0 = v % 2 ^ (hi' + 1) := by
  refine Nat.eq_of_testBit_eq fun i => ?_
  rw [State.fld_testBit, Nat.testBit_mod_two_pow]
  by_cases hin : i < hi' + 1
  · have hb := s.bit_setFld a hi 0 v (show i < 32 by omega)
    rw [if_pos ⟨by omega, by omega⟩] at hb
    simpa [hin] using hb
  · simp [hin]

/-- A store into another field of the word leaves a field as it was. -/
theorem State.fld_setFld_disjoint (s : State) (a hi lo v hi' lo' : Nat) (h : hi' < 32) (hd : hi < lo' ∨ hi' < lo) :
    (s.setFld a hi lo v).fld a hi' lo' = s.fld a hi' lo' := by
  refine Nat.eq_of_testBit_eq fun i => ?_
  rw [State.fld_testBit, State.fld_testBit]
  by_cases hin : i < hi' + 1 - lo'
  · have hb := s.bit_setFld a hi lo v (show lo' + i < 32 by omega)
    rw [if_neg (by omega)] at hb
    simpa [hin] using hb
  · simp [hin]

theorem State.fld_of_reg_eq {s t : State} {a : Nat} (h : t.reg a = s.reg a) (hi lo : Nat) : t.fld a hi lo = s.fld a hi lo := by
  rw [State.fld, State.fld, h]

end Sys2Proof.Machine
end

section
/-! What a reset of cause 1 to 8 leaves: memory, the kept registers, the fields of the state after reset (14 R390, R391). -/
namespace Sys2Proof.Machine

/-! ### Memory cleared by address -/

/-- A map of which only the keys that satisfy p are kept. -/
theorem sget_filter_keys {α : Type} (d : Nat → α) (p : Nat → Bool) (m : List (Nat × α)) (a : Nat) :
    sget d (m.filter (fun e => p e.1)) a = if p a then sget d m a else d a := by
  induction m with
  | nil => simp [sget]
  | cons e m ih =>
    obtain ⟨j, w⟩ := e
    by_cases hj : j = a
    · subst hj
      cases hp : p j <;> simp [hp, sget, ih]
    · cases hp : p j <;> simp [hp, hj, sget, ih]

theorem State.clearMem_byte (s : State) (lo hi a : Nat) :
    (s.clearMem lo hi).byte a = if lo ≤ a ∧ a < hi then 0 else s.byte a := by
  refine (sget_filter_keys memDefault (fun b => decide (b < lo ∨ hi ≤ b)) s.mem a).trans ?_
  by_cases h : lo ≤ a ∧ a < hi
  · rw [if_pos h, if_neg (by simpa using h)]
    rfl
  · rw [if_neg h, if_pos (decide_eq_true (by omega))]
    rfl

/-! ### The wipe of the secure cistern (06 R180, R181) -/

/-- A wipe that was just triggered ends: memory is cleared where it verifies, and its failure is remembered. -/
theorem State.wipeEnd_startWipe (s : State) (cause : Nat) (ok : Bool) :
    (s.startWipe cause).wipeEnd ok =
      let t := (s.setBit Reg.cisternSecStat cause).setBit Reg.cisternSecStat 0
      { t with
        mem := if ok then (s.clearMem 0x1F000000 0x1F020000).mem else s.mem
        cist := { s.cist with wiping := false, verifyFail := s.cist.verifyFail || !ok } } := by
  rw [State.wipeEnd, if_neg (by simp [State.startWipe])]
  cases ok
  · rfl
  · simp only [if_true]
    rfl

theorem State.startWipe_reg (s : State) (cause a : Nat) :
    (s.startWipe cause).reg a = (s.setBit Reg.cisternSecStat cause).reg a := rfl

theorem State.wipeEnd_reg (s : State) (cause : Nat) (ok : Bool) (a : Nat) : ((s.startWipe cause).wipeEnd ok).reg a =
    ((s.setBit Reg.cisternSecStat cause).setBit Reg.cisternSecStat 0).reg a := by
  rw [State.wipeEnd_startWipe]
  rfl

theorem State.wipeEnd_byte (s : State) (cause : Nat) (ok : Bool) (a : Nat) : ((s.startWipe cause).wipeEnd ok).byte a =
    if ok = true ∧ 0x1F000000 ≤ a ∧ a < 0x1F020000 then 0 else s.byte a := by
  rw [State.wipeEnd_startWipe]
  cases ok
  · rfl
  · exact (s.clearMem_byte 0x1F000000 0x1F020000 a).trans (by simp)

/-! ### resetTo (14 R390, R391) -/

theorem State.resetTo_flash {s : State} (h : s.mode ≠ .off) (cause : Nat) : (s.resetTo cause).wh.flash = s.wh.flash := by
  rw [State.resetTo, if_neg h]

theorem State.resetTo_wiping {s : State} (h : s.mode ≠ .off) (cause : Nat) :
    (s.resetTo cause).cist.wiping = (s.cist.wiping || s.cist.verifyFail) := by
  rw [State.resetTo, if_neg h]

theorem State.resetTo_lcPend {s : State} (h : s.mode ≠ .off) : (s.resetTo 5).host.lcPend = none := by
  rw [State.resetTo, if_neg h]
  rfl

theorem State.resetTo_seqRun {s : State} (h : s.mode ≠ .off) (cause : Nat) :
    (s.resetTo cause).wh.seqRun = (cause != 1 && !s.wh.perstLow) := by
  rw [State.resetTo, if_neg h]

theorem State.resetTo_regs {s : State} (h : s.mode ≠ .off) (cause : Nat) : (s.resetTo cause).regs = s.keptRegs cause := by
  rw [State.resetTo, if_neg h]

/-- Memory below the secure cistern is lost, from there on it stays (log 21). -/
theorem State.resetTo_byte {s : State} (h : s.mode ≠ .off) (cause a : Nat) :
    (s.resetTo cause).byte a = if a < 0x1F000000 then 0 else s.byte a := by
  rw [State.resetTo, if_neg h]
  refine (sget_filter_keys memDefault (fun b => decide (0x1F000000 ≤ b)) s.mem a).trans ?_
  by_cases ha : a < 0x1F000000
  · rw [if_pos ha, if_neg (by simpa using ha)]
    rfl
  · rw [if_neg ha, if_pos (by simpa using ha)]
    rfl

theorem State.keptRegs_default (s : State) (cause : Nat) {a : Nat} (h1 : a ≠ Reg.cisternSecStat)
    (h2 : a ≠ Reg.wellheadStat) (h3 : a ≠ Reg.errorPrevFatal) : sget regDefault (s.keptRegs cause) a = regDefault a := by
  simp only [State.keptRegs, List.foldl_cons, List.foldl_nil]
  rw [sget_sset_other _ _ _ _ _ h3, sget_sset_other _ _ _ _ _ h2, sget_sset_other _ _ _ _ _ h1, sget]

theorem State.keptRegs_secStat (s : State) (cause : Nat) :
    sget regDefault (s.keptRegs cause) Reg.cisternSecStat = s.reg Reg.cisternSecStat &&& 0x79#32 := by
  simp only [State.keptRegs, List.foldl_cons, List.foldl_nil]
  rw [sget_sset_other _ _ _ _ _ (by decide), sget_sset_other _ _ _ _ _ (by decide), sget_sset_same]

theorem State.keptRegs_wellheadStat (s : State) (cause : Nat) :
    sget regDefault (s.keptRegs cause) Reg.wellheadStat = s.reg Reg.wellheadStat &&& 0x3FF12#32 := by
  simp only [State.keptRegs, List.foldl_cons, List.foldl_nil]
  rw [sget_sset_other _ _ _ _ _ (by decide), sget_sset_same]

/-- A recorded cause of a wipe stays through the reset. -/
theorem State.resetTo_secStat_bit {s : State} (h : s.mode ≠ .off) (cause : Nat) {n : Nat} (hn : n = 4 ∨ n = 5)
    (hset : bit (s.reg Reg.cisternSecStat) n = true) : bit ((s.resetTo cause).reg Reg.cisternSecStat) n = true := by
  have hreg : (s.resetTo cause).reg Reg.cisternSecStat = s.reg Reg.cisternSecStat &&& 0x79#32 := by
    rw [State.reg, State.resetTo_regs h cause, State.keptRegs_secStat]
  rw [bit] at hset ⊢
  obtain rfl | rfl := hn <;> simp [hreg, hset]

/-- A recorded glitch stays through the reset. -/
theorem State.resetTo_wellheadStat_bit {s : State} (h : s.mode ≠ .off) (cause : Nat) {n : Nat} (hn : n = 4 ∨ 8 ≤ n ∧ n < 18)
    (hset : bit (s.reg Reg.wellheadStat) n = true) : bit ((s.resetTo cause).reg Reg.wellheadStat) n = true := by
  have hreg : (s.resetTo cause).reg Reg.wellheadStat = s.reg Reg.wellheadStat &&& 0x3FF12#32 := by
    rw [State.reg, State.resetTo_regs h cause, State.keptRegs_wellheadStat]
  have hmask : (0x3FF12#32).getLsbD n = true := by
    obtain rfl | ⟨hlo, hhi⟩ := hn
    · rfl
    · interval_cases n <;> rfl
  rw [bit] at hset ⊢
  rw [hreg, BitVec.getLsbD_and, hset, hmask]
  rfl

/-! ### A command that resets -/

/-- Command i in state s resets the device with this cause: what every reset leaves, and what more says of it. -/
def State.ResetBy (s : State) (cause : Nat) (i : Instr) (more : State → Prop) : Prop :=
  ∃ t, exec i s = .next t ∧ t.mode = .reset ∧ t.wh.cause = cause ∧ t.wh.left = (if s.mode = .reset then 0 else s.mode.code) ∧
    t.pending = s.pending ∧ t.seq = Core.reset ∧ t.cmd = { Core.reset with run := true } ∧ t.mseq = Mseq.reset ∧
    t.arr = Arr.reset ∧ t.cist.verifyFail = false ∧ (s.cist.verifyFail = true → t.cist.wiping = true) ∧
    t.tick = Tick.reset ∧ t.edge = Edge.reset ∧ t.jesd = Jesd.reset ∧ t.valve.open_ = false ∧ t.twin.state = 0 ∧
    t.wh.temps = s.wh.temps ∧ t.wh.secs = s.wh.secs ∧
    (∀ a, a ≠ Reg.cisternSecStat → a ≠ Reg.wellheadStat → a ≠ Reg.errorPrevFatal → t.reg a = regDefault a) ∧ more t

/-- What a cause of a reset does before the reset itself: it records, wipes or appends, and leaves the mode, the queue and
the wellhead's readings alone; a wipe that has failed is due again. -/
structure State.BeforeReset (s u : State) : Prop where
  mode : u.mode = s.mode
  pending : u.pending = s.pending
  temps : u.wh.temps = s.wh.temps
  secs : u.wh.secs = s.wh.secs
  failed : s.cist.verifyFail = true → (u.cist.wiping || u.cist.verifyFail) = true

theorem State.beforeReset_refl (s : State) : s.BeforeReset s := ⟨rfl, rfl, rfl, rfl, fun h => by rw [h, Bool.or_true]⟩

theorem State.resetBy_of_done {s u : State} {cause : Nat} {i : Instr} {more : State → Prop} (hoff : s.mode ≠ .off)
    (hexec : exec i s = done s (u.resetTo cause)) (hb : s.BeforeReset u) (hmore : more (u.resetTo cause)) :
    s.ResetBy cause i more := by
  have hu : u.mode ≠ .off := hb.mode ▸ hoff
  have hdone : done s (u.resetTo cause) = .next (u.resetTo cause) := by
    rw [State.resetTo, if_neg hu]
    exact done_eq hb.pending (.inr (by cases s.mode <;> rfl))
  have hreg : ∀ a, a ≠ Reg.cisternSecStat → a ≠ Reg.wellheadStat → a ≠ Reg.errorPrevFatal →
      (u.resetTo cause).reg a = regDefault a := fun a h1 h2 h3 => by
    rw [State.reg, State.resetTo_regs hu cause, State.keptRegs_default u cause h1 h2 h3]
  refine ⟨u.resetTo cause, hexec.trans hdone, ?_⟩
  rw [State.resetTo, if_neg hu] at hreg hmore ⊢
  exact ⟨rfl, rfl, by rw [← hb.mode], hb.pending, rfl, rfl, rfl, rfl, rfl, hb.failed, rfl, rfl, rfl, rfl, rfl,
    hb.temps, hb.secs, hreg, hmore⟩

/-- Every reset stays one where less is said of it. -/
theorem State.ResetBy.mono {s : State} {cause : Nat} {i : Instr} {more less : State → Prop} (h : s.ResetBy cause i more)
    (himp : ∀ t, more t → less t) : s.ResetBy cause i less := by
  obtain ⟨t, hexec, hmode, hcause, hleft, hpend, hseq, hcmd, hmseq, harr, hver, hwipe, htick, hedge, hjesd, hvalve, htwin,
    htemps, hsecs, hregs, hmore⟩ := h
  exact ⟨t, hexec, hmode, hcause, hleft, hpend, hseq, hcmd, hmseq, harr, hver, hwipe, htick, hedge, hjesd, hvalve, htwin,
    htemps, hsecs, hregs, himp t hmore⟩

/-- The flash and the memory from the secure cistern upwards are as they were in s; memory below it is lost. -/
def State.KeptBelow (s t : State) : Prop :=
  t.wh.flash = s.wh.flash ∧ ∀ a, t.byte a = if a < 0x1F000000 then 0 else s.byte a

/-- What a reset leaves of memory and flash where its cause has touched neither. -/
theorem State.resetTo_kept {s u : State} (hoff : u.mode ≠ .off) (cause : Nat) (hmem : u.mem = s.mem)
    (hflash : u.wh.flash = s.wh.flash) : s.KeptBelow (u.resetTo cause) := by
  refine ⟨(State.resetTo_flash hoff cause).trans hflash, fun a => ?_⟩
  rw [State.resetTo_byte hoff, State.byte, hmem]
  rfl

/-! ### Glitches and life cycle (14 R389; 12 R345) -/

/-- A glitch is recorded and wipes the secure cistern; the wipe is still due after the reset. -/
theorem State.resetBy_glitch {s : State} {i : Instr} {n : Nat} (hoff : s.mode ≠ .off) (hn : n = 4 ∨ 8 ≤ n ∧ n < 18)
    (hexec : exec i s = done s (s.glitch n)) : s.ResetBy 7 i (fun t => s.KeptBelow t ∧ t.cist.wiping = true ∧
      bit (t.reg Reg.wellheadStat) n = true ∧ bit (t.reg Reg.cisternSecStat) 4 = true) := by
  let u := (s.setBit Reg.wellheadStat n).startWipe 4
  have hu : u.mode ≠ .off := hoff
  have hstat : bit (u.reg Reg.wellheadStat) n = true := by
    rw [State.startWipe_reg, State.setBit_reg_other _ _ _ _ (by decide), State.bit_setBit _ _ _ (by omega),
      decide_eq_true rfl, Bool.true_or]
  have hsec : bit (u.reg Reg.cisternSecStat) 4 = true := by
    rw [State.startWipe_reg, State.bit_setBit _ _ 4 (by decide), decide_eq_true rfl, Bool.true_or]
  refine State.resetBy_of_done hoff hexec ⟨rfl, rfl, rfl, rfl, fun _ => rfl⟩
    ⟨State.resetTo_kept hu 7 rfl rfl, (State.resetTo_wiping hu 7).trans rfl, State.resetTo_wellheadStat_bit hu 7 hn hstat,
      State.resetTo_secStat_bit hu 7 (.inl rfl) hsec⟩

theorem execVoltageGlitch_on {s : State} (hoff : s.mode ≠ .off) (rail : Fin 10) :
    execVoltageGlitch rail s = done s (s.glitch (8 + rail.val)) := when_true (by simpa using hoff) _ _

theorem execClockGlitch_on {s : State} (hoff : s.mode ≠ .off) : execClockGlitch s = done s (s.glitch 4) :=
  when_true (by simpa using hoff) _ _

/-- The state in which the append of a life-cycle step has ended and the wipe before its reset too. -/
def State.lifeCycleDone (s : State) (lc : BitVec 2) (ok : Bool) : State :=
  (({ s with wh := { s.wh with flash := { s.wh.flash with lc := lc, lcLog := s.wh.flash.lcLog + 1 } } } : State).startWipe
    5).wipeEnd ok

theorem execLifeCycleReset_pending {s : State} {lc : BitVec 2} (hoff : s.mode ≠ .off) (hpend : s.host.lcPend = some lc)
    (ok : Bool) : execLifeCycleReset ok s = done s ((s.lifeCycleDone lc ok).resetTo 5) := by
  rw [execLifeCycleReset, when_true (by simpa using hoff), hpend]
  rfl

theorem State.lifeCycleDone_secStat (s : State) (lc : BitVec 2) (ok : Bool) :
    bit ((s.lifeCycleDone lc ok).reg Reg.cisternSecStat) 5 = true := by
  rw [State.lifeCycleDone, State.wipeEnd_reg, State.bit_setBit _ _ 0 (by decide), State.bit_setBit _ _ 5 (by decide),
    decide_eq_true rfl, Bool.true_or, Bool.or_true]

/-- What the append and the wipe leave alone, and what they change besides memory and registers. -/
theorem State.lifeCycleDone_frame (s : State) (lc : BitVec 2) (ok : Bool) :
    (s.lifeCycleDone lc ok).mode = s.mode ∧ (s.lifeCycleDone lc ok).pending = s.pending ∧
    (s.lifeCycleDone lc ok).cist.wiping = false ∧ (s.lifeCycleDone lc ok).cist.verifyFail = (s.cist.verifyFail || !ok) ∧
    (s.lifeCycleDone lc ok).wh = { s.wh with flash := { s.wh.flash with lc := lc, lcLog := s.wh.flash.lcLog + 1 } } := by
  rw [State.lifeCycleDone, State.wipeEnd_startWipe]
  exact ⟨rfl, rfl, rfl, rfl, rfl⟩

/-- A life-cycle step is appended and the secure cistern wiped; a wipe that failed is made again. -/
theorem State.resetBy_lifeCycle {s : State} {lc : BitVec 2} (hoff : s.mode ≠ .off) (hpend : s.host.lcPend = some lc)
    (ok : Bool) : s.ResetBy 5 (.lifeCycleReset ok) (fun t => t.host.lcPend = none ∧
      t.cist.wiping = (s.cist.verifyFail || !ok) ∧
      t.wh.flash = { s.wh.flash with lc := lc, lcLog := s.wh.flash.lcLog + 1 } ∧
      (∀ a, t.byte a = if a < (if ok then 0x1F020000 else 0x1F000000) then 0 else s.byte a) ∧
      bit (t.reg Reg.cisternSecStat) 5 = true) := by
  obtain ⟨hmode, hpending, hwiping, hfail, hwh⟩ := s.lifeCycleDone_frame lc ok
  have hu : (s.lifeCycleDone lc ok).mode ≠ .off := hmode ▸ hoff
  refine State.resetBy_of_done hoff (execLifeCycleReset_pending hoff hpend ok)
    ⟨hmode, hpending, by rw [hwh], by rw [hwh], fun h => by rw [hfail, h, Bool.true_or, Bool.or_true]⟩
    ⟨State.resetTo_lcPend hu, ?_, ?_, fun a => ?_, State.resetTo_secStat_bit hu 5 (.inr rfl) (s.lifeCycleDone_secStat lc ok)⟩
  · rw [State.resetTo_wiping hu, hwiping, hfail, Bool.false_or]
  · rw [State.resetTo_flash hu, hwh]
  · rw [State.resetTo_byte hu, State.lifeCycleDone, State.wipeEnd_byte, State.byte, State.byte]
    cases ok
    · simp
    · by_cases ha : a < 0x1F000000
      · simp [ha, show a < 0x1F020000 by omega]
      · simp [ha, show 0x1F000000 ≤ a by omega]

/-! ### The host's reset, the test access port (12 R343; 16 R418) -/

/-- A write of HOSTIF_B_RESET that is admitted while the device is awake, or in Reset, has its effect. -/
theorem execHostifBReset_admitted {s : State}
    (h : s.mode = .reset ∨ (s.admitted hostB true Reg.hostifBReset = true ∧ s.mode ≠ .quiescent)) (v : Word) :
    execHostifBReset v s = done s (s.hostReset v) := by
  unfold execHostifBReset winBWrite
  obtain h | ⟨hadm, hawake⟩ := h
  · rw [if_pos h]
  · obtain ⟨hal, hcode⟩ := State.admitted_iff.mp hadm
    rw [if_neg (fun hm => by simp [State.alive, hm] at hal), State.hostWake, if_neg hawake, regWrite_admitted _ hal hcode]

theorem execResetreq_open {s : State} (hoff : s.mode ≠ .off) (hopen : s.tapOpen = true) :
    execResetreq true s = done s ((s.tapLoad 0x30 0).resetTo 8) := by
  rw [execResetreq, tapRun, when_true (by simpa using hoff), State.tapAvail, hopen]
  rfl

end Sys2Proof.Machine

open Sys2Proof Sys2Proof.Machine

/-- Settles O50: each cause is resetTo after what the cause itself does: nothing, the record and the wipe of a glitch, or the
append and the wipe of a life-cycle step. -/
theorem resets : Obligations.Resets := by
  unfold Obligations.Resets
  intro s rail v isReset kept hoff
  have plain (cause : Nat) (i : Instr) (hexec : exec i s = done s (s.resetTo cause)) : s.ResetBy cause i s.KeptBelow :=
    State.resetBy_of_done hoff hexec s.beforeReset_refl (State.resetTo_kept hoff cause rfl rfl)
  refine ⟨?_, fun hreq => ⟨plain 2 _ ((execHostifBReset_admitted hreq _).trans (congrArg (done s) (if_pos rfl))), fun hv => ?_⟩, ?_,
    fun hal htimer => plain 4 _ ?_, fun lc ok hpend => State.resetBy_lifeCycle hoff hpend ok,
    fun hal hen hfr hq => plain 6 _ ?_, State.resetBy_glitch hoff (.inr (by omega)) (execVoltageGlitch_on hoff rail),
    (State.resetBy_glitch (i := .clockGlitch) hoff (.inl rfl) (execClockGlitch_on hoff)).mono ?_, fun hopen => ?_⟩
  · refine State.resetBy_of_done hoff ?_ s.beforeReset_refl ⟨State.resetTo_kept hoff 1 rfl rfl, ?_⟩
    · exact congrArg (done s) (if_neg hoff)
    · rw [State.resetTo, if_neg hoff]
      exact ⟨Bool.or_true _, rfl, rfl⟩
  · exact (execHostifBReset_admitted hreq v).trans ((congrArg (done s) (if_neg hv)).trans (done_keep rfl rfl))
  · exact State.resetBy_of_done hoff rfl s.beforeReset_refl
      ⟨State.resetTo_kept hoff 3 rfl rfl, (State.resetTo_seqRun hoff 3).trans rfl⟩
  · show execPrimingTimeout s = _
    exact when_true (by rw [hal, htimer]; rfl) _ _
  · show execWellheadWatchdogExpiry s = _
    exact when_true (by simp [hal, hen, hfr, hq]) _ _
  · exact fun t ⟨hkeep, hwipe, hstat, _⟩ => ⟨hkeep, hwipe, hstat⟩
  · exact State.resetBy_of_done hoff (execResetreq_open hoff hopen)
      ⟨rfl, rfl, rfl, rfl, fun h => by rw [show (s.tapLoad 0x30 0).cist = s.cist from rfl, h, Bool.or_true]⟩
      (State.resetTo_kept (s := s) (u := s.tapLoad 0x30 0) hoff 8 rfl rfl)

end

section
/-! What raising a fatal error does (15 R403 to R405). -/
namespace Sys2Proof.Machine

theorem State.closing_frame (s : State) : ∃ v, s.closing = { s with valve := v } := by
  unfold State.closing
  split
  · exact ⟨_, rfl⟩
  · exact ⟨s.valve, rfl⟩

/-- A fatal error changes stored words, the valve, and what the twin block has sent. -/
theorem State.fatal_frame (s : State) (code : Nat) (core : Bool) :
    ∃ l v w, s.fatal code core = { s with regs := l, valve := v, twin := w } := by
  unfold State.fatal
  split
  · exact ⟨_, s.valve, s.twin, rfl⟩
  · obtain ⟨v, hv⟩ := (s.setFld Reg.errorFatal 6 0 (code + 64 * b2n core)).closing_frame
    rw [hv]
    dsimp only
    split
    · exact ⟨_, v, _, rfl⟩
    · exact ⟨_, v, s.twin, rfl⟩

/-- The words that a fatal error writes. -/
def fatalRegs : List Nat := [Reg.errorFatal, Reg.errorFatalTickLo, Reg.errorFatalTickHi]

theorem State.closing_reg (s : State) (b : Nat) : s.closing.reg b = s.reg b := by
  obtain ⟨v, hv⟩ := s.closing_frame
  rw [hv]
  rfl

/-- The record of the first fatal error, whatever the link does. -/
theorem State.fatal_first_reg {s : State} (h : s.fatalSeen = false) (code : Nat) (core : Bool) (b : Nat)
    (hlo : b ≠ Reg.errorFatalTickLo) (hhi : b ≠ Reg.errorFatalTickHi) :
    (s.fatal code core).reg b = (s.setFld Reg.errorFatal 6 0 (code + 64 * b2n core)).reg b := by
  unfold State.fatal
  rw [if_neg (by simp [h])]
  dsimp only
  rw [State.setReg_reg_other _ _ _ _ hhi, State.setReg_reg_other _ _ _ _ hlo]
  split <;> exact State.closing_reg _ b

theorem State.fatal_reg_other (s : State) (code : Nat) (core : Bool) {b : Nat} (h : b ∉ fatalRegs) :
    (s.fatal code core).reg b = s.reg b := by
  simp only [fatalRegs, List.mem_cons, List.not_mem_nil, or_false, not_or] at h
  obtain ⟨hfatal, hlo, hhi⟩ := h
  by_cases hseen : s.fatalSeen = true
  · rw [State.fatal, if_pos hseen, State.setBit_reg_other _ _ _ _ hfatal]
  · rw [State.fatal_first_reg (by simpa using hseen) _ _ _ hlo hhi, State.setFld_reg_other _ _ _ _ _ _ hfatal]

/-- Once a fatal error is raised, one has been recorded. -/
theorem State.fatal_fatalSeen (s : State) {code : Nat} (core : Bool) (h : code % 64 ≠ 0) :
    (s.fatal code core).fatalSeen = true := by
  by_cases hseen : s.fatalSeen = true
  · rw [State.fatal, if_pos hseen, State.fatalSeen, State.setBit, State.fld_setFld_disjoint _ _ _ _ _ _ _ (by decide) (by decide)]
    exact hseen
  · have hreg := State.fatal_first_reg (by simpa using hseen) code core Reg.errorFatal (by decide) (by decide)
    rw [State.fatalSeen, State.fld_of_reg_eq hreg, State.fld_setFld_within _ _ _ _ _ (by decide) (by decide)]
    cases core <;> simpa [b2n] using h

/-- An error of the array or the microsequencer changes no more than that, and remembers its cycle. -/
theorem State.fatalIn_frame (s : State) (code cyc : Nat) :
    ∃ l v w c, s.fatalIn code cyc = { s with regs := l, valve := v, twin := w, mseq := { s.mseq with fatalCyc := c } } := by
  obtain ⟨l, v, w, hf⟩ := s.fatal_frame code false
  unfold State.fatalIn
  rw [hf]
  split
  · exact ⟨l, v, w, _, rfl⟩
  · split
    · exact ⟨_, v, w, _, rfl⟩
    · exact ⟨l, v, w, _, rfl⟩

theorem State.fatalIn_reg_other (s : State) (code cyc : Nat) {b : Nat} (h : b ∉ fatalRegs) :
    (s.fatalIn code cyc).reg b = s.reg b := by
  have hne : b ≠ Reg.errorFatal := fun hb => h (by simp [hb, fatalRegs])
  have hfatal := s.fatal_reg_other code false h
  unfold State.fatalIn
  split
  · exact hfatal
  · split
    · rw [State.setFld_reg_other _ _ _ _ _ _ hne, hfatal]
    · exact hfatal

theorem State.fatalIn_fatalSeen (s : State) (cyc : Nat) {code : Nat} (h : code % 64 ≠ 0) :
    (s.fatalIn code cyc).fatalSeen = true := by
  have hfatal := s.fatal_fatalSeen false h
  unfold State.fatalIn
  split
  · exact hfatal
  · split
    · rw [State.fatalSeen, State.fld_setFld_same _ _ _ _ _ (by decide)]
      simpa using h
    · exact hfatal

end Sys2Proof.Machine
end

section
/-! The sump's results, the tap and the rising edges of the clock trees (02 R75 to R85; 07 R196, R199, R211). -/
namespace Sys2Proof.Machine

/-! ### Results at the sump root (02 R76 to R81) -/

/-- The sump once the next result of contribution c has appeared: an OR with its tile vector, or a count or an accumulator. -/
def Sump.shows (u : Sump) (c : Contrib) : Sump :=
  if c.stage = 0 then
    { u with
      tiles := c.tiles
      flight := if c.op = 1 then u.flight.filter (fun d => d.id != c.id)
        else u.flight.map (fun d => if d.id == c.id then { d with stage := 1 } else d) }
  else
    let u := { u with flight := u.flight.filter (fun d => d.id != c.id) }
    if c.op = 2 then { u with last := countForm 2 c.or c.count c.first }
    else if c.urgent then { u with uaccShown := c.acc } else { u with naccShown := c.acc }

theorem State.sumpBreak_frame (s : State) (urgent or : Bool) :
    ∃ m k, s.sumpBreak urgent or = { s with mseq := m, seq := k } := by
  unfold State.sumpBreak
  dsimp only
  split
  · exact ⟨_, _, rfl⟩
  · exact ⟨s.mseq, s.seq, rfl⟩

/-- A result changes the sump as shows says, stops at a break at most, and an OR writes no register. -/
theorem State.result_frame (s : State) (c : Contrib) :
    ∃ l m k, (if c.stage = 0 then s.orResult c else s.countResult c) =
      { s with sump := s.sump.shows c, regs := l, mseq := m, seq := k } ∧ (c.stage = 0 → l = s.regs) := by
  by_cases h : c.stage = 0
  · obtain ⟨m, k, hb⟩ := State.sumpBreak_frame { s with sump := s.sump.shows c } c.urgent c.or
    refine ⟨s.regs, m, k, ?_, fun _ => rfl⟩
    rw [if_pos h, ← hb, State.orResult, Sump.shows, if_pos h]
  · rw [if_neg h, State.countResult, Sump.shows, if_neg h]
    dsimp only
    split
    · exact ⟨_, s.mseq, s.seq, rfl, fun h0 => absurd h0 h⟩
    · exact ⟨s.regs, s.mseq, s.seq, rfl, fun h0 => absurd h0 h⟩

/-- A result only adds bits to SUMP_STAT, and writes no other register. -/
theorem State.result_reg (s : State) (c : Contrib) (b : Nat) :
    let t := if c.stage = 0 then s.orResult c else s.countResult c
    (b ≠ Reg.sumpStat → t.reg b = s.reg b) ∧ (bit (s.reg Reg.sumpStat) 2 = true → bit (t.reg Reg.sumpStat) 2 = true) := by
  intro t
  by_cases h : c.stage = 0
  · obtain ⟨l, m, k, ht, hl⟩ := s.result_frame c
    have hregs : t.regs = s.regs := by rw [show t = _ from ht, hl h]
    rw [State.reg, State.reg, State.reg, State.reg, hregs]
    exact ⟨fun _ => rfl, id⟩
  · have ht : t = s.countResult c := if_neg h
    rw [ht, State.countResult]
    dsimp only
    split
    · refine ⟨fun hb => State.setBit_reg_other _ _ _ _ hb, fun hbit => ?_⟩
      rw [State.bit_setBit _ _ _ (by decide)]
      exact (congrArg _ hbit).trans (Bool.or_true _)
    · exact ⟨fun _ => rfl, id⟩

/-- The state in which the next result of contribution c appears. -/
def State.sumpAt (s : State) (c : Contrib) (parity : Bool) : State :=
  let s := s.reach c.due
  if parity then (s.setBit Reg.sumpStat 2).fatalIn 2 c.due else s

theorem execSumpResult_due {s : State} {c : Contrib} (h : argMin Contrib.due s.sump.flight = some c) (parity : Bool) :
    execSumpResult parity s = done s (if c.stage = 0 then (s.sumpAt c parity).orResult c
      else (s.sumpAt c parity).countResult c) := by
  rw [execSumpResult, h]
  rfl

theorem State.sumpAt_frame (s : State) (c : Contrib) (parity : Bool) :
    (s.sumpAt c parity).pending = s.pending ∧ (s.sumpAt c parity).mode = s.mode ∧ (s.sumpAt c parity).sump = s.sump := by
  unfold State.sumpAt
  cases parity
  · simp
  · obtain ⟨l, v, w, m, hf⟩ := State.fatalIn_frame ((s.reach c.due).setBit Reg.sumpStat 2) 2 c.due
    simp [hf]

/-- SUMP_RESULT with a result due: the sump shows it; everything else is the parity error's, a break's or SUMP_STAT's. -/
theorem execSumpResult_next {s : State} {c : Contrib} (h : argMin Contrib.due s.sump.flight = some c) (parity : Bool) :
    ∃ l m k, execSumpResult parity s = .next { s.sumpAt c parity with
        sump := s.sump.shows c, regs := l, mseq := m, seq := k } ∧ (c.stage = 0 → l = (s.sumpAt c parity).regs) ∧
      (bit ((s.sumpAt c parity).reg Reg.sumpStat) 2 = true → bit (sget regDefault l Reg.sumpStat) 2 = true) ∧
      ∀ b, b ≠ Reg.sumpStat → sget regDefault l b = (s.sumpAt c parity).reg b := by
  obtain ⟨hp, hm, hs⟩ := s.sumpAt_frame c parity
  obtain ⟨l, m, k, ht, hl⟩ := (s.sumpAt c parity).result_frame c
  have hreg := (s.sumpAt c parity).result_reg c
  rw [ht] at hreg
  rw [hs] at ht
  refine ⟨l, m, k, ?_, hl, (hreg 0).2, fun b => (hreg b).1⟩
  rw [execSumpResult_due h, ht]
  exact done_keep hp hm

/-- A parity error is in SUMP_STAT and is fatal. -/
theorem State.sumpAt_parity (s : State) (c : Contrib) :
    bit ((s.sumpAt c true).reg Reg.sumpStat) 2 = true ∧ (s.sumpAt c true).fatalSeen = true := by
  refine ⟨?_, State.fatalIn_fatalSeen _ _ (by decide)⟩
  rw [State.sumpAt, if_pos rfl, State.fatalIn_reg_other _ _ _ (by decide), State.bit_setBit _ _ _ (by decide)]
  exact Bool.true_or _

theorem Sump.shows_or (u : Sump) {c : Contrib} (h : c.stage = 0) : u.shows c = { u with
    tiles := c.tiles
    flight := if c.op = 1 then u.flight.filter (fun d => d.id != c.id)
      else u.flight.map (fun d => if d.id == c.id then { d with stage := 1 } else d) } := if_pos h

/-- What a result that appears never touches. -/
theorem Sump.shows_frame (u : Sump) (c : Contrib) :
    (u.shows c).nacc = u.nacc ∧ (u.shows c).uacc = u.uacc ∧ (u.shows c).snap = u.snap := by
  unfold Sump.shows
  split
  · exact ⟨rfl, rfl, rfl⟩
  · dsimp only
    split
    · exact ⟨rfl, rfl, rfl⟩
    · split <;> exact ⟨rfl, rfl, rfl⟩

/-- The count form of a count (02 R80). -/
theorem countForm_two (or : Bool) (count first : Nat) : countForm 2 or count first =
    BitVec.ofNat 64 (count + (if or then 2 ^ 23 + 2 ^ 46 else 0) + 2 ^ 24 * first) := by
  rw [countForm, if_neg (by decide)]
  congr 1
  cases or
  · simp [b2n]
  · simp [b2n]
    omega

/-- The later result of a contribution: a count, or the accumulator of its stream. -/
theorem Sump.shows_count (u : Sump) {c : Contrib} (h : c.stage ≠ 0) :
    (u.shows c).tiles = u.tiles ∧ (u.shows c).flight = u.flight.filter (fun d => d.id != c.id) ∧
    (c.op = 2 → (u.shows c).last = countForm 2 c.or c.count c.first) ∧
    (c.op ≠ 2 → c.urgent = true → (u.shows c).uaccShown = c.acc ∧ (u.shows c).naccShown = u.naccShown) ∧
    (c.op ≠ 2 → c.urgent = false → (u.shows c).naccShown = c.acc ∧ (u.shows c).uaccShown = u.uaccShown) := by
  rw [Sump.shows, if_neg h]
  dsimp only
  by_cases hop : c.op = 2
  · simp [hop]
  · cases hu : c.urgent <;> simp [hop]

/-! ### The tap (02 R82 to R84) -/

/-- Four bits set one by one from a predicate. -/
theorem nibble_getLsbD (q : Nat → Bool) {g : Nat} (hg : g < 4) :
    ([0, 1, 2, 3].foldl (fun (v : BitVec 4) g => if q g then v ||| (1#4 <<< g) else v) 0).getLsbD g = q g := by
  have hall : ∀ a b c d : Bool, ∀ i : Fin 4, (let r : BitVec 4 := if a then 0 ||| (1#4 <<< 0) else 0
      let r := if b then r ||| (1#4 <<< 1) else r
      let r := if c then r ||| (1#4 <<< 2) else r
      if d then r ||| (1#4 <<< 3) else r).getLsbD i.val = [a, b, c, d].get i := by decide
  refine (hall (q 0) (q 1) (q 2) (q 3) ⟨g, hg⟩).trans ?_
  interval_cases g <;> rfl

theorem State.tapOf_eq (s : State) (l : List TapItem) :
    (s.tapOf l).nv = l.any (fun x => !x.urgent) ∧ (s.tapOf l).uv = l.any (fun x => x.urgent) ∧
    (s.tapOf l).nor = l.any (fun x => !x.urgent && x.or) ∧ (s.tapOf l).uor = l.any (fun x => x.urgent && x.or) ∧
    ∀ g, g < 4 → (s.tapOf l).g.getLsbD g =
      l.any (fun x => tapSrc (s.reg Reg.sumpCtl) g x.urgent && x.tiles &&& s.tgMask g != 0) := by
  have hne (p : TapItem → Bool) : (!(l.filter p).isEmpty) = l.any p := by
    rw [Bool.eq_iff_iff]
    simp [List.any_eq_true]
  refine ⟨hne _, hne _, List.any_filter, List.any_filter, fun g hg => ?_⟩
  exact (nibble_getLsbD _ hg).trans List.any_filter

/-! ### Rising edges (07 R196, R199, R211; 02 R82) -/

/-- Four bits set one by one for the clock trees. -/
theorem treesMask_getLsbD : ∀ (p : Fin 4 → Bool) (i : Fin 4),
    ((List.finRange 4).foldl (fun (m : BitVec 4) n => if p n then m ||| (1#4 <<< n.val) else m) 0).getLsbD i.val = p i := by
  decide

/-- The state with the user pins at these levels, as the edge's own logic sees it. -/
def State.pinned (s : State) (pins : BitVec 48) : State := { s with edge := { s.edge with pinIn := pins } }

/-- The trees that rise: the named ones that run. -/
def State.rising (s : State) (trees : BitVec 4) : BitVec 4 :=
  trees &&& (List.finRange 4).foldl (fun m n => if s.treeRuns n then m ||| (1#4 <<< n.val) else m) 0

theorem State.rising_getLsbD (s : State) (trees : BitVec 4) (i : Fin 4) :
    (s.rising trees).getLsbD i.val = (trees.getLsbD i.val && s.treeRuns i) := by
  rw [State.rising, BitVec.getLsbD_and, treesMask_getLsbD s.treeRuns]

/-- The flip-flops after an edge, one by one. -/
theorem State.ffEdge_getLsbD (s : State) (trees : BitVec 4) {i : Nat} (hi : i < 32768) :
    (s.ffEdge trees).getLsbD i = if trees.getLsbD (Config.cellCfg s.edge.frames i).clk.val = true ∧
      s.edge.isolated.getLsbD (i / 8 % 64 / 8) = false then s.ffNext i else s.edge.ff.getLsbD i := by
  rw [State.ffEdge, BitVec.getLsbD_ofFnLE, dif_pos hi]
  exact if_congr (by simp [bayOfColumn, cellBlock]) rfl rfl

/-- The state once the trees have risen, but for the tap. -/
def State.clocked (s : State) (trees : BitVec 4) (pins : BitVec 48) : State :=
  let s := s.pinned pins
  let up := s.rising trees
  { s with
    free := s.free + 1
    edge := { s.edge with ff := s.ffEdge up }
    jesd := if (List.finRange 4).any (fun n => up.getLsbD n.val && (Config.treeCode s.edge.frames n).val == 5)
      then { s.jesd with rxWord := s.jesd.rxWord.map List.tail } else s.jesd }

/-- The state after a rising edge of these trees: where the tap's is among them, the tap presents its results. -/
def State.clockEdge (s : State) (n : Nat) (trees : BitVec 4) (pins : BitVec 48) : State :=
  if trees.getLsbD (Config.tapTree s.edge.frames).val && s.treeRuns (Config.tapTree s.edge.frames)
    then (s.clocked trees pins).tapEdge n else s.clocked trees pins

theorem State.clockEdge_frame (s : State) (n : Nat) (trees : BitVec 4) (pins : BitVec 48) :
    (s.clockEdge n trees pins).pending = s.pending ∧ (s.clockEdge n trees pins).mode = s.mode ∧
    (s.clockEdge n trees pins).mem = s.mem ∧ (s.clockEdge n trees pins).regs = s.regs ∧
    (s.clockEdge n trees pins).arr = s.arr ∧ (s.clockEdge n trees pins).edge = (s.clocked trees pins).edge := by
  unfold State.clockEdge
  split <;> exact ⟨rfl, rfl, rfl, rfl, rfl, rfl⟩

theorem execTapClockEdge_acts {s : State} (h : s.edgeActs = true) (n : Nat) (trees : BitVec 4) (pins : BitVec 48) :
    execTapClockEdge n trees pins s = .next (s.clockEdge n trees pins) := by
  obtain ⟨hp, hm, -⟩ := s.clockEdge_frame n trees pins
  rw [← done_keep hp hm, execTapClockEdge, when_true h, State.clockEdge,
    show s.treeRuns = (s.pinned pins).treeRuns from rfl, ← State.rising_getLsbD]
  rfl

/-- Of the flip-flops those act that a rising tree clocks, in bays that are not isolated. -/
theorem State.clocked_ff (s : State) (trees : BitVec 4) (pins : BitVec 48) {i : Nat} (hi : i < 32768) :
    (s.clocked trees pins).edge.ff.getLsbD i =
      if (trees.getLsbD (Config.cellCfg s.edge.frames i).clk.val && s.treeRuns (Config.cellCfg s.edge.frames i).clk) = true ∧
        s.edge.isolated.getLsbD (i / 8 % 64 / 8) = false then (s.pinned pins).ffNext i else s.edge.ff.getLsbD i := by
  have hff : (s.clocked trees pins).edge.ff = (s.pinned pins).ffEdge ((s.pinned pins).rising trees) := by
    rw [State.clocked]
  rw [hff, State.ffEdge_getLsbD _ _ hi, State.rising_getLsbD]
  rfl

theorem execTapCollect_cons {s : State} {x : TapItem} {l : List TapItem} (h : s.sump.tapFlight = x :: l) :
    execTapCollect s = .next { s.reach (x.exec + 14) with sump := { s.sump with
      tapFlight := l
      collected := s.sump.collected ++ if (s.reg Reg.sumpCtl).getLsbD 0 then [x] else [] } } := by
  have hsump : (s.reach (x.exec + 14)).sump = s.sump := s.reach_sump _
  have hctl : (s.reach (x.exec + 14)).reg Reg.sumpCtl = s.reg Reg.sumpCtl := by rw [State.reg, s.reach_regs]; rfl
  rw [execTapCollect, h]
  dsimp only
  rw [done_keep (by exact s.reach_pending _) (by exact s.reach_mode _), hsump, hctl, bit]
  cases (s.reg Reg.sumpCtl).getLsbD 0 <;> simp

/-! ### A write of SUMP_CTL (02 R84; 11 R316; 12 R328) -/

/-- No host window shows SUMP_CTL. -/
theorem not_host_of_admitted_sumpCtl {s : State} {q : Requester} (h : s.admitted q true Reg.sumpCtl = true) : q.src ≠ 15 := by
  intro hsrc
  obtain ⟨-, hcode⟩ := State.admitted_iff.mp h
  have hdenied : admits s q true Reg.sumpCtl (.block 6) = false := by
    cases hw : q.winb <;> simp [admits, reqCore, hostAdmits, hsrc, hw, Reg.sumpCtl]
  have hregion : regionOf Reg.sumpCtl = some (.block 6) := by decide
  simp only [accessCode, hregion, hdenied, Bool.not_false, if_true] at hcode
  split at hcode <;> exact absurd hcode (by decide)

theorem sumpCtl_row : ∃ r, regRow Reg.sumpCtl = some r ∧ r.w1c = 0 := ⟨_, rfl, rfl⟩

/-- An admitted write of SUMP_CTL stores its bits; clearing TAP_EN discards what has been collected. -/
theorem execRegisterWrite_sumpCtl {s : State} {q : Requester} (h : s.admitted q true Reg.sumpCtl = true) (v ev : Word) :
    execRegisterWrite q (BitVec.ofNat 48 Reg.sumpCtl) v ev s = .next { s.plainWrite Reg.sumpCtl v with sump := { s.sump with
      collected := if v.getLsbD 0 then s.sump.collected else []
      tap := if v.getLsbD 0 then s.sump.tap else Tap.off } } := by
  obtain ⟨hal, hcode⟩ := State.admitted_iff.mp h
  obtain ⟨r, hr, hw1c⟩ := sumpCtl_row
  have hkeep (t : State) : t.keepW1c s Reg.sumpCtl ev = t := by
    have hseq : Reg.sumpCtl ≠ Reg.seqcoreIrqPend := by decide
    have hcmd : Reg.sumpCtl ≠ Reg.seqcoreIrqPend + 0x10000 := by decide
    simp [State.keepW1c, hr, hw1c, w32, hseq, hcmd]
  have hwrite : s.writeAny Reg.sumpCtl v = s.writeSump Reg.sumpCtl v := by
    simp only [State.writeAny, show Reg.sumpCtl ≠ Reg.dbgMctl by decide, show Reg.sumpCtl ≠ Reg.dbgMctl + 0x1000 by decide,
      if_false, ite_self]
    rfl
  unfold execRegisterWrite
  rw [State.fromHost_of_ne_host s (not_host_of_admitted_sumpCtl h),
    show (BitVec.ofNat 48 Reg.sumpCtl).toNat = Reg.sumpCtl from rfl, regWrite_admitted _ hal hcode, hkeep, hwrite]
  have hsump : (s.plainWrite Reg.sumpCtl v).sump = s.sump := by rw [(s.plainWrite_stores hr v).frame]
  rw [State.writeSump]
  dsimp only
  cases hen : v.getLsbD 0
  · rw [if_pos ⟨rfl, hen⟩, hsump]
    exact done_keep (by rw [(s.plainWrite_stores hr v).frame]) (by rw [(s.plainWrite_stores hr v).frame])
  · rw [if_neg (by simp [bit, hen]), if_pos rfl, if_pos rfl]
    exact done_keep (by rw [(s.plainWrite_stores hr v).frame]) (by rw [(s.plainWrite_stores hr v).frame])

/-- A read of SUMP_TILEOR takes the snapshot of its reader (02 R85). -/
theorem execTileorSnapshot_admitted {s : State} {q : Requester} (h : s.admitted q false Reg.sumpTileor = true) :
    execTileorSnapshot q s = .next { s with
      sump := if q.quiet then { s.sump with dbgSnap := s.sump.tiles } else { s.sump with snap := s.sump.tiles } } := by
  obtain ⟨hal, hcode⟩ := State.admitted_iff.mp h
  rw [execTileorSnapshot, when_true hal, hcode]
  exact done_keep rfl rfl

end Sys2Proof.Machine

open Sys2Proof Sys2Proof.Machine

/-- Settles O36: what a result shows is Sump.shows, with or without a parity error; what an edge presents is tapOf of the
results it covers. -/
theorem sumpAndTap : Obligations.SumpAndTap := by
  unfold Obligations.SumpAndTap
  intro s q
  refine ⟨fun c hc => ?_, fun x l hflight => ?_, fun n trees pins => ⟨fun h => ?_, fun h => ?_⟩, fun v ev hal hadm => ?_,
    fun hadm => ?_⟩
  · obtain ⟨l, m, k, ht, hor, -, -⟩ := execSumpResult_next hc false
    obtain ⟨l', m', k', hu, -, hbit, hreg⟩ := execSumpResult_next hc true
    obtain ⟨hnacc, huacc, hsnap⟩ := s.sump.shows_frame c
    obtain ⟨hparity, hseen⟩ := s.sumpAt_parity c
    refine ⟨_, ht, s.reach_mem c.due, s.reach_arr c.due, hnacc, huacc, hsnap, fun h0 => ?_, fun h0 => ?_, _, hu,
      ⟨hbit hparity, ?_⟩, rfl⟩
    · have hshow := s.sump.shows_or h0
      refine ⟨congrArg Sump.tiles hshow, (hor h0).trans (s.reach_regs c.due), fun hop => ?_, fun hop => ?_⟩
      · exact (congrArg Sump.flight hshow).trans (if_pos hop)
      · exact (congrArg Sump.flight hshow).trans (if_neg hop)
    · obtain ⟨htiles, hflight, hlast, hurgent, hnormal⟩ := s.sump.shows_count h0
      exact ⟨htiles, hflight, fun hop => (hlast hop).trans (countForm_two _ _ _), hurgent, hnormal⟩
    · rw [← hseen, State.fatalSeen, State.fatalSeen, State.fld, State.fld, ← hreg _ (by decide)]
      rfl
  · exact ⟨_, execTapCollect_cons hflight, rfl, s.reach_mem _, s.reach_regs _, s.reach_arr _⟩
  · show execTapClockEdge n trees pins s = _
    exact when_false h _ _
  · obtain ⟨-, -, hmem, hregs, harr, hedge⟩ := s.clockEdge_frame n trees pins
    refine ⟨_, execTapClockEdge_acts h n trees pins, hmem, hregs, harr, congrArg Edge.pinIn hedge, fun i hi => ?_,
      fun htap => ?_, fun htap => ?_⟩
    · rw [hedge]
      exact s.clocked_ff trees pins hi
    · rw [State.clockEdge, if_neg (by simpa using htap)]
      rfl
    · obtain ⟨hnv, huv, hnor, huor, hg⟩ := s.tapOf_eq (s.sump.collected.filter (fun x => x.age != 0) ++
        (((s.sump.collected.filter (fun x => x.age == 0)).zipIdx).filter (fun x => n.testBit x.2)).map (·.1))
      have ht : s.clockEdge n trees pins = (s.clocked trees pins).tapEdge n := if_pos htap
      rw [ht]
      refine ⟨rfl, fun hen => ?_, fun hen => ?_⟩
      · exact if_neg (Bool.eq_false_iff.mp hen)
      · have htap : ((s.clocked trees pins).tapEdge n).sump.tap = s.tapOf _ := if_pos hen
        rw [htap]
        exact ⟨hnv, huv, hnor, huor, hg⟩
  · obtain ⟨r, hr, -⟩ := sumpCtl_row
    obtain ⟨hframe, hother, -⟩ := s.plainWrite_stores hr v
    have hmem : (s.plainWrite Reg.sumpCtl v).mem = s.mem := by rw [hframe]
    have harr : (s.plainWrite Reg.sumpCtl v).arr = s.arr := by rw [hframe]
    exact ⟨_, execRegisterWrite_sumpCtl hadm v ev, hmem, harr, hother, rfl⟩
  · exact execTileorSnapshot_admitted hadm

end

section
/-! A stored microword that runs to its end: what its cycle leaves alone, and where it goes next (02 R40 to R59; 03 R92 to
R98). -/
namespace Sys2Proof.Machine

/-! ### Commits and reads without errors (02 R50 to R52) -/

/-- The array in which t stands is that of s but for the planes: nothing else has changed, and no error is stored. -/
structure State.OnlyWells (s t : State) : Prop where
  frame : t = { s with arr := t.arr }
  errs : t.arr.errs = []
  inj : t.arr.inj = []

theorem State.onlyWells_refl {s : State} (he : s.arr.errs = []) (hi : s.arr.inj = []) : s.OnlyWells s := ⟨rfl, he, hi⟩

theorem State.OnlyWells.trans {s t u : State} (h : s.OnlyWells t) (h' : t.OnlyWells u) : s.OnlyWells u :=
  ⟨by rw [h'.frame, h.frame], h'.errs, h'.inj⟩

/-- A commit stores no error where none is stored and none is injected. -/
theorem State.commit_onlyWells {s : State} (he : s.arr.errs = []) (hi : s.arr.inj = []) (w : WellWrite) :
    s.OnlyWells (s.commit w) := by
  unfold State.commit
  split
  · exact ⟨rfl, by simp [he], hi⟩
  · exact ⟨rfl, by simp [State.setWell, he, hi], by simp [State.setWell, hi]⟩

theorem State.settleFrom_onlyWells {s : State} (he : s.arr.errs = []) (hi : s.arr.inj = []) (c : Nat) (l : List WellWrite) :
    s.OnlyWells (s.settleFrom c l) := by
  induction l generalizing s with
  | nil => exact State.onlyWells_refl he hi
  | cons w l ih =>
    rw [State.settleFrom]
    split
    · have hw := State.commit_onlyWells he hi w
      exact hw.trans (ih hw.errs hw.inj)
    · exact ih he hi

theorem State.settle_onlyWells {s : State} (he : s.arr.errs = []) (hi : s.arr.inj = []) (c : Nat) :
    s.OnlyWells (s.settle c) := by
  obtain ⟨hframe, herrs, hinj⟩ := State.settleFrom_onlyWells he hi c s.arr.flight
  unfold State.settle
  dsimp only
  rw [hframe]
  exact ⟨rfl, herrs, hinj⟩

/-- Reads meet no error where none is stored. -/
theorem State.readCheck_of_no_errs {s : State} (h : s.arr.errs = []) (planes merge : List Nat) (src cyc : Nat) :
    s.readCheck planes merge src cyc = (s, false) := by
  have hes : s.errsOf (planes ++ merge) = [] := by rw [State.errsOf, h, List.filter_nil]
  rw [State.readCheck, hes]
  rfl

/-! ### Stalls, the pumps at a swap, the lanes -/

/-- Counting stalls changes stored words and the two counts. -/
theorem State.countStalls_frame (s : State) (total sump : Nat) :
    ∃ l i w, s.countStalls total sump = { s with regs := l, mseq := { s.mseq with istall := i, sstall := w } } := by
  unfold State.countStalls
  dsimp only
  split <;> split <;> exact ⟨_, _, _, rfl⟩

/-- A plane swap at one pump: its field's IO rows, the pump, PUMP_STAT. -/
theorem swapPump_frame (s : State) (f : Fin 16) :
    ∃ l n io p, swapPump s f = { s with regs := l, free := n, arr := { s.arr with io := io }, pump := p } := by
  unfold swapPump State.pumpEarly
  split
  · exact ⟨_, _, _, _, rfl⟩
  · dsimp only
    split
    · exact ⟨_, _, _, _, rfl⟩
    · split
      · exact ⟨_, _, _, _, rfl⟩
      · split <;> exact ⟨_, _, _, _, rfl⟩
      · exact ⟨_, _, _, _, rfl⟩

theorem swapPumps_frame (s : State) (skip : Option Nat) :
    ∃ l n io p, swapPumps s skip = { s with regs := l, free := n, arr := { s.arr with io := io }, pump := p } := by
  unfold swapPumps
  generalize (List.finRange 16).filter (fun f => skip != some f.val) = fs
  induction fs generalizing s with
  | nil => exact ⟨_, _, _, _, rfl⟩
  | cons f fs ih =>
    obtain ⟨l, n, io, p, hf⟩ := swapPump_frame s f
    obtain ⟨l', n', io', p', hfs⟩ := ih (swapPump s f)
    exact ⟨l', n', io', p', by rw [List.foldl_cons, hfs, hf]⟩

/-- What the lanes do stays in the array and the sump, and a plane write and a swap are on their way until two cycles after
the execute cycle e. -/
theorem State.lanes_frame (s : State) (o : MOp) (urgent : Bool) (e : Nat) (skip : Option Nat) :
    ∃ a u, (s.lanes o urgent e skip).1 = { s with arr := a, sump := u } ∧
      (∀ p cond, o.wr = some (p, cond) → ∃ w ∈ a.flight, w.plane = p ∧ w.due = e + 2 ∧ w.urgent = urgent ∧ w.scrub = none) ∧
      (∀ p, o.swap = some p → ∃ w ∈ a.flight, w.isSwap = true ∧ w.due = e + 2) := by
  unfold State.lanes
  dsimp only
  cases o.wr with
  | none =>
    cases o.swap with
    | none => split <;> exact ⟨_, _, rfl, nofun, nofun⟩
    | some q => split <;> exact ⟨_, _, rfl, nofun, fun _ _ => ⟨_, List.mem_concat_self, rfl, rfl⟩⟩
  | some x =>
    have hwrite {a : List WellWrite} {w : WellWrite} (hw : w ∈ a) (hplane : w.plane = x.1) (hdue : w.due = e + 2)
        (hurgent : w.urgent = urgent) (hscrub : w.scrub = none) (p cond : Nat) (hx : some x = some (p, cond)) :
        ∃ w ∈ a, w.plane = p ∧ w.due = e + 2 ∧ w.urgent = urgent ∧ w.scrub = none := by
      cases hx
      exact ⟨w, hw, hplane, hdue, hurgent, hscrub⟩
    cases o.swap with
    | none => split <;> exact ⟨_, _, rfl, hwrite List.mem_concat_self rfl rfl rfl rfl, nofun⟩
    | some q =>
      split <;> exact ⟨_, _, rfl, hwrite (List.mem_append_left _ List.mem_concat_self) rfl rfl rfl rfl,
        fun _ _ => ⟨_, List.mem_concat_self, rfl, rfl⟩⟩

/-! ### One microword (03 R92 to R98) -/

/-- Nothing befalls the microword: no mismatch, no parity error, no upset. -/
def quietEvents : MwEvents := ⟨false, none, none⟩

/-- t is s once routine r has executed the microword o, whatever follows it: the clock stands behind its last cycle, it is
shown as broadcast, and its writes are on their way. -/
structure State.WordRan (s : State) (r : Running) (o : MOp) (t : State) : Prop where
  acyc : t.acyc = s.lastCycle r + 1
  curAddr : t.mseq.curAddr = r.next
  curRtn : t.mseq.curRtn = r.entry.rtn
  mem : t.mem = s.mem
  pending : t.pending = s.pending
  mode : t.mode = s.mode
  wrote : ∀ p cond, o.wr = some (p, cond) → ∃ w ∈ t.arr.flight, w.plane = p ∧ w.due = s.lastCycle r + 2 ∧
    w.urgent = r.entry.urgent ∧ w.scrub = none
  swapped : ∀ p, o.swap = some p → ∃ w ∈ t.arr.flight, w.isSwap = true ∧ w.due = s.lastCycle r + 2

/-- What follows a microword changes neither clock, array, memory, queue nor mode, and shows no other microword. -/
theorem State.WordRan.after {s t u : State} {r : Running} {o : MOp} (h : s.WordRan r o t) (hacyc : u.acyc = t.acyc)
    (haddr : u.mseq.curAddr = t.mseq.curAddr) (hrtn : u.mseq.curRtn = t.mseq.curRtn) (hmem : u.mem = t.mem)
    (hpending : u.pending = t.pending) (hmode : u.mode = t.mode) (harr : u.arr = t.arr) : s.WordRan r o u where
  acyc := hacyc.trans h.acyc
  curAddr := haddr.trans h.curAddr
  curRtn := hrtn.trans h.curRtn
  mem := hmem.trans h.mem
  pending := hpending.trans h.pending
  mode := hmode.trans h.mode
  wrote := harr ▸ h.wrote
  swapped := harr ▸ h.swapped

/-- A microword executes where no error is stored or injected: it runs to its end, and of the routine only the last
contribution and the commit phase change. -/
theorem State.execOp_quiet {s : State} {r : Running} (he : s.arr.errs = []) (hi : s.arr.inj = []) (hlib : s.fromLib r = false)
    (o : MOp) : ∃ t r', s.execOp r o quietEvents = (t, r', true) ∧ r'.entry = r.entry ∧ r'.next = r.next ∧ s.WordRan r o t := by
  let rm := r.mark s.acyc (s.spanOf r).marks
  let s1 := (s.countStalls (s.spanOf r).stall (s.spanOf r).sump).show rm
  let s2 := s1.settle (s.lastCycle r)
  let s3 := if o.swap.isSome then swapPumps s2 none else s2
  have hs1 : ∃ l i w, s1 = { s with
      regs := l, mseq := { s.mseq with istall := i, sstall := w, curRtn := r.entry.rtn, curAddr := r.next } } := by
    obtain ⟨l, i, w, hstall⟩ := s.countStalls_frame (s.spanOf r).stall (s.spanOf r).sump
    refine ⟨l, i, w, ?_⟩
    have haddr : (s.countStalls (s.spanOf r).stall (s.spanOf r).sump).addrOf rm = r.next := by
      rw [hstall]
      exact if_neg fun h => absurd (hlib.symm.trans h.1) (by decide)
    show State.show _ _ = _
    rw [State.show, haddr, hstall]
    rfl
  obtain ⟨l, i, w, hs1⟩ := hs1
  have hs2 : s1.OnlyWells s2 := State.settle_onlyWells (by rw [hs1]; exact he) (by rw [hs1]; exact hi) _
  have hread := State.readCheck_of_no_errs hs2.errs o.reads (o.allReads.drop o.reads.length) 0 (s.lastCycle r)
  have hs3 : ∃ l n a p, s3 = { s1 with regs := l, free := n, arr := a, pump := p } := by
    by_cases hsw : o.swap.isSome = true
    · obtain ⟨l, n, io, p, hp⟩ := swapPumps_frame s2 none
      exact ⟨l, n, _, p, (if_pos hsw).trans (by rw [hp, hs2.frame])⟩
    · exact ⟨_, _, s2.arr, _, (if_neg hsw).trans hs2.frame⟩
  obtain ⟨l', n, a, p, hs3⟩ := hs3
  obtain ⟨a', u, hlanes, hwrote, hswapped⟩ := s3.lanes_frame o r.entry.urgent (s.lastCycle r) none
  have hrun : s.execOp r o quietEvents =
      let c := s3.lanes o r.entry.urgent (s.lastCycle r) none
      let r' := { rm with last := match c.2 with
        | some c => some c
        | none => r.last }
      ({ c.1 with acyc := s.lastCycle r + 1, mseq := { c.1.mseq with run := some r' } }, r', true) := by
    rw [State.execOp]
    dsimp only [quietEvents]
    rw [show (((s.countStalls (s.spanOf r).stall (s.spanOf r).sump).show (r.mark s.acyc (s.spanOf r).marks)).settle
      (s.lastCycle r)).upset none = s2 from rfl, hread]
    rfl
  refine ⟨_, _, hrun, rfl, rfl, ?_⟩
  dsimp only
  rw [hlanes, hs3, hs1]
  exact ⟨rfl, rfl, rfl, rfl, rfl, rfl, hwrote, hswapped⟩

/-! ### Where it goes next (03 R94, R95) -/

/-- What follows a microword of routine r in cycle e: the state after its sequencing operation. -/
def State.sequenced (t : State) (r : Running) (e : Nat) : Next → State
  | .goto a l =>
    let t := t.setLoop r.entry.urgent l
    { t with mseq := { t.mseq with run := some { r with next := a } } }.addrBreak
  | .stop l => (t.setLoop r.entry.urgent l).endRoutine r e
  | .fault => t.mseqFatal 4 0 r.next r.entry.rtn e

theorem State.addrBreak_frame (s : State) :
    ∃ b k, s.addrBreak = { s with mseq := { s.mseq with brk := b }, seq := k } := by
  unfold State.addrBreak
  split
  · exact ⟨_, _, rfl⟩
  · split <;> exact ⟨_, _, rfl⟩

theorem State.setLoop_frame (s : State) (urgent : Bool) (l : LoopSt) :
    ∃ n u, s.setLoop urgent l = { s with mseq := { s.mseq with loopN := n, loopU := u } } := by
  cases urgent <;> exact ⟨_, _, rfl⟩

theorem State.setLoop_loop (s : State) (urgent : Bool) (l : LoopSt) : (s.setLoop urgent l).mseq.loop urgent = l := by
  cases urgent <;> rfl

theorem Mseq.loop_of_eq {m m' : Mseq} (hn : m'.loopN = m.loopN) (hu : m'.loopU = m.loopU) (urgent : Bool) :
    m'.loop urgent = m.loop urgent := by
  rw [Mseq.loop, Mseq.loop, hn, hu]

/-- A routine that goes on stands at the address named, with the loop state that the operation left. -/
theorem State.sequenced_goto (t : State) (r : Running) (e a : Nat) (l : LoopSt) :
    (t.sequenced r e (.goto a l)).mseq.run = some { r with next := a } ∧
    (t.sequenced r e (.goto a l)).mseq.loop r.entry.urgent = l := by
  rw [State.sequenced]
  dsimp only
  obtain ⟨b, k, hb⟩ := State.addrBreak_frame { t.setLoop r.entry.urgent l with
    mseq := { (t.setLoop r.entry.urgent l).mseq with run := some { r with next := a } } }
  rw [hb]
  exact ⟨rfl, (Mseq.loop_of_eq rfl rfl _).trans (t.setLoop_loop _ l)⟩

/-- A routine that ends has its last cycle behind it. -/
theorem State.sequenced_stop (t : State) (r : Running) (e : Nat) (l : LoopSt) :
    (t.sequenced r e (.stop l)).mseq.run = none ∧
    (t.sequenced r e (.stop l)).mseq.lastP = some (e, r.entry.urgent) := ⟨rfl, rfl⟩

theorem State.mseqFatal_frame (s : State) (cause field addr rtn cyc : Nat) : ∃ l v w c, s.mseqFatal cause field addr rtn cyc =
    { s with regs := l, valve := v, twin := w, mseq := { s.mseq with fatalCyc := c } } := by
  unfold State.mseqFatal
  dsimp only
  split
  · obtain ⟨l, v, w, c, hf⟩ := State.fatalIn_frame
      (s.setReg Reg.mseqFatal (BitVec.ofNat 32 (cause + 16 * field + 256 * addr + 2 ^ 22 * rtn))) (cause + 2) cyc
    exact ⟨l, v, w, c, hf⟩
  · exact s.fatalIn_frame (cause + 2) cyc

theorem State.WordRan.sequenced {s t : State} {r r' : Running} {o : MOp} (h : s.WordRan r o t) (e : Nat) (n : Next) :
    s.WordRan r o (t.sequenced r' e n) := by
  cases n with
  | goto a l =>
    obtain ⟨x, y, hl⟩ := t.setLoop_frame r'.entry.urgent l
    obtain ⟨b, k, hb⟩ := State.addrBreak_frame { t.setLoop r'.entry.urgent l with
      mseq := { (t.setLoop r'.entry.urgent l).mseq with run := some { r' with next := a } } }
    rw [State.sequenced]
    dsimp only
    rw [hb, hl]
    exact h.after rfl rfl rfl rfl rfl rfl rfl
  | stop l =>
    obtain ⟨x, y, hl⟩ := t.setLoop_frame r'.entry.urgent l
    rw [State.sequenced, State.endRoutine, hl]
    exact h.after rfl rfl rfl rfl rfl rfl rfl
  | fault =>
    obtain ⟨l, v, w, c, hf⟩ := t.mseqFatal_frame 4 0 r'.next r'.entry.rtn e
    rw [State.sequenced, hf]
    exact h.after rfl rfl rfl rfl rfl rfl rfl

/-- A legal stored microword of a routine of the library's numbers, which changes no loop state by itself: it executes, and
then comes what its sequencing operation names. -/
theorem State.runWord_quiet {s : State} {r : Running} {m : Micro} (he : s.arr.errs = []) (hi : s.arr.inj = [])
    (hlib : s.fromLib r = false) (hlegal : illegalMicro m = false) (hrtn : r.entry.rtn < 512) (hlop : mf m 107 105 = 0) :
    ∃ t r', s.WordRan r (opOf m r.entry (s.mseq.loop r.entry.urgent).lidx r.edge) t ∧ r'.entry = r.entry ∧
      s.runWord r m quietEvents = t.sequenced r' (s.lastCycle r) (seqStep m r.next (match r.last with
        | some c => c.or
        | none => false) (s.mseq.loop r.entry.urgent)) := by
  obtain ⟨t, r', hrun, hentry, hnext, hran⟩ := State.execOp_quiet he hi hlib
    (opOf m r.entry (s.mseq.loop r.entry.urgent).lidx r.edge)
  refine ⟨t, r', hran, hentry, ?_⟩
  have hguard : s.guardOf r m = 0 := if_neg (by omega)
  have hstep : lopStep m r.entry (s.mseq.loop r.entry.urgent) = some (s.mseq.loop r.entry.urgent) := by
    rw [lopStep, hlop]
    rfl
  unfold State.runWord
  rw [if_neg (by simp [hlegal])]
  dsimp only
  rw [hguard, hrun, hstep, ← hnext]
  dsimp only
  generalize seqStep m r'.next _ _ = n
  cases n <;> rw [State.sequenced, hentry] <;> rfl

/-- s with the permission of a single step used up (16 R433). -/
def State.stepUsed (s : State) : State := { s with dbg := { s.dbg with mstep := false } }

/-- A routine that does not run from the library has its next microword in the store. -/
theorem State.planOf_stored {s : State} {r : Running} {m : Micro} (hlib : s.fromLib r = false)
    (hm : sget (fun _ => (0 : Micro)) s.mseq.cs r.next = m) : s.planOf r = .word m := by
  rw [State.planOf, hlib, ← hm]
  rfl

theorem State.runStep_word {s : State} {r : Running} {m : Micro} (hrun : s.mseq.run = some r) (hlib : s.fromLib r = false)
    (hm : sget (fun _ => (0 : Micro)) s.mseq.cs r.next = m) (hdown : s.mseqDown = false)
    (hbrk : s.mseq.brk = none ∨ s.dbg.mstep = true) (hpre : s.preemptAt = none) (hover : s.overrunDue r = false) :
    s.runStep quietEvents = s.stepUsed.runWord r m quietEvents := by
  have hgo : (s.mseqDown || (s.mseq.brk.isSome && !s.dbg.mstep) || s.preemptAt.isSome || s.overrunDue r) = false := by
    obtain h | h := hbrk <;> simp [hdown, hpre, hover, h]
  have hplan : s.stepUsed.planOf r = .word m := State.planOf_stored hlib hm
  rw [State.runStep, hrun]
  dsimp only
  rw [if_neg (by simp [hgo])]
  rw [State.stepUsed] at hplan ⊢
  rw [if_neg (by decide), hplan]

/-- PLANE_SWAP is such a microword with its swap bit set. -/
theorem State.swapNext_word {s : State} {r : Running} {m : Micro} (hrun : s.mseq.run = some r) (hlib : s.fromLib r = false)
    (hm : sget (fun _ => (0 : Micro)) s.mseq.cs r.next = m) : s.swapNext = m.getLsbD 119 := by
  rw [State.swapNext, hrun]
  dsimp only
  rw [State.planOf_stored hlib hm]

/-- The first four sequencing operations go on: to the next address, or to the target (03 R95). -/
theorem seqStep_of_le_three {m : Micro} {a : Nat} (ha : a < 16383) (hv : mf m 90 88 ≤ 3) (or : Bool) (l : LoopSt) :
    ∃ l', seqStep m a or l = .goto (if mf m 90 88 = 0 ∨ (mf m 90 88 = 1 ∧ l.lcnt = 0) ∨ (mf m 90 88 = 2 ∧ or = false) ∨
        (mf m 90 88 = 3 ∧ or = true) then a + 1 else mf m 104 91) l' ∧
      (mf m 90 88 = 1 → l'.lcnt = l.lcnt - 1 ∧ l'.lidx = (l.lidx + 1) % 256) := by
  have hcont (l : LoopSt) : Next.cont a l = .goto (a + 1) l := if_neg (by omega)
  unfold seqStep
  interval_cases h : mf m 90 88
  · exact ⟨l, by simp [hcont], nofun⟩
  · refine ⟨{ l with lidx := (l.lidx + 1) % 256, lcnt := l.lcnt - 1 }, ?_, fun _ => ⟨rfl, rfl⟩⟩
    by_cases hl : l.lcnt = 0 <;> simp [hl, hcont]
  · exact ⟨l, by cases or <;> simp [hcont], nofun⟩
  · exact ⟨l, by cases or <;> simp [hcont], nofun⟩

/-- CALL: the return address is stacked, four deep at most. -/
theorem seqStep_call {m : Micro} {a : Nat} (ha : a < 16383) (hv : mf m 90 88 = 4) (or : Bool) {l : LoopSt}
    (hl : l.calls.length < 4) : seqStep m a or l = .goto (mf m 104 91) { l with calls := (a + 1) :: l.calls } := by
  unfold seqStep
  simp only [hv]
  rw [if_neg (by omega)]

theorem seqStep_return {m : Micro} {a b : Nat} {c : List Nat} (hv : mf m 90 88 = 5) (or : Bool) {l : LoopSt}
    (hl : l.calls = b :: c) : seqStep m a or l = .goto b { l with calls := c } := by
  unfold seqStep
  simp only [hv, hl]

theorem seqStep_end {m : Micro} (a : Nat) (hv : mf m 90 88 = 6) (or : Bool) (l : LoopSt) : seqStep m a or l = .stop l := by
  unfold seqStep
  simp only [hv]

end Sys2Proof.Machine

open Sys2Proof Sys2Proof.Machine

/-- Settles O34: the microword executes as runWord_quiet says, and each sequencing operation is one equation of seqStep. -/
theorem microwordRuns : Obligations.MicrowordRuns := by
  unfold Obligations.MicrowordRuns
  intro s r m quiet l o e v dst tested goes hrun hlib hm hdown hbrk hpre hover hlegal hrtn he hi hlop hnext
  obtain ⟨t, r', hran, hentry, hword⟩ := State.runWord_quiet (s := s.stepUsed) he hi hlib hlegal hrtn hlop
  have hstep : s.runStep quiet = t.sequenced r' e (seqStep m r.next tested l) :=
    (State.runStep_word hrun hlib hm hdown hbrk hpre hover).trans hword
  obtain ⟨hacyc, haddr, hcur, hmem, hpending, hmode, hwrote, hswapped⟩ := hran.sequenced (r' := r') e (seqStep m r.next tested l)
  have hexec : execMicroword quiet s = .next (s.runStep quiet) := by
    rw [execMicroword, hstep]
    exact done_keep hpending hmode
  have hgoto (a : Nat) (l' : LoopSt) (h : seqStep m r.next tested l = .goto a l') : goes (s.runStep quiet) a ∧
      (s.runStep quiet).mseq.loop r.entry.urgent = l' := by
    obtain ⟨hnew, hloop⟩ := t.sequenced_goto r' e a l'
    rw [hstep, h]
    exact ⟨⟨_, hnew, rfl, hentry⟩, hentry ▸ hloop⟩
  rw [← hstep] at hacyc haddr hcur hmem hwrote hswapped
  refine ⟨s.runStep quiet, hexec, hacyc, haddr, hcur, hmem, fun hv => ?_, fun hv => ?_, fun hv hl => ?_, fun a c hv hl => ?_,
    fun hv => ?_, fun p cond hwr _ => hwrote p cond hwr, fun hsw => ⟨?_, fun _ => ?_⟩⟩
  · obtain ⟨l', hseq, -⟩ := seqStep_of_le_three hnext hv tested l
    exact (hgoto _ l' hseq).1
  · obtain ⟨l', hseq, hloop⟩ := seqStep_of_le_three hnext (le_of_eq_of_le hv (by decide)) tested l
    rw [(hgoto _ l' hseq).2]
    exact hloop hv
  · obtain ⟨hgoes, hloop⟩ := hgoto _ _ (seqStep_call hnext hv tested hl)
    exact ⟨hgoes, by rw [hloop]⟩
  · obtain ⟨hgoes, hloop⟩ := hgoto _ _ (seqStep_return hv tested hl)
    exact ⟨hgoes, by rw [hloop]⟩
  · rw [hstep, seqStep_end r.next hv tested l, ← hentry]
    exact t.sequenced_stop r' e l
  · show execPlaneSwap quiet s = _
    rw [execPlaneSwap, when_true ((State.swapNext_word hrun hlib hm).trans hsw)]
    exact hexec
  · exact hswapped _ (if_pos hsw)

end

section
/-! What the logs of the blocks change: stored words, free values, the cores' interrupt lines (11 R323; 15 R403 to R407;
06 R173, R182). -/
namespace Sys2Proof.Machine

/-- t is s after something was logged: stored words at the addresses log, free values, and the cores' lines. -/
structure State.Noted (s t : State) (log : List Nat) : Prop where
  frame : t = { s with regs := t.regs, free := t.free, seq := t.seq, cmd := t.cmd }
  others : ∀ b, b ∉ log → t.reg b = s.reg b

theorem State.noted_refl (s : State) (log : List Nat) : s.Noted s log := ⟨rfl, fun _ _ => rfl⟩

theorem State.Noted.trans {s t u : State} {log log' : List Nat} (h : s.Noted t log) (h' : t.Noted u log') :
    s.Noted u (log ++ log') := by
  refine ⟨by rw [h'.frame, h.frame], fun b hb => ?_⟩
  obtain ⟨hb1, hb2⟩ := not_or.mp (List.mem_append.not.mp hb)
  exact (h'.others b hb2).trans (h.others b hb1)

theorem State.Noted.mono {s t : State} {log log' : List Nat} (h : s.Noted t log) (hsub : ∀ b ∈ log, b ∈ log') :
    s.Noted t log' := ⟨h.frame, fun b hb => h.others b fun hl => hb (hsub b hl)⟩

theorem State.setReg_noted (s : State) (a : Nat) (v : Word) : s.Noted (s.setReg a v) [a] :=
  ⟨rfl, fun b hb => s.setReg_reg_other a b v (by simpa using hb)⟩

theorem State.setFld_noted (s : State) (a hi lo v : Nat) : s.Noted (s.setFld a hi lo v) [a] := s.setReg_noted a _

theorem State.setBit_noted (s : State) (a i : Nat) : s.Noted (s.setBit a i) [a] := s.setReg_noted a _

theorem State.irq_noted (s : State) (c : CoreId) (n : Nat) : s.Noted (s.irq c n) [] := by
  cases c <;> exact ⟨rfl, fun _ _ => rfl⟩

theorem State.countEv_noted (s : State) (a hi lo oa ob n : Nat) : s.Noted (s.countEv a hi lo oa ob n) [a, oa] := by
  unfold State.countEv
  split
  · exact s.noted_refl _
  · dsimp only
    split
    · exact (s.setFld_noted a hi lo _).trans (State.setBit_noted _ oa ob)
    · exact (s.setFld_noted a hi lo _).mono (by simp)

theorem State.countWord_noted (s : State) (a oa ob n : Nat) : s.Noted (s.countWord a oa ob n) [a, oa] :=
  s.countEv_noted a 31 0 oa ob n

/-- The words of the contained-error log. -/
def containedRegs : List Nat := [Reg.errorContCnt, Reg.errorContLog]

theorem State.contained_noted (s : State) (code : Nat) : s.Noted (s.contained code) containedRegs := by
  let s1 := s.countWord Reg.errorContCnt Reg.errorContLog 7 1
  have h1 : s.Noted s1 containedRegs := s.countWord_noted _ _ 7 1
  have h2 : s1.Noted (if bit (s1.reg Reg.errorContLog) 6 then s1
      else (s1.setFld Reg.errorContLog 6 0 (code + 64)).setFld Reg.errorContLog 31 8 (s1.tick.count.toNat % 2 ^ 24))
      containedRegs := by
    split
    · exact s1.noted_refl _
    · exact ((s1.setFld_noted _ 6 0 _).trans (State.setFld_noted _ _ 31 8 _)).mono (by simp [containedRegs])
  exact ((h1.trans h2).trans ((State.irq_noted _ .cmd 1).trans (State.irq_noted _ .seq 4))).mono (by simp)

/-- The words of the log of refused requests. -/
def ringLogRegs : List Nat := [Reg.ringErrcnt, Reg.ringStat, Reg.ringErrlog, Reg.ringErraddrLo, Reg.ringErraddrHi]

theorem logResponse_noted (s : State) (q : Requester) (a tag code : Nat) :
    s.Noted (logResponse s q a tag code) ringLogRegs := by
  have hcount := s.countWord_noted Reg.ringErrcnt Reg.ringStat 4 1
  unfold logResponse
  split
  · exact s.noted_refl _
  · dsimp only
    split
    · exact hcount.mono (by simp [ringLogRegs])
    · exact (hcount.trans (((State.setReg_noted _ Reg.ringErrlog _).trans (State.setReg_noted _ Reg.ringErraddrLo _)).trans
        (State.setReg_noted _ Reg.ringErraddrHi _))).mono (by simp [ringLogRegs])

theorem logUntagged_noted (s : State) (q : Requester) (a code : Nat) : s.Noted (logUntagged s q a code) ringLogRegs := by
  unfold logUntagged
  split
  · exact s.noted_refl _
  · have hfree : s.Noted (s.useFree 1) [] := ⟨rfl, fun b _ => s.useFree_reg 1 b⟩
    exact hfree.trans (logResponse_noted _ q a _ code)

/-- An ECC error that a read meets is counted, recorded and raised, whichever memory the word is in. -/
theorem State.memEcc_noted (s : State) (a : Nat) (ecc : Ecc) : ∃ log, s.Noted (s.memEcc a ecc) log := by
  unfold State.memEcc
  split
  · exact ⟨[], s.noted_refl _⟩
  · exact ⟨_, (s.countEv_noted _ 31 0 _ _ 1).trans (State.setBit_noted _ _ 2)⟩
  · exact ⟨_, (s.countWord_noted _ _ 15 1).trans (State.setBit_noted _ _ 1)⟩
  · dsimp only
    split
    · exact ⟨_, s.contained_noted 33⟩
    · exact ⟨_, (((((s.setBit_noted _ 2).trans (State.setFld_noted _ _ 3 3 _)).trans (State.setReg_noted _ _ _)).trans
        (State.setReg_noted _ _ _)).trans (State.contained_noted _ 33))⟩
  · dsimp only
    split
    · exact ⟨_, s.contained_noted 32⟩
    · split
      · exact ⟨_, ((s.setFld_noted _ 13 8 _).trans (State.setBit_noted _ _ 14)).trans (State.contained_noted _ 32)⟩
      · exact ⟨_, (s.setBit_noted _ 14).trans (State.contained_noted _ 32)⟩

end Sys2Proof.Machine
end

section
/-! Functions of the state that act on memory alone, or on memory and stored words: what they answer depends on nothing
else and touches nothing else (06 R176, R191). -/
namespace Sys2Proof.Machine

/-- f changes memory alone, by what memory holds. -/
def MemOnly (f : State → State) : Prop := ∃ g : List Host.Cell → List Host.Cell, ∀ s, f s = { s with mem := g s.mem }

/-- f changes memory and stored words alone, by what they hold. -/
def MemAndRegs (f : State → State) : Prop :=
  ∃ (g : List Host.Cell → List Host.Cell) (h : List (Nat × Word) → List (Nat × Word)),
    ∀ s, f s = { s with mem := g s.mem, regs := h s.regs }

theorem memOnly_id : MemOnly (fun s => s) := ⟨id, fun _ => rfl⟩

theorem MemOnly.comp {f f' : State → State} (h : MemOnly f) (h' : MemOnly f') : MemOnly (fun s => f' (f s)) := by
  obtain ⟨g, hg⟩ := h
  obtain ⟨g', hg'⟩ := h'
  exact ⟨fun m => g' (g m), fun s => by show f' (f s) = _; rw [hg', hg]⟩

theorem MemOnly.foldl {α : Type} {f : State → α → State} (h : ∀ x, MemOnly (fun s => f s x)) (l : List α) :
    MemOnly (fun s => l.foldl f s) := by
  induction l with
  | nil => exact memOnly_id
  | cons x l ih => exact (h x).comp ih

theorem MemOnly.ite {f f' : State → State} (h : MemOnly f) (h' : MemOnly f') (p : Prop) [Decidable p] :
    MemOnly (fun s => if p then f s else f' s) := by
  by_cases hp : p
  · simpa only [hp, if_true] using h
  · simpa only [hp, if_false] using h'

/-- A byte replaced by a function of the byte that stands there. -/
theorem memOnly_setByte (a : Nat) (v : Byte → Byte) : MemOnly (fun s => s.setByte a (v (s.byte a))) :=
  ⟨fun m => sset memDefault m a (v (sget memDefault m a)), fun _ => rfl⟩

theorem MemOnly.memAndRegs {f : State → State} (h : MemOnly f) : MemAndRegs f := by
  obtain ⟨g, hg⟩ := h
  exact ⟨g, id, hg⟩

theorem memAndRegs_id : MemAndRegs (fun s => s) := memOnly_id.memAndRegs

theorem MemAndRegs.comp {f f' : State → State} (h : MemAndRegs f) (h' : MemAndRegs f') :
    MemAndRegs (fun s => f' (f s)) := by
  obtain ⟨g, k, hg⟩ := h
  obtain ⟨g', k', hg'⟩ := h'
  exact ⟨fun m => g' (g m), fun l => k' (k l), fun s => by show f' (f s) = _; rw [hg', hg]⟩

theorem MemAndRegs.foldl {α : Type} {f : State → α → State} (h : ∀ x, MemAndRegs (fun s => f s x)) (l : List α) :
    MemAndRegs (fun s => l.foldl f s) := by
  induction l with
  | nil => exact memAndRegs_id
  | cons x l ih => exact (h x).comp ih

/-- Such a function does not see the array, and leaves it. -/
theorem MemAndRegs.arr {f : State → State} (h : MemAndRegs f) (s : State) (a : Arr) :
    f { s with arr := a } = { f s with arr := a } := by
  obtain ⟨g, k, hg⟩ := h
  rw [hg, hg]

theorem MemAndRegs.frame {f : State → State} (h : MemAndRegs f) (s : State) :
    f s = { s with mem := (f s).mem, regs := (f s).regs } := by
  obtain ⟨g, k, hg⟩ := h
  rw [hg]

theorem MemOnly.frame {f : State → State} (h : MemOnly f) (s : State) : f s = { s with mem := (f s).mem } := by
  obtain ⟨g, hg⟩ := h
  rw [hg]

/-! ### Writes of bytes, bits and planes -/

theorem putBe_memOnly (a n v be : Nat) : MemOnly (fun s => s.putBe a n v be) := by
  refine MemOnly.foldl (fun i => ?_) _
  exact (memOnly_setByte (a + i) (fun _ => BitVec.ofNat 8 (v / 256 ^ i))).ite memOnly_id _

theorem setMemNat_memOnly (a n v : Nat) : MemOnly (fun s => s.setMemNat a n v) := by
  induction n generalizing a v with
  | zero => exact memOnly_id
  | succ n ih => exact (memOnly_setByte a (fun _ => BitVec.ofNat 8 v)).comp (ih (a + 1) (v / 256))

/-- What counting sees of a state: its stored words. -/
theorem State.countEv_of_regs {s t : State} (h : t.regs = s.regs) (a hi lo oa ob n : Nat) :
    s.countEv a hi lo oa ob n = { s with regs := (t.countEv a hi lo oa ob n).regs } := by
  have hfld : t.fld a hi lo = s.fld a hi lo := State.fld_of_reg_eq (by rw [State.reg, State.reg, h]) hi lo
  unfold State.countEv State.setBit State.setFld State.setReg State.reg
  by_cases hn : n = 0
  · rw [if_pos hn, if_pos hn, h]
  · rw [if_neg hn, if_neg hn, hfld]
    dsimp only
    rw [h]
    split <;> rfl

theorem countEv_memAndRegs (a hi lo oa ob n : Nat) : MemAndRegs (fun s => s.countEv a hi lo oa ob n) :=
  ⟨id, fun l => (({ State.reset with regs := l } : State).countEv a hi lo oa ob n).regs,
    fun s => State.countEv_of_regs (s := s) (t := { State.reset with regs := s.regs }) rfl a hi lo oa ob n⟩

theorem outPlane_memOnly (f : Nat) (d : Desc) (j : Nat) (io : Plane) : MemOnly (fun s => outPlane s f d j io) := by
  have hbit (a i : Nat) (b : Bool) :
      MemOnly (fun s => s.setByte a (if b then s.byte a ||| (1#8 <<< i) else s.byte a &&& ~~~(1#8 <<< i))) :=
    memOnly_setByte a (fun x => if b then x ||| (1#8 <<< i) else x &&& ~~~(1#8 <<< i))
  unfold outPlane
  generalize List.range (512 * 512) = lanes
  refine MemOnly.foldl (fun l => ?_) lanes
  refine MemOnly.ite (MemOnly.ite ?_ ?_ _) memOnly_id _
  · exact (hbit _ _ _).comp (MemOnly.foldl (fun i => hbit _ _ _) _)
  · exact hbit _ _ _

theorem outGroup_memOnly (f : Nat) (d : Desc) (j : Nat) (turn : List Plane) : MemOnly (fun s => outGroup s f d j turn) := by
  unfold outGroup
  generalize hg : (fun (s : State) (x : Nat × Plane) => outPlane s f d x.1 x.2) = g
  have hplane (x : Nat × Plane) : MemOnly (fun s => g s x) := by
    subst hg
    exact outPlane_memOnly f d x.1 x.2
  exact MemOnly.foldl hplane _

theorem portAWrites_memAndRegs (d : Desc) (j : Nat) (l : List (BitVec 48 × BitVec 512 × BitVec 64)) :
    MemAndRegs (fun s => s.portAWrites d j l) := by
  refine MemAndRegs.foldl (fun x => ?_) _
  dsimp only
  split
  · exact (putBe_memOnly _ _ _ _).memAndRegs.comp (countEv_memAndRegs _ _ _ _ _ _)
  · exact memAndRegs_id

end Sys2Proof.Machine
end

section
/-! The pumps: one pump among the sixteen, the fetch of a descriptor, the shift of an IN plane (06 R185 to R194). -/
namespace Sys2Proof.Machine

/-! ### A pump among the sixteen -/

/-- t is s but for pump f, which stands as p, and for stored words, free values and the cores. -/
structure State.PumpNow (s : State) (f : Fin 16) (p : Pump) (t : State) : Prop where
  pump : t.pump = vset s.pump f p
  mem : t.mem = s.mem
  arr : t.arr = s.arr
  pending : t.pending = s.pending
  mode : t.mode = s.mode

theorem State.PumpNow.self {s t : State} {f : Fin 16} {p : Pump} (h : s.PumpNow f p t) : t.pump[f] = p := by
  rw [h.pump, vset_get_same]

theorem State.PumpNow.others {s t : State} {f : Fin 16} {p : Pump} (h : s.PumpNow f p t) (g : Fin 16) (hg : g ≠ f) :
    t.pump[g] = s.pump[g] := by
  rw [h.pump, vset_get_other _ _ _ _ hg]

theorem State.Noted.setPump {s t : State} {log : List Nat} (h : s.Noted t log) (f : Fin 16) (p : Pump) :
    s.PumpNow f p (t.setPump f p) := by
  obtain ⟨hframe, -⟩ := h
  rw [hframe]
  exact ⟨rfl, rfl, rfl, rfl, rfl⟩

theorem State.setPump_now (s : State) (f : Fin 16) (p : Pump) : s.PumpNow f p (s.setPump f p) := ⟨rfl, rfl, rfl, rfl, rfl⟩

theorem State.Noted.pump {s t : State} {log : List Nat} (h : s.Noted t log) : t.pump = s.pump := by rw [h.frame]

theorem State.PumpNow.done {s t : State} {f : Fin 16} {p : Pump} (h : s.PumpNow f p t) : done s t = .next t :=
  done_keep h.pending h.mode

/-! ### The descriptor ring (06 R189) -/

theorem State.portLog_noted (s : State) (f : Fin 16) (a code : Nat) :
    s.Noted (s.portLog f a code) (ringLogRegs ++ [Reg.pumpStat + 0x40 * f.val]) :=
  (logUntagged_noted s _ a code).trans (State.setBit_noted _ _ 27)

/-- A failed fetch or status write sets FETCH_ERR. -/
theorem State.portLog_fetchErr (s : State) (f : Fin 16) (a code : Nat) :
    bit ((s.portLog f a code).reg (Reg.pumpStat + 0x40 * f.val)) 27 = true := by
  rw [State.portLog, State.bit_setBit _ _ _ (by decide), decide_eq_true rfl, Bool.true_or]

theorem State.pumpFetch_served {s : State} {f : Fin 16} {k : Nat}
    (h : accessCode s (portReq f) false (s.pumpEntry f k) 64 = 0) :
    s.pumpFetch f k .clean = (s, some (readDesc s (s.pumpEntry f k))) := by
  rw [State.pumpFetch, h]
  rfl

/-- A fetch that is refused or uncorrectable is logged and sets FETCH_ERR. -/
theorem State.pumpFetch_failed {s : State} {f : Fin 16} {k : Nat} {ecc : Ecc}
    (h : accessCode s (portReq f) false (s.pumpEntry f k) 64 ≠ 0 ∨ ecc = .lost) :
    ∃ t log, s.pumpFetch f k ecc = (t, none) ∧ s.Noted t log ∧ bit (t.reg (Reg.pumpStat + 0x40 * f.val)) 27 = true := by
  unfold State.pumpFetch
  dsimp only
  by_cases hcode : accessCode s (portReq f) false (s.pumpEntry f k) 64 = 0
  · obtain rfl : ecc = .lost := h.resolve_left (absurd hcode)
    obtain ⟨log, hecc⟩ := s.memEcc_noted (s.pumpEntry f k) .lost
    rw [if_neg (not_not.mpr hcode), if_pos rfl]
    exact ⟨_, _, rfl, hecc.trans (State.portLog_noted _ f _ 6), State.portLog_fetchErr _ f _ 6⟩
  · rw [if_pos hcode]
    exact ⟨_, _, rfl, s.portLog_noted f _ _, s.portLog_fetchErr f _ _⟩

/-- The pump that has begun descriptor d: the checks of 06 R190, R192 and R193 decide how. -/
def State.begun (s : State) (f : Fin 16) (d : Desc) : Pump :=
  let res : Option Nat := if !s.arr.live.getLsbD f.val then some 2
    else if !d.formatOk then some 3
    else if !d.inMemory s then some 8
    else none
  { s.pump[f] with
    st := if res.isSome then .fetch else if d.op = 2 ∧ d.noWait = false then .wait else .shift
    desc := some d, j := 0, rows := 0, emit := 0, result := res, turn := [], judged := false, ahead := []
    aheadEnd := none, next := none }

theorem State.pumpBegin_eq (s : State) (f : Fin 16) (d : Desc) : s.pumpBegin f d = s.setPump f (s.begun f d) := rfl

theorem State.begun_result (s : State) (f : Fin 16) (d : Desc) :
    (s.arr.live.getLsbD f.val = false → (s.begun f d).result = some 2) ∧
    (s.arr.live.getLsbD f.val = true → d.formatOk = false → (s.begun f d).result = some 3) ∧
    (s.arr.live.getLsbD f.val = true → d.formatOk = true → d.inMemory s = false → (s.begun f d).result = some 8) ∧
    (s.arr.live.getLsbD f.val = true → d.formatOk = true → d.inMemory s = true → (s.begun f d).result = none ∧
      (s.begun f d).st = if d.op = 2 ∧ d.noWait = false then .wait else .shift) := by
  refine ⟨fun h => ?_, fun h h' => ?_, fun h h' h'' => ?_, fun h h' h'' => ?_⟩
  · simp only [State.begun, h, Bool.not_false, if_true]
  · simp only [State.begun, h, h', Bool.not_true, Bool.not_false, Bool.false_eq_true, if_true, if_false]
  · simp only [State.begun, h, h', h'', Bool.not_true, Bool.not_false, Bool.false_eq_true, if_true, if_false]
  · simp only [State.begun, h, h', h'', Bool.not_true, Bool.false_eq_true, if_false, Option.isSome_none, and_self]

/-- DESCRIPTOR_FETCH by an enabled pump that has not stopped and has fetched nothing ahead. -/
theorem execDescriptorFetch_runs {s : State} {f : Fin 16} (hrun : s.pumpsRun = true) (hen : s.pumpEn f = true)
    (hst : s.pump[f].st ≠ .error) (hiso : s.portIso f = false) (hnext : s.pump[f].next = none) (ecc : Ecc) :
    execDescriptorFetch f ecc s = done s (match s.pump[f].desc with
      | none => if s.pumpWork f 0 then
          (match s.pumpFetch f 0 ecc with
            | (s, some d) => s.pumpBegin f d
            | (s, none) => s.pumpStop f)
        else s
      | some _ => if s.pumpWork f 1 then
          (s.pumpFetch f 1 ecc).1.setPump f { (s.pumpFetch f 1 ecc).1.pump[f] with next := some (s.pumpFetch f 1 ecc).2 }
        else s) := by
  have hgo : (s.pumpsRun && s.pumpEn f && s.pump[f].st != .error && !s.portIso f) = true := by
    rw [hrun, hen, bne_iff_ne.mpr hst, hiso]
    rfl
  rw [execDescriptorFetch, when_true hgo, hnext]
  cases s.pump[f].desc <;> rfl

/-! ### Shifting (06 R185 to R187, R191, R194) -/

/-- A whole shift supplies the field's 512 rows and keeps the rest of the array. -/
theorem shiftRows_whole (f : Nat) (sup io : Plane) :
    shiftRows f 0 512 sup io = (sup &&& fieldMask f) ||| (io &&& ~~~(fieldMask f)) := by
  have hnone (y : Nat) : rowMask y y = 0#4194304 := by rw [rowMask, Nat.sub_self]
  have hrows : fieldMask f &&& rowMask (512 * (f / 4)) (512 * (f / 4) + 512) = fieldMask f := by
    rw [fieldMask, BitVec.and_assoc, BitVec.and_self]
  unfold shiftRows
  dsimp only
  rw [Nat.add_sub_cancel, hnone, BitVec.and_zero, BitVec.zero_or, Nat.add_zero, BitVec.and_assoc, hrows, Nat.sub_self,
    Nat.mul_zero, BitVec.shiftLeft_zero, mux, BitVec.and_assoc, BitVec.and_self]

/-- PUMP_PLANE_SHIFTED where a descriptor is shifting. -/
theorem execPumpPlaneShifted_runs {s : State} {f : Fin 16} {d : Desc} (hrun : s.pumpsRun = true) (hb : s.pwr.bcast = true)
    (hst : s.pump[f].st = .shift) (hd : s.pump[f].desc = some d) (hres : s.pump[f].result = none)
    (bad : List (BitVec 48 × Ecc)) (portA : List (BitVec 48 × BitVec 512 × BitVec 64)) :
    execPumpPlaneShifted f bad portA s = done s (if d.op = 1 then s.shiftedIn f d bad else s.shiftedOut f d portA) := by
  rw [execPumpPlaneShifted, when_true (by rw [hrun, hb]; rfl)]
  dsimp only
  rw [hst, hd, hres]

theorem State.pumpRefused_noted (s : State) (d : Desc) (j : Nat) : s.Noted (s.pumpRefused d j) [Reg.cisternStat] := by
  unfold State.pumpRefused
  split
  · split
    · exact ((s.setFld_noted _ 5 0 _).trans (State.setBit_noted _ _ 6)).mono (by simp)
    · exact s.noted_refl _
  · exact s.noted_refl _

/-! #### An IN plane -/

theorem State.groupRead_refused {s : State} {d : Desc} {j i : Nat} (h : d.groupFail s j = some i)
    (bad : List (BitVec 48 × Ecc)) : s.groupRead d j bad = (s.pumpRefused d i, some (d.reach s i)) := by
  rw [State.groupRead, h]

theorem State.groupRead_served {s : State} {d : Desc} {j : Nat} (h : d.groupFail s j = none) :
    s.groupRead d j [] = (s, none) := by
  rw [State.groupRead, h]
  rfl

/-- One uncorrectable granule of the group ends the descriptor with status 6. -/
theorem State.groupRead_lost {s : State} {d : Desc} {j : Nat} {a : BitVec 48} (h : d.groupFail s j = none)
    (ha : d.touches j a.toNat = true) : s.groupRead d j [(a, .lost)] = (s.memEcc a.toNat .lost, some 6) := by
  rw [State.groupRead, h]
  dsimp only
  rw [show [(a, Ecc.lost)].filter (fun b => d.touches j b.1.toNat) = [(a, Ecc.lost)] from List.filter_cons_of_pos ha]
  rfl

/-- The reads of a group that begins end the descriptor. -/
theorem State.shiftedIn_ended {s t : State} {f : Fin 16} {d : Desc} {bad : List (BitVec 48 × Ecc)} {n : Nat}
    (hj : s.pump[f].j % 8 = 0) (hjudged : s.pump[f].judged = false) (h : s.groupRead d s.pump[f].j bad = (t, some n)) :
    s.shiftedIn f d bad = t.setPump f { s.pump[f] with result := some n } := by
  have hread : (if s.pump[f].j % 8 = 0 ∧ s.pump[f].judged = false then s.groupRead d s.pump[f].j bad else (s, none)) =
      (t, some n) := (if_pos ⟨hj, hjudged⟩).trans h
  unfold State.shiftedIn
  dsimp only
  rw [hread]
  rfl

/-- The pump that waits for a swap after an IN plane. -/
def State.waiting (s : State) (f : Fin 16) (d : Desc) : Pump :=
  { s.pump[f] with st := .wait, turn := s.pump[f].filled s f.val d, judged := true }

/-- The state with an IN plane's rows in the field's IO. -/
def State.rowsIn (s : State) (f : Fin 16) : State :=
  { s with arr := { s.arr with io := shiftRows f.val s.pump[f].rows (512 - s.pump[f].rows) (s.pump[f].supplied s f.val) s.arr.io } }

theorem State.shiftedIn_served {s : State} {f : Fin 16} {d : Desc} (h : d.groupFail s s.pump[f].j = none) :
    s.shiftedIn f d [] = ((s.rowsIn f).setPump f (s.waiting f d)).readAhead f d [] := by
  have hread : (if s.pump[f].j % 8 = 0 ∧ s.pump[f].judged = false then s.groupRead d s.pump[f].j [] else (s, none)) =
      (s, none) := by
    split
    · exact State.groupRead_served h
    · rfl
  unfold State.shiftedIn
  dsimp only
  rw [hread]
  rfl

theorem vset_vset {α : Type} {n : Nat} (v : Vector α n) (i : Fin n) (x y : α) : vset (vset v i x) i y = vset v i y :=
  Vector.set_set ..

/-! #### What a descriptor's accesses depend on -/

theorem pumpReach_of_cist {s t : State} (h : t.cist = s.cist) : pumpReach t = pumpReach s := by
  funext a len
  unfold pumpReach State.bankOn
  rw [h]

theorem Desc.reach_of_cist {s t : State} (h : t.cist = s.cist) (d : Desc) : d.reach t = d.reach s := by
  funext j
  unfold Desc.reach
  rw [pumpReach_of_cist h]

theorem Desc.groupFail_of_cist {s t : State} (h : t.cist = s.cist) (d : Desc) (j : Nat) :
    d.groupFail t j = d.groupFail s j := by
  unfold Desc.groupFail
  rw [Desc.reach_of_cist h]

/-- What an IN transfer reads depends on memory alone. -/
theorem inPlane_of_mem {s t : State} (h : t.mem = s.mem) (f : Nat) (d : Desc) (j : Nat) : inPlane t f d j = inPlane s f d j := by
  simp only [inPlane, State.byte, h]

/-- The group read ahead changes the other half of the turn buffer, and CISTERN_STAT where a read is refused. -/
theorem State.readAhead_spec (t : State) (f : Fin 16) (q : Pump) (d : Desc) :
    ∃ e l, t.PumpNow f { q with aheadEnd := e, ahead := l } ((t.setPump f q).readAhead f d []) ∧
      (q.j % 8 ≠ 0 ∨ d.npl ≤ 8 * (q.j / 8 + 1) ∨ d.groupFail t (8 * (q.j / 8 + 1)) = none →
        ((t.setPump f q).readAhead f d []).regs = t.regs) ∧
      (q.j % 8 = 0 → 8 * (q.j / 8 + 1) < d.npl → d.groupFail t (8 * (q.j / 8 + 1)) = none →
        e = none ∧ l = (d.group (8 * (q.j / 8 + 1))).map (fun i => inPlane t f.val d i)) := by
  have hq : (t.setPump f q).pump[f] = q := (t.setPump_now f q).self
  have hset (u : State) (log : List Nat) (h : (t.setPump f q).Noted u log) (q' : Pump) : t.PumpNow f q' (u.setPump f q') := by
    obtain ⟨hpump, hmem, harr, hpending, hmode⟩ := h.setPump f q'
    exact ⟨hpump.trans (vset_vset _ _ _ _), hmem, harr, hpending, hmode⟩
  unfold State.readAhead
  dsimp only
  rw [hq]
  by_cases hskip : q.j % 8 ≠ 0 ∨ d.npl ≤ 8 * (q.j / 8 + 1)
  · rw [if_pos hskip]
    exact ⟨q.aheadEnd, q.ahead, t.setPump_now f q, fun _ => rfl, fun hj hlt => by omega⟩
  · rw [if_neg hskip]
    have hcist := Desc.groupFail_of_cist (t.setPump_cist f q) d (8 * (q.j / 8 + 1))
    cases hfail : d.groupFail t (8 * (q.j / 8 + 1)) with
    | none =>
      rw [State.groupRead_served (hcist.trans hfail)]
      simp only [inPlane_of_mem (t.setPump_mem f q), Option.isSome_none, Bool.false_eq_true, if_false]
      exact ⟨none, _, hset _ [] (State.noted_refl _ _) _, fun _ => rfl, fun _ _ _ => ⟨rfl, rfl⟩⟩
    | some i =>
      rw [State.groupRead_refused (hcist.trans hfail)]
      simp only [Option.isSome_some, if_true]
      refine ⟨_, [], hset _ _ (State.pumpRefused_noted _ d i) _, fun h => ?_, fun _ _ h => by cases h⟩
      obtain h | h | h := h
      · exact absurd (.inl h) hskip
      · exact absurd (.inr h) hskip
      · cases h

end Sys2Proof.Machine
end

section
/-! The pumps: the shift of an OUT plane, and the end of a descriptor (06 R176, R185 to R194). -/
namespace Sys2Proof.Machine

/-! ### An OUT plane (06 R176, R185 to R187, R191, R194) -/

/-- The turn buffer with the plane that has just been shifted out. -/
def State.turnOut (s : State) (f : Fin 16) : List Plane := s.pump[f].turn ++ [s.pump[f].emitted f.val 512 s.arr.io]

/-- The state with the field's IO rows shifted out. -/
def State.rowsOut (s : State) (f : Fin 16) : State :=
  { s with arr := { s.arr with io := shiftRows f.val s.pump[f].rows (512 - s.pump[f].rows) 0 s.arr.io } }

/-- The pump after an OUT plane of descriptor d. -/
def State.outPump (s : State) (f : Fin 16) (d : Desc) : Pump :=
  { s.pump[f] with
    j := s.pump[f].j + 1, rows := 0, emit := 0, st := if s.pump[f].j + 1 = d.npl then PumpSt.shift else .wait
    turn := s.turnOut f }

/-- Does an OUT group end with the pump's plane? -/
def State.groupEnds (s : State) (f : Fin 16) (d : Desc) : Prop := s.pump[f].j + 1 = d.npl ∨ (s.pump[f].j + 1) % 8 = 0

theorem State.shiftedOut_within {s : State} {f : Fin 16} {d : Desc} (h : ¬ s.groupEnds f d)
    (portA : List (BitVec 48 × BitVec 512 × BitVec 64)) :
    s.shiftedOut f d portA = (s.rowsOut f).setPump f (s.outPump f d) := by
  unfold State.shiftedOut
  dsimp only
  exact if_neg h

theorem State.shiftedOut_refused {s : State} {f : Fin 16} {d : Desc} {i : Nat} (h : s.groupEnds f d)
    (hfail : d.groupFail s s.pump[f].j = some i) (portA : List (BitVec 48 × BitVec 512 × BitVec 64)) :
    s.shiftedOut f d portA = ((s.rowsOut f).pumpRefused d i).setPump f
      { s.outPump f d with st := .shift, result := some (d.reach s i) } := by
  have hcist : (s.rowsOut f).cist = s.cist := rfl
  rw [← Desc.groupFail_of_cist hcist, State.rowsOut] at hfail
  rw [← Desc.reach_of_cist hcist, State.shiftedOut, State.rowsOut]
  dsimp only at hfail ⊢
  rw [if_pos (by exact h), hfail]
  rfl

/-- Writing a group: what port A writes to the same words first, then the group. -/
def State.groupOut (s : State) (f : Fin 16) (d : Desc) (j : Nat) (turn : List Plane)
    (portA : List (BitVec 48 × BitVec 512 × BitVec 64)) : State := outGroup (s.portAWrites d j portA) f.val d j turn

theorem State.shiftedOut_written {s : State} {f : Fin 16} {d : Desc} (h : s.groupEnds f d)
    (hfail : d.groupFail s s.pump[f].j = none) (portA : List (BitVec 48 × BitVec 512 × BitVec 64)) :
    s.shiftedOut f d portA = ((d.group s.pump[f].j).foldl (fun s i => s.pumpBreak d i)
      ((s.rowsOut f).groupOut f d s.pump[f].j (s.turnOut f) portA)).setPump f
      { s.outPump f d with turn := [], result := if s.pump[f].j + 1 = d.npl then some 1 else none } := by
  have hcist : (s.rowsOut f).cist = s.cist := rfl
  rw [← Desc.groupFail_of_cist hcist, State.rowsOut] at hfail
  rw [State.shiftedOut, State.rowsOut]
  dsimp only at hfail ⊢
  rw [if_pos (by exact h), hfail]
  rfl

/-- A reservation broken changes one core. -/
theorem State.setCore_frame (s : State) (c : CoreId) (k : Core) : ∃ q m, s.setCore c k = { s with seq := q, cmd := m } := by
  cases c
  · exact ⟨_, s.cmd, rfl⟩
  · exact ⟨s.seq, _, rfl⟩

/-- Core c's reservation is broken where hit names its granule. -/
def State.breakHit (s : State) (hit : Nat → Bool) (c : CoreId) : State :=
  match (s.core c).rsv with
  | some g => if hit g then s.setCore c { s.core c with rsv := none } else s
  | none => s

theorem State.breakHit_frame (s : State) (hit : Nat → Bool) (c : CoreId) :
    ∃ q m, s.breakHit hit c = { s with seq := q, cmd := m } := by
  unfold State.breakHit
  split
  · split
    · exact s.setCore_frame c _
    · exact ⟨s.seq, s.cmd, rfl⟩
  · exact ⟨s.seq, s.cmd, rfl⟩

theorem State.pumpBreak_frame (s : State) (d : Desc) (j : Nat) : ∃ q m, s.pumpBreak d j = { s with seq := q, cmd := m } := by
  let hit (g : Nat) : Bool := (d.spans j).any (fun p => decide (p.1 / 64 ≤ g) && decide (g ≤ (p.1 + p.2 - 1) / 64))
  have heq : s.pumpBreak d j = (s.breakHit hit .seq).breakHit hit .cmd := rfl
  obtain ⟨q, m, hseq⟩ := s.breakHit_frame hit .seq
  obtain ⟨q', m', hcmd⟩ := (s.breakHit hit .seq).breakHit_frame hit .cmd
  exact ⟨q', m', by rw [heq, hcmd, hseq]⟩

theorem State.pumpBreaks_frame (s : State) (d : Desc) (l : List Nat) :
    ∃ q m, l.foldl (fun s i => s.pumpBreak d i) s = { s with seq := q, cmd := m } := by
  induction l generalizing s with
  | nil => exact ⟨s.seq, s.cmd, rfl⟩
  | cons i l ih =>
    obtain ⟨q, m, hi⟩ := s.pumpBreak_frame d i
    obtain ⟨q', m', hl⟩ := ih (s.pumpBreak d i)
    exact ⟨q', m', by rw [List.foldl_cons, hl, hi]⟩

theorem groupOut_memAndRegs (f : Fin 16) (d : Desc) (j : Nat) (turn : List Plane)
    (portA : List (BitVec 48 × BitVec 512 × BitVec 64)) : MemAndRegs (fun s => s.groupOut f d j turn portA) :=
  (portAWrites_memAndRegs d j portA).comp (outGroup_memOnly f.val d j turn).memAndRegs

theorem State.groupOut_regs (s : State) (f : Fin 16) (d : Desc) (j : Nat) (turn : List Plane)
    (portA : List (BitVec 48 × BitVec 512 × BitVec 64)) : (s.groupOut f d j turn portA).regs = (s.portAWrites d j portA).regs := by
  rw [State.groupOut, (outGroup_memOnly f.val d j turn).frame]

/-- An OUT group is in memory, and nothing else has changed but words that port A's writes count. -/
theorem State.shiftedOut_written_frame {s : State} {f : Fin 16} {d : Desc} (h : s.groupEnds f d)
    (hfail : d.groupFail s s.pump[f].j = none) (portA : List (BitVec 48 × BitVec 512 × BitVec 64)) :
    ∃ q m, s.shiftedOut f d portA = { s.groupOut f d s.pump[f].j (s.turnOut f) portA with
      seq := q, cmd := m, arr := (s.rowsOut f).arr, pump := vset s.pump f
        { s.outPump f d with turn := [], result := if s.pump[f].j + 1 = d.npl then some 1 else none } } := by
  have hout := groupOut_memAndRegs f d s.pump[f].j (s.turnOut f) portA
  obtain ⟨q, m, hbreak⟩ := ((s.rowsOut f).groupOut f d s.pump[f].j (s.turnOut f) portA).pumpBreaks_frame d
    (d.group s.pump[f].j)
  refine ⟨q, m, ?_⟩
  have harr : (s.rowsOut f).groupOut f d s.pump[f].j (s.turnOut f) portA =
      { s.groupOut f d s.pump[f].j (s.turnOut f) portA with arr := (s.rowsOut f).arr } := hout.arr s _
  have hpump : (s.groupOut f d s.pump[f].j (s.turnOut f) portA).pump = s.pump := by rw [hout.frame s]
  rw [State.shiftedOut_written h hfail, hbreak, harr, State.setPump]
  dsimp only
  rw [hpump]

/-- An event counts where the counter of 16 bits has room; its saturation bit stands above it. -/
theorem State.countEv_fld_of_lt (s : State) {a : Nat} (h : s.fld a 15 0 < 65535) :
    (s.countEv a 15 0 a 16 1).fld a 15 0 = s.fld a 15 0 + 1 := by
  have hset : (s.setFld a 15 0 (s.fld a 15 0 + 1)).fld a 15 0 = s.fld a 15 0 + 1 := by
    rw [State.fld_setFld_same _ _ _ _ _ (by decide)]
    exact Nat.mod_eq_of_lt (by omega)
  rw [State.countEv, if_neg (by decide)]
  dsimp only
  rw [Nat.min_eq_left (by omega)]
  split
  · rw [State.setBit, State.fld_setFld_disjoint _ _ _ _ _ _ _ (by decide) (by decide), hset]
  · exact hset

/-- A write of port A to the words of the group counts as a collision of its bank. -/
theorem State.portAWrites_collision {s : State} {d : Desc} {j n : Nat} {x : BitVec 48 × BitVec 512 × BitVec 64}
    (htouch : d.touches j x.1.toNat = true) (hregion : regionOf x.1.toNat = some (.cistern n))
    (hroom : s.fld (Reg.cisternColl + 4 * n) 15 0 < 65535) :
    (s.portAWrites d j [x]).fld (Reg.cisternColl + 4 * n) 15 0 = s.fld (Reg.cisternColl + 4 * n) 15 0 + 1 := by
  have hone : s.portAWrites d j [x] = (s.putBe (x.1.toNat / 64 * 64) 64 x.2.1.toNat x.2.2.toNat).countEv
      (Reg.cisternColl + 4 * n) 15 0 (Reg.cisternColl + 4 * n) 16 1 := by
    rw [State.portAWrites, List.filter_cons_of_pos (by exact htouch)]
    simp only [List.filter_nil, List.foldl_cons, List.foldl_nil, hregion]
  have hput := (putBe_memOnly (x.1.toNat / 64 * 64) 64 x.2.1.toNat x.2.2.toNat).frame s
  have hfld : (s.putBe (x.1.toNat / 64 * 64) 64 x.2.1.toNat x.2.2.toNat).fld (Reg.cisternColl + 4 * n) 15 0 =
      s.fld (Reg.cisternColl + 4 * n) 15 0 := by
    rw [hput]
    rfl
  rw [hone, State.countEv_fld_of_lt _ (by rw [hfld]; exact hroom), hfld]

/-! ### Completion (06 R189, R193) -/

theorem State.breakRsv_frame (s : State) (src granule : Nat) :
    ∃ q m, s.breakRsv src granule = { s with seq := q, cmd := m } := by
  have hclear (t : State) (c : CoreId) : ∃ q m,
      (if coreStation c ≠ src ∧ (t.core c).rsv = some granule then t.setCore c { t.core c with rsv := none } else t) =
        { t with seq := q, cmd := m } := by
    split
    · exact t.setCore_frame c _
    · exact ⟨t.seq, t.cmd, rfl⟩
  obtain ⟨q, m, hseq⟩ := hclear s .seq
  obtain ⟨q', m', hcmd⟩ := hclear { s with seq := q, cmd := m } .cmd
  refine ⟨q', m', ?_⟩
  rw [← hcmd, ← hseq]
  rfl

/-- A store by a station breaks reservations, and changes memory as setMemNat does. -/
theorem State.memStore_frame (s : State) (src a n v : Nat) :
    ∃ q m, s.memStore src a n v = { s with mem := (s.setMemNat a n v).mem, seq := q, cmd := m } := by
  obtain ⟨q, m, h1⟩ := s.breakRsv_frame src (a / 64)
  obtain ⟨q', m', h2⟩ := (s.breakRsv src (a / 64)).breakRsv_frame src ((a + n - 1) / 64)
  obtain ⟨g, hg⟩ := setMemNat_memOnly a n v
  have hmem : (s.setMemNat a n v).mem = g s.mem := congrArg State.mem (hg s)
  refine ⟨q', m', ?_⟩
  rw [State.memStore, h2, h1, hmem]
  exact hg _

/-- The code with which the status write of pump f's descriptor is answered; none comes where its port is isolated. -/
def State.statusCode (s : State) (f : Fin 16) : Nat :=
  if s.portIso f then 0 else accessCode s (portReq f) true (s.pumpEntry f 0 + 40) 2

/-- Does a status stop the pump (06 R193)? -/
def stopStatus (n : Nat) : Bool := n == 3 || n == 4 || n == 5 || n == 6 || n == 8

theorem stopStatus_iff (n : Nat) : stopStatus n = true ↔ n ∈ [3, 4, 5, 6, 8] := by
  simp [stopStatus, or_assoc]

theorem vset_self {α : Type} {n : Nat} (v : Vector α n) (i : Fin n) : vset v i v[i] = v := Vector.set_getElem_self _

/-- t is s with pump f replaced by q, and something noted. -/
structure State.NotedWith (s t : State) (f : Fin 16) (q : Pump) (log : List Nat) : Prop where
  frame : t = { s with regs := t.regs, free := t.free, seq := t.seq, cmd := t.cmd, pump := vset s.pump f q }
  others : ∀ b, b ∉ log → t.reg b = s.reg b

theorem State.notedWith_self (s : State) (f : Fin 16) (log : List Nat) : s.NotedWith s f s.pump[f] log :=
  ⟨by rw [vset_self], fun _ _ => rfl⟩

theorem State.NotedWith.self {s t : State} {f : Fin 16} {q : Pump} {log : List Nat} (h : s.NotedWith t f q log) :
    t.pump[f] = q := by
  rw [h.frame]
  exact vset_get_same _ _ _

theorem State.NotedWith.noted {s t u : State} {f : Fin 16} {q : Pump} {log log' : List Nat} (h : s.NotedWith t f q log)
    (h' : t.Noted u log') : s.NotedWith u f q (log ++ log') := by
  refine ⟨by rw [h'.frame, h.frame], fun b hb => ?_⟩
  obtain ⟨hb1, hb2⟩ := not_or.mp (List.mem_append.not.mp hb)
  exact (h'.others b hb2).trans (h.others b hb1)

theorem State.NotedWith.setPump {s t : State} {f : Fin 16} {q : Pump} {log : List Nat} (h : s.NotedWith t f q log)
    (q' : Pump) : s.NotedWith (t.setPump f q') f q' log := by
  refine ⟨?_, h.others⟩
  rw [h.frame, State.setPump]
  dsimp only
  rw [vset_vset]

theorem State.NotedWith.trans {s t u : State} {f : Fin 16} {q q' : Pump} {log log' : List Nat} (h : s.NotedWith t f q log)
    (h' : t.NotedWith u f q' log') : s.NotedWith u f q' (log ++ log') := by
  refine ⟨?_, fun b hb => ?_⟩
  · rw [h'.frame, h.frame]
    dsimp only
    rw [vset_vset]
  · obtain ⟨hb1, hb2⟩ := not_or.mp (List.mem_append.not.mp hb)
    exact (h'.others b hb2).trans (h.others b hb1)

/-- The pump that stops drops what it has fetched ahead. -/
theorem State.NotedWith.stop {s t : State} {f : Fin 16} {q : Pump} {log : List Nat} (h : s.NotedWith t f q log) :
    s.NotedWith (t.pumpStop f) f { q with st := .error, next := none } log := by
  have hq := h.setPump { t.pump[f] with st := .error, next := none }
  rw [h.self] at hq
  rw [State.pumpStop, h.self]
  exact hq

theorem State.NotedWith.mono {s t : State} {f : Fin 16} {q : Pump} {log log' : List Nat} (h : s.NotedWith t f q log)
    (hsub : ∀ b ∈ log, b ∈ log') : s.NotedWith t f q log' := ⟨h.frame, fun b hb => h.others b fun hl => hb (hsub b hl)⟩

/-- The pump as it stands after a completion that stops it, or does not. -/
def Pump.stopIf (p : Pump) (stop : Bool) : Pump :=
  { p with st := if stop then .error else p.st, next := if stop then none else p.next }

/-- The last steps of a completion: a stopping status is a contained error, and a status write refused with a code is
logged and stops the pump. -/
def State.finishStops (t : State) (f : Fin 16) (stop : Bool) (a code : Nat) : State :=
  let t := if stop then (t.pumpStop f).contained 40 else t
  if code = 0 then t else (t.portLog f a code).pumpStop f

/-- The words that finishStops may write. -/
def stopRegs (f : Fin 16) : List Nat := containedRegs ++ (ringLogRegs ++ [Reg.pumpStat + 0x40 * f.val])

theorem State.finishStops_spec (t : State) (f : Fin 16) (stop : Bool) (a code : Nat) :
    t.NotedWith (t.finishStops f stop a code) f (t.pump[f].stopIf (stop || code != 0)) (stopRegs f) ∧
    (code ≠ 0 → bit ((t.finishStops f stop a code).reg (Reg.pumpStat + 0x40 * f.val)) 27 = true) := by
  let u := if stop then (t.pumpStop f).contained 40 else t
  have hu : t.NotedWith u f (t.pump[f].stopIf stop) containedRegs := by
    cases stop
    · exact t.notedWith_self f _
    · exact (t.notedWith_self f []).stop.noted (State.contained_noted _ 40)
  by_cases hcode : code = 0
  · subst hcode
    refine ⟨?_, fun h => absurd rfl h⟩
    rw [show (stop || 0 != 0) = stop from Bool.or_false stop]
    exact hu.mono fun b hb => List.mem_append_left _ hb
  · have ht : t.finishStops f stop a code = (u.portLog f a code).pumpStop f := if_neg hcode
    rw [ht, bne_iff_ne.mpr hcode, Bool.or_true]
    exact ⟨(hu.noted (u.portLog_noted f a code)).stop, fun _ => u.portLog_fetchErr f a code⟩

/-- The pump whose descriptor has ended with a status, its ring having so many entries. -/
def Pump.ended (p : Pump) (status size : Nat) : Pump :=
  { p with
    st := .idle, desc := none, result := none, rows := 0, emit := 0, turn := [], judged := false, ahead := []
    aheadEnd := none, last := status, j := 0, head := (p.head + 1) % size }

/-- The words that the end of a descriptor may write. -/
def finishRegs (f : Fin 16) : List Nat :=
  [Reg.pumpDone + 0x40 * f.val, Reg.pumpStat + 0x40 * f.val] ++ ([Reg.pumpIrq] ++ stopRegs f)

/-- Memory once the status of pump f's descriptor is written, unless the write is refused or never answered. -/
def State.statusMem (s : State) (f : Fin 16) (status : Nat) : State :=
  if s.statusCode f = 0 ∧ s.portIso f = false then
    s.memStore (portReq f).src (s.pumpEntry f 0 + 40) 2 (status + 256 * s.pump[f].done)
  else s

theorem State.statusMem_frame (s : State) (f : Fin 16) (status : Nat) :
    ∃ q m, s.statusMem f status = { s with mem := (s.statusMem f status).mem, seq := q, cmd := m } := by
  unfold State.statusMem
  split
  · obtain ⟨q, m, h⟩ := s.memStore_frame (portReq f).src (s.pumpEntry f 0 + 40) 2 (status + 256 * s.pump[f].done)
    exact ⟨q, m, by rw [h]⟩
  · exact ⟨s.seq, s.cmd, rfl⟩

/-- The interrupt that a descriptor asks for. -/
def State.pumpRaise (s : State) (f : Fin 16) (d : Desc) : State :=
  if d.irq then
    let s := s.setBit Reg.pumpIrq f.val
    if bit (s.reg (Reg.pumpCtl + 0x40 * f.val)) 1 then s.irq .seq 3 else s
  else s

theorem State.pumpRaise_spec (s : State) (f : Fin 16) (d : Desc) :
    s.Noted (s.pumpRaise f d) [Reg.pumpIrq] ∧ (d.irq = true → bit ((s.pumpRaise f d).reg Reg.pumpIrq) f.val = true) := by
  have hset : bit ((s.setBit Reg.pumpIrq f.val).reg Reg.pumpIrq) f.val = true := by
    rw [State.bit_setBit _ _ _ (by omega), decide_eq_true rfl, Bool.true_or]
  unfold State.pumpRaise
  split
  · dsimp only
    split
    · refine ⟨(s.setBit_noted _ _).trans (State.irq_noted _ .seq 3), fun _ => ?_⟩
      rw [(State.irq_noted _ .seq 3).others _ List.not_mem_nil]
      exact hset
    · exact ⟨s.setBit_noted _ _, fun _ => hset⟩
  · exact ⟨s.noted_refl _, fun h => absurd h ‹_›⟩

/-- The state t at the end of pump f's descriptor d with a status. -/
structure State.Finished (s t : State) (f : Fin 16) (d : Desc) (status : Nat) : Prop where
  pump : t.pump = vset s.pump f ((s.pump[f].ended status (s.pumpSize f)).stopIf (stopStatus status || s.statusCode f != 0))
  mem : t.mem = (s.statusMem f status).mem
  arr : t.arr = s.arr
  pending : t.pending = s.pending
  mode : t.mode = s.mode
  regs : ∀ b, b ∉ finishRegs f → t.reg b = s.reg b
  irq : d.irq = true → bit (t.reg Reg.pumpIrq) f.val = true
  fetchErr : s.statusCode f ≠ 0 → bit (t.reg (Reg.pumpStat + 0x40 * f.val)) 27 = true

theorem pumpIrq_not_mem_stopRegs (f : Fin 16) : Reg.pumpIrq ∉ stopRegs f := by
  revert f
  decide

/-- The end of a descriptor, in its five steps. -/
theorem State.pumpFinish_eq {s : State} {f : Fin 16} {d : Desc} (hd : s.pump[f].desc = some d) (status : Nat) :
    s.pumpFinish f status = ((((s.statusMem f status).setPump f
      (s.pump[f].ended status ((s.statusMem f status).pumpSize f))).countWord (Reg.pumpDone + 0x40 * f.val)
      (Reg.pumpStat + 0x40 * f.val) 28 1).pumpRaise f d).finishStops f (stopStatus status) (s.pumpEntry f 0 + 40)
      (s.statusCode f) := by
  unfold State.pumpFinish
  dsimp only
  rw [hd]
  rfl

/-- What the end of a descriptor notes, and how it leaves the pump, after its status write. -/
theorem State.pumpFinish_notes {s : State} {f : Fin 16} {d : Desc} (hd : s.pump[f].desc = some d) (status : Nat) :
    (s.statusMem f status).NotedWith (s.pumpFinish f status) f
      ((s.pump[f].ended status (s.pumpSize f)).stopIf (stopStatus status || s.statusCode f != 0)) (finishRegs f) ∧
    (d.irq = true → bit ((s.pumpFinish f status).reg Reg.pumpIrq) f.val = true) ∧
    (s.statusCode f ≠ 0 → bit ((s.pumpFinish f status).reg (Reg.pumpStat + 0x40 * f.val)) 27 = true) := by
  have hsize : (s.statusMem f status).pumpSize f = s.pumpSize f := by
    obtain ⟨q, m, hs⟩ := s.statusMem_frame f status
    rw [hs]
    rfl
  rw [State.pumpFinish_eq hd, hsize]
  generalize s.pump[f].ended status (s.pumpSize f) = p
  let s2 := (s.statusMem f status).setPump f p
  let s3 := s2.countWord (Reg.pumpDone + 0x40 * f.val) (Reg.pumpStat + 0x40 * f.val) 28 1
  let s4 := s3.pumpRaise f d
  obtain ⟨hraise, hirq⟩ := s3.pumpRaise_spec f d
  have h4 : (s.statusMem f status).NotedWith s4 f p
      ([Reg.pumpDone + 0x40 * f.val, Reg.pumpStat + 0x40 * f.val] ++ [Reg.pumpIrq]) :=
    ((((s.statusMem f status).notedWith_self f []).setPump p).noted (s2.countWord_noted _ _ 28 1)).noted hraise
  obtain ⟨hstops, hfetch⟩ := s4.finishStops_spec f (stopStatus status) (s.pumpEntry f 0 + 40) (s.statusCode f)
  rw [h4.self] at hstops
  have hkept := hstops.others _ (pumpIrq_not_mem_stopRegs f)
  refine ⟨(h4.trans hstops).mono fun b hb => ?_, fun h => (congrArg (bit · f.val) hkept).trans (hirq h), hfetch⟩
  rwa [List.append_assoc] at hb

theorem State.pumpFinish_spec {s : State} {f : Fin 16} {d : Desc} (hd : s.pump[f].desc = some d) (status : Nat) :
    s.Finished (s.pumpFinish f status) f d status := by
  obtain ⟨q, m, hs⟩ := s.statusMem_frame f status
  obtain ⟨⟨hframe, hothers⟩, hirq, hfetch⟩ := State.pumpFinish_notes hd status
  generalize s.pumpFinish f status = t at *
  have hmem : t.mem = (s.statusMem f status).mem := by rw [hframe]
  rw [hs] at hframe hothers
  exact ⟨by rw [hframe], hmem, by rw [hframe], by rw [hframe], by rw [hframe], hothers, hirq, hfetch⟩

end Sys2Proof.Machine
end

section
/-! The pumps' commands TAIL, completion, RESUME and FLUSH (06 R189, R193). -/
namespace Sys2Proof.Machine

/-! ### What a completion leaves alone -/

theorem pumpTail_not_mem_finishRegs (f : Fin 16) : Reg.pumpTail + 0x40 * f.val ∉ finishRegs f := by
  revert f
  decide

theorem pumpCtl_not_mem_finishRegs (f : Fin 16) : Reg.pumpCtl + 0x40 * f.val ∉ finishRegs f := by
  revert f
  decide

theorem pumpRsize_not_mem_finishRegs (f : Fin 16) : Reg.pumpRsize + 0x40 * f.val ∉ finishRegs f := by
  revert f
  decide

theorem State.Finished.pumpEn {s t : State} {f : Fin 16} {d : Desc} {n : Nat} (h : s.Finished t f d n) :
    t.pumpEn f = s.pumpEn f := by
  rw [State.pumpEn, h.regs _ (pumpCtl_not_mem_finishRegs f)]
  rfl

theorem State.Finished.pumpSize {s t : State} {f : Fin 16} {d : Desc} {n : Nat} (h : s.Finished t f d n) :
    t.pumpSize f = s.pumpSize f := by
  rw [State.pumpSize, State.fld_of_reg_eq (h.regs _ (pumpRsize_not_mem_finishRegs f))]
  rfl

theorem State.Finished.self {s t : State} {f : Fin 16} {d : Desc} {n : Nat} (h : s.Finished t f d n) :
    t.pump[f] = (s.pump[f].ended n (s.pumpSize f)).stopIf (stopStatus n || s.statusCode f != 0) := by
  rw [h.pump, vset_get_same]

theorem State.Finished.others {s t : State} {f : Fin 16} {d : Desc} {n : Nat} (h : s.Finished t f d n) (g : Fin 16)
    (hg : g ≠ f) : t.pump[g] = s.pump[g] := by
  rw [h.pump, vset_get_other _ _ _ _ hg]

/-- The status is in memory where its write is served. -/
theorem State.statusMem_written {s : State} {f : Fin 16} (hcode : s.statusCode f = 0) (hiso : s.portIso f = false) (n : Nat) :
    (s.statusMem f n).mem = (s.setMemNat (s.pumpEntry f 0 + 40) 2 (n + 256 * s.pump[f].done)).mem := by
  obtain ⟨q, m, h⟩ := s.memStore_frame (portReq f).src (s.pumpEntry f 0 + 40) 2 (n + 256 * s.pump[f].done)
  rw [State.statusMem, if_pos ⟨hcode, hiso⟩, h]

theorem State.statusMem_refused {s : State} {f : Fin 16} (hcode : s.statusCode f ≠ 0) (n : Nat) : s.statusMem f n = s :=
  if_neg fun h => hcode h.1

theorem Pump.done_eq {p : Pump} {d : Desc} (h : p.desc = some d) :
    p.done = if d.op = 2 then p.j - p.turn.length else p.j := by
  rw [Pump.done, h]

theorem State.statusCode_eq {s : State} {f : Fin 16} (hiso : s.portIso f = false) :
    s.statusCode f = accessCode s (portReq f) true (s.pumpEntry f 0 + 40) 2 := by
  rw [State.statusCode, hiso]
  rfl

/-! ### The entry fetched meanwhile -/

theorem State.pumpTake_none {t : State} {f : Fin 16} (h : t.pump[f].next = none) : t.pumpTake f = t := by
  rw [State.pumpTake, h]

theorem State.pumpTake_begins {t : State} {f : Fin 16} {d : Desc} (h : t.pump[f].next = some (some d))
    (hen : t.pumpEn f = true) : t.pumpTake f = t.pumpBegin f d := by
  rw [State.pumpTake, h, hen]
  rfl

/-- Taking up an entry changes only the pump, and neither its LAST nor its HEAD. -/
theorem State.pumpTake_spec (t : State) (f : Fin 16) :
    ∃ p, t.pumpTake f = t.setPump f p ∧ p.last = t.pump[f].last ∧ p.head = t.pump[f].head := by
  have hself : t = t.setPump f t.pump[f] := by rw [State.setPump, vset_self]
  unfold State.pumpTake
  split
  · exact ⟨_, hself, rfl, rfl⟩
  · exact ⟨_, rfl, rfl, rfl⟩
  · split
    · exact ⟨_, rfl, rfl, rfl⟩
    · exact ⟨_, hself, rfl, rfl⟩

/-! ### The commands, one by one -/

theorem pumpTail_spec {s : State} {q : Requester} {f : Fin 16} (v : Word)
    (h : s.admitted q true (Reg.pumpTail + 0x40 * f.val) = true) :
    execPumpTail q f v s = .next (s.setReg (Reg.pumpTail + 0x40 * f.val) (v &&& 0xFFF#32)) := by
  obtain ⟨hal, hcode⟩ := State.admitted_iff.mp h
  rw [execPumpTail, regWrite_admitted _ hal hcode]
  exact done_keep rfl rfl

theorem pumpResume_spec {s : State} {q : Requester} {f : Fin 16} (h : s.admitted q true (Reg.pumpCtl + 0x40 * f.val) = true) :
    execPumpResume q f s = .next { s with
      pump := vset s.pump f (if s.pump[f].st = .error then { s.pump[f] with st := .idle } else s.pump[f]) } := by
  obtain ⟨hal, hcode⟩ := State.admitted_iff.mp h
  rw [execPumpResume, regWrite_admitted _ hal hcode, State.pumpResume]
  split
  · exact done_keep rfl rfl
  · rw [vset_self]
    exact done_keep rfl rfl

/-- The pump whose HEAD a flush has put at TAIL. -/
def State.flushed (t : State) (f : Fin 16) : Pump :=
  { t.pump[f] with next := none, head := t.fld (Reg.pumpTail + 0x40 * f.val) 11 0 % t.pumpSize f }

theorem State.pumpFlush_eq (s : State) (f : Fin 16) :
    s.pumpFlush f = (s.pumpFinish f 7).setPump f ((s.pumpFinish f 7).flushed f) := rfl

theorem State.pumpFinish_idle {s : State} {f : Fin 16} (h : s.pump[f].desc = none) (n : Nat) : s.pumpFinish f n = s := by
  unfold State.pumpFinish
  dsimp only
  rw [h]

/-- FLUSH of a pump: what it carried out has ended with status 7, and HEAD is TAIL. -/
theorem pumpFlush_spec {s : State} {q : Requester} {f : Fin 16} (h : s.admitted q true (Reg.pumpCtl + 0x40 * f.val) = true) :
    ∃ t p, execPumpFlush q f s = .next t ∧ t.pump = vset s.pump f p ∧ t.arr = s.arr ∧
      p.head = s.fld (Reg.pumpTail + 0x40 * f.val) 11 0 % s.pumpSize f ∧ p.next = none ∧
      (s.pump[f].desc = none → t.mem = s.mem) ∧ (s.pump[f].desc ≠ none → p.desc = none ∧ p.last = 7) := by
  obtain ⟨hal, hcode⟩ := State.admitted_iff.mp h
  rw [execPumpFlush, regWrite_admitted _ hal hcode, State.pumpFlush_eq]
  refine ⟨(s.pumpFinish f 7).setPump f ((s.pumpFinish f 7).flushed f), (s.pumpFinish f 7).flushed f, ?_⟩
  cases hd : s.pump[f].desc with
  | none =>
    rw [State.pumpFinish_idle hd]
    exact ⟨done_keep rfl rfl, rfl, rfl, rfl, rfl, fun _ => rfl, fun h => absurd rfl h⟩
  | some d =>
    have hfin := State.pumpFinish_spec hd 7
    refine ⟨done_keep hfin.pending hfin.mode, ?_, hfin.arr, ?_, rfl, fun h => absurd h (by simp), fun _ => ⟨?_, ?_⟩⟩
    · rw [State.setPump, hfin.pump, vset_vset]
    · rw [State.flushed, State.fld_of_reg_eq (hfin.regs _ (pumpTail_not_mem_finishRegs f)), hfin.pumpSize]
    · rw [State.flushed, hfin.self]
      rfl
    · rw [State.flushed, hfin.self]
      rfl

/-- DESCRIPTOR_COMPLETE: the descriptor has ended with its status, and the entry fetched meanwhile is taken up. -/
theorem execDescriptorComplete_runs {s : State} {f : Fin 16} {d : Desc} {n : Nat} (hrun : s.pumpsRun = true)
    (hiso : s.portIso f = false) (hd : s.pump[f].desc = some d) (hres : s.pump[f].result = some n) :
    execDescriptorComplete f s = .next ((s.pumpFinish f n).pumpTake f) := by
  have hfin := State.pumpFinish_spec hd n
  obtain ⟨p, htake, -⟩ := (s.pumpFinish f n).pumpTake_spec f
  rw [execDescriptorComplete, when_true (by rw [hrun, hiso]; rfl), hres]
  dsimp only
  rw [htake]
  exact done_keep hfin.pending hfin.mode

theorem stop_eq_true_iff {s : State} {f : Fin 16} {n : Nat} :
    (stopStatus n || s.statusCode f != 0) = true ↔ n ∈ [3, 4, 5, 6, 8] ∨ s.statusCode f ≠ 0 := by
  rw [Bool.or_eq_true, stopStatus_iff, bne_iff_ne]

/-- How DESCRIPTOR_COMPLETE leaves the pump. -/
theorem State.Finished.taken {s t : State} {f : Fin 16} {d : Desc} {n : Nat} (h : s.Finished t f d n) :
    ((t.pumpTake f).pump[f].last = n ∧ (t.pumpTake f).pump[f].head = (s.pump[f].head + 1) % s.pumpSize f) ∧
    (s.pump[f].next = none ∨ n ∈ [3, 4, 5, 6, 8] ∨ s.statusCode f ≠ 0 →
      (t.pumpTake f).pump[f].desc = none ∧ (t.pumpTake f).pump[f].result = none ∧
      ((t.pumpTake f).pump[f].st = .error ↔ n ∈ [3, 4, 5, 6, 8] ∨ s.statusCode f ≠ 0)) ∧
    (∀ d', s.pump[f].next = some (some d') → s.pumpEn f = true → ¬ (n ∈ [3, 4, 5, 6, 8] ∨ s.statusCode f ≠ 0) →
      (t.pumpTake f).pump[f].desc = some d' ∧ (t.pumpTake f).pump[f].j = 0 ∧ (t.pumpTake f).pump[f].next = none) := by
  rw [← stop_eq_true_iff]
  have hself := h.self
  generalize (stopStatus n || s.statusCode f != 0) = stop at *
  refine ⟨?_, fun hstop => ?_, fun d' hnext hen hgo => ?_⟩
  · obtain ⟨p, htake, hlast, hhead⟩ := t.pumpTake_spec f
    rw [htake, (t.setPump_now f p).self, hlast, hhead, hself]
    exact ⟨rfl, rfl⟩
  · have hnext : t.pump[f].next = none := by
      rw [hself]
      obtain hnext | rfl := hstop
      · cases stop
        · exact hnext
        · rfl
      · rfl
    rw [State.pumpTake_none hnext, hself]
    refine ⟨rfl, rfl, ?_⟩
    cases stop <;> simp [Pump.stopIf, Pump.ended]
  · obtain rfl : stop = false := Bool.eq_false_iff.mpr hgo
    have hnext' : t.pump[f].next = some (some d') := by
      rw [hself]
      exact hnext
    rw [State.pumpTake_begins hnext' (h.pumpEn.trans hen), State.pumpBegin_eq, (t.setPump_now f _).self]
    exact ⟨rfl, rfl, rfl⟩

end Sys2Proof.Machine
end

section
/-! The pumps' commands DESCRIPTOR_FETCH and PUMP_PLANE_SHIFTED, and all of them together (06 R185 to R194). -/
namespace Sys2Proof.Machine

/-! ### DESCRIPTOR_FETCH -/

theorem descriptorFetch_begins {s : State} {f : Fin 16} (hrun : s.pumpsRun = true) (hen : s.pumpEn f = true)
    (hst : s.pump[f].st ≠ .error) (hiso : s.portIso f = false) (hnext : s.pump[f].next = none)
    (hd : s.pump[f].desc = none) (hwork : s.pumpWork f 0 = true)
    (hcode : accessCode s (portReq f) false (s.pumpEntry f 0) 64 = 0) :
    execDescriptorFetch f .clean s = .next (s.setPump f (s.begun f (readDesc s (s.pumpEntry f 0)))) := by
  rw [execDescriptorFetch_runs hrun hen hst hiso hnext, hd, hwork, State.pumpFetch_served hcode]
  exact done_keep rfl rfl

theorem descriptorFetch_ahead {s : State} {f : Fin 16} (hrun : s.pumpsRun = true) (hen : s.pumpEn f = true)
    (hst : s.pump[f].st ≠ .error) (hiso : s.portIso f = false) (hnext : s.pump[f].next = none)
    (hd : s.pump[f].desc ≠ none) (hwork : s.pumpWork f 1 = true)
    (hcode : accessCode s (portReq f) false (s.pumpEntry f 1) 64 = 0) :
    execDescriptorFetch f .clean s =
      .next (s.setPump f { s.pump[f] with next := some (some (readDesc s (s.pumpEntry f 1))) }) := by
  obtain ⟨d, hd⟩ := Option.ne_none_iff_exists'.mp hd
  rw [execDescriptorFetch_runs hrun hen hst hiso hnext, hd, hwork, State.pumpFetch_served hcode]
  exact done_keep rfl rfl

/-- A fetch without a descriptor that is refused, or meets an uncorrectable error, stops the pump. -/
theorem descriptorFetch_stops {s : State} {f : Fin 16} (hrun : s.pumpsRun = true) (hen : s.pumpEn f = true)
    (hst : s.pump[f].st ≠ .error) (hiso : s.portIso f = false) (hnext : s.pump[f].next = none)
    (hd : s.pump[f].desc = none) (hwork : s.pumpWork f 0 = true) {ecc : Ecc}
    (hfail : accessCode s (portReq f) false (s.pumpEntry f 0) 64 ≠ 0 ∨ ecc = .lost) :
    ∃ t, execDescriptorFetch f ecc s = .next t ∧ s.PumpNow f { s.pump[f] with st := .error, next := none } t ∧
      bit (t.reg (Reg.pumpStat + 0x40 * f.val)) 27 = true := by
  obtain ⟨u, log, hfetch, hu, hbit⟩ := State.pumpFetch_failed hfail
  have hpump : u.pump[f] = s.pump[f] := by rw [hu.pump]
  have hnow := hu.setPump f { s.pump[f] with st := .error, next := none }
  refine ⟨_, ?_, hnow, hbit⟩
  rw [execDescriptorFetch_runs hrun hen hst hiso hnext, hd, hwork, hfetch]
  dsimp only
  rw [if_pos rfl, State.pumpStop, hpump]
  exact hnow.done

/-! ### PUMP_PLANE_SHIFTED -/

/-- The planes that stand in the turn buffer once an IN plane is shifted. -/
def State.inTurn (s : State) (f : Fin 16) (d : Desc) : List Plane :=
  if s.pump[f].turn = [] then (d.group s.pump[f].j).map (fun i => inPlane s f.val d i) else s.pump[f].turn

theorem State.waiting_turn (s : State) (f : Fin 16) (d : Desc) : (s.waiting f d).turn = s.inTurn f d := by
  rw [State.waiting, State.inTurn, Pump.filled]
  simp only [List.isEmpty_iff]

/-- An IN plane shifted whole stands in the field's IO. -/
theorem State.rowsIn_arr {s : State} {f : Fin 16} {d : Desc} (hd : s.pump[f].desc = some d) (hop : d.op = 1)
    (hrows : s.pump[f].rows = 0) :
    (s.rowsIn f).arr = { s.arr with
      io := ((s.inTurn f d).getD (s.pump[f].j % 8) 0 &&& fieldMask f.val) ||| (s.arr.io &&& ~~~(fieldMask f.val)) } := by
  have hsup : s.pump[f].supplied s f.val = (s.inTurn f d).getD (s.pump[f].j % 8) 0 := by
    rw [Pump.supplied, hd]
    dsimp only
    rw [if_pos hop, ← State.waiting_turn, State.waiting]
  rw [State.rowsIn, hrows, Nat.sub_zero, shiftRows_whole, hsup]

/-- An IN plane whose group is served waits for its swap, with the next group read. -/
theorem shiftedIn_waits {s : State} {f : Fin 16} {d : Desc} (h : d.groupFail s s.pump[f].j = none) :
    ∃ e l, (s.rowsIn f).PumpNow f { s.waiting f d with aheadEnd := e, ahead := l } (s.shiftedIn f d []) ∧
      (s.pump[f].j % 8 ≠ 0 ∨ d.npl ≤ 8 * (s.pump[f].j / 8 + 1) ∨ d.groupFail s (8 * (s.pump[f].j / 8 + 1)) = none →
        (s.shiftedIn f d []).regs = s.regs) ∧
      (s.pump[f].j % 8 = 0 → 8 * (s.pump[f].j / 8 + 1) < d.npl → d.groupFail s (8 * (s.pump[f].j / 8 + 1)) = none →
        e = none ∧ l = (d.group (8 * (s.pump[f].j / 8 + 1))).map (fun i => inPlane s f.val d i)) := by
  have hcist : (s.rowsIn f).cist = s.cist := rfl
  have hmem : (s.rowsIn f).mem = s.mem := rfl
  have hregs : (s.rowsIn f).regs = s.regs := rfl
  have hj : (s.waiting f d).j = s.pump[f].j := rfl
  obtain ⟨e, l, hnow, hkept, hahead⟩ := (s.rowsIn f).readAhead_spec f (s.waiting f d) d
  rw [← State.shiftedIn_served h] at hnow hkept
  rw [hregs, hj, Desc.groupFail_of_cist hcist] at hkept
  simp only [hj, Desc.groupFail_of_cist hcist, inPlane_of_mem hmem] at hahead
  exact ⟨e, l, hnow, hkept, hahead⟩

/-- An IN plane whose group's reads are refused or uncorrectable ends the descriptor. -/
theorem shiftedIn_ends {s t : State} {f : Fin 16} {d : Desc} {bad : List (BitVec 48 × Ecc)} {n : Nat} {log : List Nat}
    (hj : s.pump[f].j % 8 = 0) (hjudged : s.pump[f].judged = false) (h : s.groupRead d s.pump[f].j bad = (t, some n))
    (hlog : s.Noted t log) : s.PumpNow f { s.pump[f] with result := some n } (s.shiftedIn f d bad) := by
  rw [State.shiftedIn_ended hj hjudged h]
  exact hlog.setPump f _

theorem State.rowsOut_arr {s : State} {f : Fin 16} (hrows : s.pump[f].rows = 0) :
    (s.rowsOut f).arr = { s.arr with io := s.arr.io &&& ~~~(fieldMask f.val) } := by
  have hclear (io : Plane) : shiftRows f.val 0 512 0 io = io &&& ~~~(fieldMask f.val) := by
    rw [shiftRows_whole, show (0 : Plane) &&& fieldMask f.val = 0#4194304 from BitVec.zero_and, BitVec.zero_or]
  rw [State.rowsOut, hrows, Nat.sub_zero, hclear]

/-- What an OUT plane leaves, whether or not its group ends with it. -/
structure State.PlaneOut (s t : State) (f : Fin 16) (d : Desc) (portA : List (BitVec 48 × BitVec 512 × BitVec 64)) : Prop where
  arr : t.arr = (s.rowsOut f).arr
  pending : t.pending = s.pending
  mode : t.mode = s.mode
  pump : ∃ turn result, t.pump = vset s.pump f { s.outPump f d with turn := turn, result := result }
  last : s.pump[f].j + 1 = d.npl → t.pump[f].result = some 1
  more : s.pump[f].j + 1 ≠ d.npl → s.pump[f].result = none → t.pump[f].result = none
  ended : s.groupEnds f d → t.mem = (s.groupOut f d s.pump[f].j (s.turnOut f) portA).mem ∧
    t.regs = (s.portAWrites d s.pump[f].j portA).regs ∧ t.pump[f].turn = []
  within : ¬ s.groupEnds f d → t.mem = s.mem ∧ t.regs = s.regs ∧ t.pump[f].turn = s.turnOut f

theorem shiftedOut_spec {s : State} {f : Fin 16} {d : Desc} (h : d.groupFail s s.pump[f].j = none)
    (portA : List (BitVec 48 × BitVec 512 × BitVec 64)) : s.PlaneOut (s.shiftedOut f d portA) f d portA := by
  by_cases hends : s.groupEnds f d
  · obtain ⟨q, m, hframe⟩ := State.shiftedOut_written_frame hends h portA
    have hout := (groupOut_memAndRegs f d s.pump[f].j (s.turnOut f) portA).frame s
    have hregs := s.groupOut_regs f d s.pump[f].j (s.turnOut f) portA
    rw [hframe]
    exact {
      arr := rfl
      pending := by rw [hout]
      mode := by rw [hout]
      pump := ⟨_, _, rfl⟩
      last := fun hlast => by rw [vset_get_same]; exact if_pos hlast
      more := fun hlast _ => by rw [vset_get_same]; exact if_neg hlast
      ended := fun _ => ⟨rfl, hregs, by rw [vset_get_same]⟩
      within := fun hn => absurd hends hn }
  · rw [State.shiftedOut_within hends]
    have hself := ((s.rowsOut f).setPump_now f (s.outPump f d)).self
    exact {
      arr := rfl
      pending := rfl
      mode := rfl
      pump := ⟨_, _, rfl⟩
      last := fun hlast => absurd (.inl hlast) hends
      more := fun _ hres => by rw [hself]; exact hres
      ended := fun he => absurd he hends
      within := fun _ => ⟨rfl, rfl, by rw [hself]; rfl⟩ }

theorem State.PlaneOut.st {s t : State} {f : Fin 16} {d : Desc} {portA : List (BitVec 48 × BitVec 512 × BitVec 64)}
    (h : s.PlaneOut t f d portA) :
    t.pump[f].j = s.pump[f].j + 1 ∧ t.pump[f].st = if s.pump[f].j + 1 = d.npl then .shift else .wait := by
  obtain ⟨turn, result, hpump⟩ := h.pump
  rw [hpump, vset_get_same]
  exact ⟨rfl, rfl⟩

theorem State.PlaneOut.others {s t : State} {f : Fin 16} {d : Desc} {portA : List (BitVec 48 × BitVec 512 × BitVec 64)}
    (h : s.PlaneOut t f d portA) (g : Fin 16) (hg : g ≠ f) : t.pump[g] = s.pump[g] := by
  obtain ⟨turn, result, hpump⟩ := h.pump
  rw [hpump, vset_get_other _ _ _ _ hg]

theorem State.PlaneOut.regs {s t : State} {f : Fin 16} {d : Desc} (h : s.PlaneOut t f d []) : t.regs = s.regs := by
  by_cases hends : s.groupEnds f d
  · exact (h.ended hends).2.1
  · exact (h.within hends).2.1

/-- An OUT plane whose group is refused ends the descriptor with its status. -/
theorem shiftedOut_ends {s : State} {f : Fin 16} {d : Desc} {i : Nat} (h : s.groupEnds f d)
    (hfail : d.groupFail s s.pump[f].j = some i) (portA : List (BitVec 48 × BitVec 512 × BitVec 64)) :
    (s.rowsOut f).PumpNow f { s.outPump f d with st := .shift, result := some (d.reach s i) } (s.shiftedOut f d portA) := by
  rw [State.shiftedOut_refused h hfail]
  exact ((s.rowsOut f).pumpRefused_noted d i).setPump f _

end Sys2Proof.Machine

open Sys2Proof Sys2Proof.Machine

/-- Settles O39: by the pumps' own lemmas, command by command; an OUT plane by whether its group ends with it, a completion by
whether its status write is served. -/
theorem pumpCommands : Obligations.PumpCommands := by
  unfold Obligations.PumpCommands
  intro s q f v p size tail stat others
  refine ⟨?tail, ?fetch, ?shift, ?complete, fun hadm => pumpResume_spec hadm, ?flush⟩
  case tail =>
    intro hadm
    exact ⟨_, pumpTail_spec v hadm, rfl, s.setReg_reg_same _ _, fun b hb => s.setReg_reg_other _ b _ hb⟩
  case fetch =>
    intro hrun hen hst hiso hnext at_ served
    refine ⟨?begins, ?ahead, ?stops⟩
    case begins =>
      rintro hd ⟨hwork, hcode⟩
      have hnow := s.setPump_now f (s.begun f (readDesc s (s.pumpEntry f 0)))
      refine ⟨_, readDesc s (s.pumpEntry f 0), descriptorFetch_begins hrun hen hst hiso hnext hd hwork hcode, rfl, ?_⟩
      rw [hnow.self]
      exact ⟨rfl, rfl, rfl, hnow.others, rfl, rfl, rfl, s.begun_result f _⟩
    case ahead =>
      rintro hd ⟨hwork, hcode⟩
      exact descriptorFetch_ahead hrun hen hst hiso hnext hd hwork hcode
    case stops =>
      intro ecc hd hwork hfail
      obtain ⟨t, ht, hnow, hbit⟩ := descriptorFetch_stops hrun hen hst hiso hnext hd hwork hfail
      refine ⟨t, ht, ?_⟩
      rw [hnow.self]
      exact ⟨rfl, hd, hbit, hnow.others, hnow.mem⟩
  case shift =>
    intro d portA hrun hb hst hd hres
    have hshift (bad) : exec (.pumpPlaneShifted f bad portA) s =
        done s (if d.op = 1 then s.shiftedIn f d bad else s.shiftedOut f d portA) :=
      execPumpPlaneShifted_runs hrun hb hst hd hres bad portA
    refine ⟨?inServed, ?inEnded, ?outServed, ?outRefused⟩
    case inServed =>
      intro hop hok planes j'
      obtain ⟨e, l, hnow, hregs, hahead⟩ := shiftedIn_waits hok
      refine ⟨s.shiftedIn f d [], ?_, ?_⟩
      · rw [hshift, if_pos hop]
        exact done_keep hnow.pending hnow.mode
      · rw [hnow.self]
        exact ⟨rfl, rfl, s.waiting_turn f d, hres, hnow.others, hnow.mem, hregs, hahead,
          fun hrows => hnow.arr.trans (State.rowsIn_arr hd hop hrows)⟩
    case inEnded =>
      intro hop hj hjudged
      refine ⟨fun i hfail => ?_, fun a hok ha => ?_⟩
      · have hnow := shiftedIn_ends hj hjudged (State.groupRead_refused hfail []) (s.pumpRefused_noted d i)
        refine ⟨_, by rw [hshift, if_pos hop]; exact hnow.done, ?_⟩
        rw [hnow.self]
        exact ⟨rfl, hnow.others, hnow.arr, hnow.mem⟩
      · obtain ⟨log, hecc⟩ := s.memEcc_noted a.toNat .lost
        have hnow := shiftedIn_ends hj hjudged (State.groupRead_lost hok ha) hecc
        refine ⟨_, by rw [hshift, if_pos hop]; exact hnow.done, ?_⟩
        rw [hnow.self]
        exact ⟨rfl, hnow.others, hnow.arr, hnow.mem⟩
    case outServed =>
      intro hop hok turn ends
      have hout := shiftedOut_spec hok portA
      obtain ⟨hj, hst⟩ := hout.st
      refine ⟨s.shiftedOut f d portA, ?_, hout.others, fun he => ?_, fun hn => ?_, fun hnil => ?_, hj, hout.last,
        fun hlast => ⟨hout.more hlast hres, hst.trans (if_neg hlast)⟩, fun hrows => hout.arr.trans (State.rowsOut_arr hrows),
        fun x n hx he htouch hregion hroom => ?_⟩
      · rw [hshift, if_neg hop]
        exact done_keep hout.pending hout.mode
      · obtain ⟨hmem, -, hturn⟩ := hout.ended he
        exact ⟨hmem, hturn⟩
      · obtain ⟨hmem, -, hturn⟩ := hout.within hn
        exact ⟨hmem, hturn⟩
      · subst hnil
        exact hout.regs
      · subst hx
        obtain ⟨-, hregs, -⟩ := hout.ended he
        rw [State.fld_of_reg_eq (s := s.portAWrites d p.j [x]) (by rw [State.reg, hregs]; rfl)]
        exact State.portAWrites_collision htouch hregion hroom
    case outRefused =>
      intro i hop hfail hends
      have hnow := shiftedOut_ends hends hfail portA
      refine ⟨s.shiftedOut f d portA, ?_, ?_⟩
      · rw [hshift, if_neg hop]
        exact done_keep hnow.pending hnow.mode
      · rw [hnow.self]
        exact ⟨rfl, hnow.others, hnow.mem⟩
  case complete =>
    intro d n hrun hiso hd hres a moved stops written
    have hcode : s.statusCode f = 0 ↔ written := by rw [State.statusCode_eq hiso]; rfl
    have hfin := State.pumpFinish_spec hd n
    have hcomplete := execDescriptorComplete_runs hrun hiso hd hres
    obtain ⟨⟨hlast, hhead⟩, hstops, hbegins⟩ := hfin.taken
    generalize s.pumpFinish f n = t at *
    obtain ⟨q, htake, -⟩ := t.pumpTake_spec f
    have hmem : (t.pumpTake f).mem = (s.statusMem f n).mem := by rw [htake]; exact hfin.mem
    have hregs : (t.pumpTake f).regs = t.regs := by rw [htake]; rfl
    have hreg (b : Nat) : (t.pumpTake f).reg b = t.reg b := by rw [State.reg, hregs]; rfl
    refine ⟨t.pumpTake f, hcomplete, hlast, hhead, fun g hg => ?_, ?_, fun hirq => ?_, fun hnone => ?_, fun hnext hw => ?_,
      fun d' hnext hen hw hgo => ?_, fun hw => ?_, fun hw => ⟨?_, ?_, ?_⟩⟩
    · rw [htake, (t.setPump_now f q).others g hg]
      exact hfin.others g hg
    · rw [htake]
      exact hfin.arr
    · rw [hreg]
      exact hfin.irq hirq
    · obtain ⟨hdesc, hresult, -⟩ := hstops (hnone.imp_right .inl)
      exact ⟨hdesc, hresult⟩
    · obtain ⟨-, -, hst⟩ := hstops (.inl hnext)
      rw [hst, or_iff_left (not_not.mpr (hcode.mpr hw))]
    · exact hbegins d' hnext hen (not_or.mpr ⟨hgo, not_not.mpr (hcode.mpr hw)⟩)
    · rw [hmem, State.statusMem_written (hcode.mpr hw) hiso, Pump.done_eq hd]
      rfl
    · rw [hmem, State.statusMem_refused (mt hcode.mp hw)]
    · obtain ⟨-, -, hst⟩ := hstops (.inr (.inr (mt hcode.mp hw)))
      exact hst.mpr (.inr (mt hcode.mp hw))
    · rw [hreg]
      exact hfin.fetchErr (mt hcode.mp hw)
  case flush =>
    intro hadm
    obtain ⟨t, q, ht, hpump, harr, hhead, hnext, hidle, hended⟩ := pumpFlush_spec hadm
    refine ⟨t, ht, fun g hg => ?_, harr, ?_⟩
    · rw [hpump, vset_get_other _ _ _ _ hg]
    · rw [hpump, vset_get_same]
      exact ⟨hhead, hnext, hidle, hended⟩

end

section
/-! What the microsequencer's own changes to its registers leave alone: its stall counts, its counters, its fatal and contained
errors (02 R79; 03 R98, R103; 15 R403 to R407). -/
namespace Sys2Proof.Machine

/-- Counting stalls writes no stored word but MSEQ_STAT. -/
theorem State.countStalls_reg_other (s : State) (total sump : Nat) {b : Nat} (hb : b ≠ Reg.mseqStat) :
    (s.countStalls total sump).reg b = s.reg b := by
  unfold State.countStalls
  dsimp only
  split <;> split
  · rw [State.setBit_reg_other _ _ _ _ hb, State.setBit_reg_other _ _ _ _ hb]
    rfl
  · exact State.setBit_reg_other _ _ _ _ hb
  · exact State.setBit_reg_other _ _ _ _ hb
  · rfl

/-- An event counts where the counter of 32 bits has room. -/
theorem State.countWord_reg_of_lt (s : State) {a oa : Nat} (ob : Nat) (hne : a ≠ oa) (hroom : (s.reg a).toNat < 2 ^ 32 - 1) :
    ((s.countWord a oa ob 1).reg a).toNat = (s.reg a).toNat + 1 := by
  have hword (t : State) : t.fld a 31 0 = (t.reg a).toNat := Nat.mod_eq_of_lt (t.reg a).isLt
  have hset : ((s.setFld a 31 0 ((s.reg a).toNat + 1)).reg a).toNat = (s.reg a).toNat + 1 := by
    rw [← hword, State.fld_setFld_same _ _ _ _ _ (by decide)]
    exact Nat.mod_eq_of_lt (by omega)
  rw [State.countWord, State.countEv, if_neg (by decide)]
  dsimp only
  rw [hword, Nat.min_eq_left (by omega)]
  split
  · rw [State.setBit_reg_other _ _ _ _ hne, hset]
  · exact hset

/-- The first fatal error of the array or the microsequencer is recorded by its code. -/
theorem State.fatalIn_first {s : State} (h : s.fatalSeen = false) (code cyc : Nat) :
    (s.fatalIn code cyc).fld Reg.errorFatal 5 0 = code % 64 := by
  have hcode := State.fatal_first_reg h code false Reg.errorFatal (by decide) (by decide)
  have hin : s.fatalIn code cyc = { s.fatal code with mseq := { s.mseq with fatalCyc := some cyc } } := if_pos (by simp [h])
  rw [hin]
  refine (State.fld_of_reg_eq (s := s.setFld Reg.errorFatal 6 0 (code + 64 * b2n false)) hcode 5 0).trans ?_
  exact State.fld_setFld_within _ _ _ _ _ (by decide) (by decide)

/-- MSEQ_FATAL records the first cause. -/
theorem State.mseqFatal_reg {s : State} (h : s.fld Reg.mseqFatal 3 0 = 0) (cause field addr rtn cyc : Nat) :
    (s.mseqFatal cause field addr rtn cyc).reg Reg.mseqFatal =
      BitVec.ofNat 32 (cause + 16 * field + 256 * addr + 2 ^ 22 * rtn) := by
  rw [State.mseqFatal, if_pos h, State.fatalIn_reg_other _ _ _ (by decide), State.setReg_reg_same]

theorem State.mseqFatal_fatalSeen (s : State) {cause : Nat} (h : (cause + 2) % 64 ≠ 0) (field addr rtn cyc : Nat) :
    (s.mseqFatal cause field addr rtn cyc).fatalSeen = true := State.fatalIn_fatalSeen _ cyc h

/-- ERROR_FATAL records it where no fatal error has been recorded before. -/
theorem State.mseqFatal_first {s : State} (h : s.fatalSeen = false) (cause field addr rtn cyc : Nat) :
    (s.mseqFatal cause field addr rtn cyc).fld Reg.errorFatal 5 0 = (cause + 2) % 64 := by
  refine State.fatalIn_first ?_ (cause + 2) cyc
  split
  · rw [State.fatalSeen, State.fld, State.setReg_reg_other _ _ _ _ (by decide)]
    exact h
  · exact h

/-- A contained error of the microsequencer is logged, and its cycle may be remembered. -/
theorem State.containedIn_noted (s : State) (code cyc : Nat) :
    ∃ t c, s.Noted t containedRegs ∧ s.containedIn code cyc = { t with mseq := { s.mseq with contCyc := c } } := by
  have hlog := s.contained_noted code
  have hmseq : (s.contained code).mseq = s.mseq := by rw [hlog.frame]
  unfold State.containedIn
  split
  · exact ⟨_, _, hlog, rfl⟩
  · split
    · have hfld := hlog.trans (State.setFld_noted _ Reg.errorContLog 5 0 code)
      refine ⟨_, s.mseq.contCyc, hfld.mono (by simp [containedRegs]), ?_⟩
      rw [← hmseq]
      rfl
    · refine ⟨_, s.mseq.contCyc, hlog, ?_⟩
      rw [← hmseq]

/-- An s register that becomes valid is all that changes. -/
theorem State.sValid_frame (s : State) (r : Fin 8) (issue : Nat) (v : Dbl) :
    ∃ q, s.sValid r issue v = { s with iss := { s.iss with sreg := q } } := by
  unfold State.sValid
  dsimp only
  split
  · exact ⟨_, rfl⟩
  · exact ⟨s.iss.sreg, rfl⟩

/-- A register whose owner is still that issue takes the value. -/
theorem State.sValid_owned {s : State} {r : Fin 8} {issue : Nat} (hmode : s.mode ≠ .faultHold)
    (howner : s.iss.sreg[r].owner = issue) (hnamed : s.iss.sreg[r].named = true) (hvalid : s.iss.sreg[r].valid = false)
    (v : Dbl) : (s.sValid r issue v).iss.sreg[r] = { s.iss.sreg[r] with val := v, valid := true } := by
  rw [State.sValid]
  dsimp only
  rw [howner, hnamed, hvalid, if_pos (by simp [hmode])]
  exact vset_get_same _ _ _

end Sys2Proof.Machine
end

section
/-! Queues and preparation (03 R103 to R105, R111; 05 R148 to R150). -/
namespace Sys2Proof.Machine

/-- An accepted issue enters its queue. -/
theorem execEntryAccepted_cons {s : State} {e : Entry} {l : List Entry} (hmode : s.mode ≠ .faultHold)
    (h : s.mseq.accept = e :: l) : execEntryAccepted s = .next { s.reach e.acc with mseq := { s.mseq with
      accept := l
      uq := if e.urgent then s.mseq.uq ++ [e] else s.mseq.uq
      nq := if e.urgent then s.mseq.nq else s.mseq.nq ++ [e] } } := by
  rw [execEntryAccepted, when_true (by simpa using hmode), h]
  dsimp only
  rw [State.reach_mseq]
  exact done_keep (s.reach_pending e.acc) (s.reach_mode e.acc)

/-! ### Whose dispatch is prepared (03 R104, R111) -/

theorem State.candidate_urgent {s : State} {e : Entry} {l : List Entry} (h : s.mseq.uq = e :: l) :
    s.candidate = some (.head true) := by
  rw [State.candidate, h]
  rfl

theorem State.candidate_restart {s : State} {e : Entry} (hu : s.mseq.uq = []) (h : s.mseq.restart = some e) :
    s.candidate = some .restart := by
  rw [State.candidate, hu, h]
  rfl

theorem State.candidate_normal {s : State} {e : Entry} {l : List Entry} (hu : s.mseq.uq = []) (hr : s.mseq.restart = none)
    (h : s.mseq.nq = e :: l) : s.candidate = some (.head false) := by
  rw [State.candidate, hu, hr, h]
  rfl

/-- An entry is not refused where its routine is valid and starts in its region (03 R103). -/
theorem State.refused_eq_false_iff {s : State} {e : Entry} : s.refused e = false ↔
    (s.rtabLo e.rtn).getLsbD 31 = true ∧
      (if e.rtn < 512 then (s.rtabLo e.rtn).toNat % 2 ^ 14 < 8192 else 8192 ≤ (s.rtabLo e.rtn).toNat % 2 ^ 14) := by
  have hstart : bits (s.rtabLo e.rtn).toNat 13 0 = (s.rtabLo e.rtn).toNat % 2 ^ 14 := rfl
  unfold State.refused
  dsimp only
  rw [hstart, bit]
  by_cases hrtn : e.rtn < 512 <;> simp [hrtn]

/-- s with a preparation begun. -/
def State.prepared (s : State) (p : Prep) : State := { s with mseq := { s.mseq with prep := some p } }

theorem execDispatchPreparation_restart {s : State} (hmay : s.mayDispatch = true) (hprep : s.mseq.prep = none)
    (hcand : s.candidate = some .restart) : execDispatchPreparation s = .next (s.prepared .restart) := by
  rw [execDispatchPreparation, when_true (by simp [hmay, hprep]), hcand]
  exact done_keep rfl rfl

theorem execDispatchPreparation_head {s : State} {u : Bool} {e : Entry} (hmay : s.mayDispatch = true)
    (hprep : s.mseq.prep = none) (hcand : s.candidate = some (.head u)) (he : s.mseq.headOf u = some e) :
    execDispatchPreparation s = done s (if s.refused e then s.refuseEntry u e else s.prepared (.head u)) := by
  rw [execDispatchPreparation, when_true (by simp [hmay, hprep]), hcand]
  dsimp only
  rw [show s.prepEntry (.head u) = some e from he]
  rfl

theorem execDispatchPreparation_fit {s : State} {u : Bool} {e : Entry} (hmay : s.mayDispatch = true)
    (hprep : s.mseq.prep = none) (hcand : s.candidate = some (.head u)) (he : s.mseq.headOf u = some e)
    (hfit : s.refused e = false) : execDispatchPreparation s = .next (s.prepared (.head u)) := by
  rw [execDispatchPreparation_head hmay hprep hcand he, if_neg (by simp [hfit])]
  exact done_keep rfl rfl

/-! ### A refused entry (03 R103) -/

/-- t is s after the head e of a queue was refused: it has left its queue, its s register is valid with 0, BADRTN is set. -/
structure State.HeadRefused (s : State) (u : Bool) (e : Entry) (t : State) : Prop where
  uq : t.mseq.uq = if u then s.mseq.uq.tail else s.mseq.uq
  nq : t.mseq.nq = if u then s.mseq.nq else s.mseq.nq.tail
  prep : t.mseq.prep = s.mseq.prep
  badrtn : bit (t.reg Reg.mseqStat) 15 = true
  sreg : ∀ r, e.sreg = some r → s.mode ≠ .faultHold → s.iss.sreg[r].owner = e.issue → s.iss.sreg[r].named = true →
    s.iss.sreg[r].valid = false → t.iss.sreg[r].valid = true ∧ t.iss.sreg[r].val = 0
  mem : t.mem = s.mem
  arr : t.arr = s.arr
  pending : t.pending = s.pending
  mode : t.mode = s.mode

/-- The s register of an entry that ends without a result becomes valid with 0. -/
def State.sregEnded (s : State) (e : Entry) : State :=
  match e.sreg with
  | some r => s.sValid r e.issue 0
  | none => s

theorem State.sregEnded_frame (s : State) (e : Entry) : ∃ q, s.sregEnded e = { s with iss := { s.iss with sreg := q } } := by
  unfold State.sregEnded
  split
  · exact s.sValid_frame _ _ _
  · exact ⟨s.iss.sreg, rfl⟩

/-- s as the head e of a queue leaves it, before the error is logged; its stream is idle from the present cycle on at the
earliest (05 R154). -/
def State.headLeft (s : State) (u : Bool) (e : Entry) : State :=
  let t := (s.dropHead u).sregEnded e
  { t with sump := { t.sump with
    doneN := if u then t.sump.doneN else max t.sump.doneN t.acyc
    doneU := if u then max t.sump.doneU t.acyc else t.sump.doneU } }

theorem State.refuseEntry_eq (s : State) (u : Bool) (e : Entry) :
    s.refuseEntry u e = ((s.headLeft u e).setBit Reg.mseqStat 15).containedIn 34 (s.headLeft u e).acyc := rfl

theorem State.headLeft_frame (s : State) (u : Bool) (e : Entry) :
    ∃ q x, s.headLeft u e = { s.dropHead u with iss := { s.iss with sreg := q }, sump := x } := by
  obtain ⟨q, h⟩ := (s.dropHead u).sregEnded_frame e
  rw [State.headLeft, h]
  exact ⟨q, _, rfl⟩

theorem State.headLeft_sreg {s : State} {e : Entry} {r : Fin 8} (hr : e.sreg = some r) (hmode : s.mode ≠ .faultHold)
    (howner : s.iss.sreg[r].owner = e.issue) (hnamed : s.iss.sreg[r].named = true) (hvalid : s.iss.sreg[r].valid = false)
    (u : Bool) : (s.headLeft u e).iss.sreg[r] = { s.iss.sreg[r] with val := 0, valid := true } := by
  have hended : (s.dropHead u).sregEnded e = (s.dropHead u).sValid r e.issue 0 := by rw [State.sregEnded, hr]
  rw [State.headLeft, hended]
  exact State.sValid_owned (s := s.dropHead u) hmode howner hnamed hvalid 0

theorem State.refuseEntry_refused (s : State) (u : Bool) (e : Entry) : s.HeadRefused u e (s.refuseEntry u e) := by
  obtain ⟨t, c, hlog, ht⟩ := ((s.headLeft u e).setBit Reg.mseqStat 15).containedIn_noted 34 (s.headLeft u e).acyc
  obtain ⟨q, x, hleft⟩ := s.headLeft_frame u e
  have hbad : bit (t.reg Reg.mseqStat) 15 = true := by
    rw [hlog.others _ (by decide), State.bit_setBit _ _ _ (by decide)]
    rfl
  have hsreg : t.iss.sreg = (s.headLeft u e).iss.sreg := by rw [hlog.frame]; rfl
  have hrest : t.mem = s.mem ∧ t.arr = s.arr ∧ t.pending = s.pending ∧ t.mode = s.mode := by
    rw [hlog.frame, hleft]
    exact ⟨rfl, rfl, rfl, rfl⟩
  have hmseq : ((s.headLeft u e).setBit Reg.mseqStat 15).mseq = (s.dropHead u).mseq := by rw [hleft]; rfl
  obtain ⟨hmem, harr, hpending, hmode⟩ := hrest
  rw [State.refuseEntry_eq, ht, hmseq]
  exact {
    uq := by cases u <;> rfl
    nq := by cases u <;> rfl
    prep := by cases u <;> rfl
    badrtn := hbad
    sreg := fun r hr hm howner hnamed hvalid => by
      show t.iss.sreg[r].valid = true ∧ t.iss.sreg[r].val = 0
      rw [hsreg, State.headLeft_sreg hr hm howner hnamed hvalid]
      exact ⟨rfl, rfl⟩
    mem := hmem
    arr := harr
    pending := hpending
    mode := hmode }

theorem execDispatchPreparation_refuses {s : State} {u : Bool} {e : Entry} (hmay : s.mayDispatch = true)
    (hprep : s.mseq.prep = none) (hcand : s.candidate = some (.head u)) (he : s.mseq.headOf u = some e)
    (hbad : s.refused e = true) : execDispatchPreparation s = .next (s.refuseEntry u e) := by
  have h := s.refuseEntry_refused u e
  rw [execDispatchPreparation_head hmay hprep hcand he, if_pos hbad]
  exact done_keep h.pending h.mode

end Sys2Proof.Machine
end

section
/-! Dispatch: which routine starts, and in which cycle (03 R93, R105, R106, R111; 02 R64, R78). -/
namespace Sys2Proof.Machine

/-- The first cycle of a dispatched routine: P + 1 after a routine of its own stream, P + 17 after one of the other stream or
for a restart, and no earlier than the preparation from acceptance or release allows (03 R105; log 38). -/
theorem State.firstCycle_after {s : State} {p : Nat} {u : Bool} (h : s.mseq.lastP = some (p, u)) (e : Entry) (restart : Bool) :
    (s.firstCycle e restart).1 = max (p + if u = e.urgent ∧ restart = false then 1 else 17)
      (max (if restart then 0 else e.acc + 17) (s.mseq.relH + 16)) := by
  rw [State.firstCycle, h]
  simp

theorem State.firstCycle_fresh {s : State} (h : s.mseq.lastP = none) (e : Entry) (restart : Bool) :
    (s.firstCycle e restart).1 = max (if restart then 0 else e.acc + 17) (s.mseq.relH + 16) := by
  rw [State.firstCycle, h]

/-- The dispatched entry has left its queue or the restart slot. -/
def State.taken (s : State) : Prep → State
  | .restart => { s with mseq := { s.mseq with restart := none } }
  | .head u => s.dropHead u

/-- Routine e at its start, taken from p: nothing counted yet, no break looked at. -/
def State.started (s : State) (p : Prep) (e : Entry) : State :=
  { s.taken p with
    acyc := max s.acyc (s.firstCycle e (p == .restart)).1
    arr := { s.arr with slackGaps := [] }
    sump := { s.sump with
      nacc := if e.urgent then s.sump.nacc else 0
      uacc := if e.urgent then 0 else s.sump.uacc }
    mseq := { (s.taken p).mseq with
      run := some ⟨e, (s.rtabLo e.rtn).toNat % 2 ^ 14, none, none, s.reg Reg.arrayEdge, 0, []⟩
      prep := none
      curRtn := e.rtn
      loopN := if e.urgent then s.mseq.loopN else LoopSt.reset
      loopU := if e.urgent then LoopSt.reset else s.mseq.loopU } }

theorem State.setLoop_eq (s : State) (urgent : Bool) (l : LoopSt) : s.setLoop urgent l = { s with mseq := { s.mseq with
    loopN := if urgent then s.mseq.loopN else l
    loopU := if urgent then l else s.mseq.loopU } } := by
  cases urgent <;> rfl

/-- The routine has started and is counted: the idle cycles before it, and its dispatch (03 R105). -/
def State.dispatchCounted (s : State) (p : Prep) (e : Entry) : State :=
  let c := sat64 s.mseq.bubble ((s.firstCycle e (p == .restart)).1 - (s.firstCycle e (p == .restart)).2)
  let t : State := { s.started p e with mseq := { (s.started p e).mseq with bubble := c.1 } }
  (if c.2 then t.setBit Reg.mseqStat 19 else t).countWord Reg.mseqDispatch Reg.mseqStat 20 1

/-- The breaks that a dispatch of e looks at: by routine, then by address (16 R433). -/
def State.dispatchBreak (t : State) (e : Entry) : State :=
  match [0, 1].find? (fun n => let w := t.reg (Reg.dbgMbrkRtn + 4 * n)
      bit w 12 && bits w.toNat 9 0 == e.rtn && streamSel (bits w.toNat 11 10) e.urgent) with
  | some n => t.breakAt 1 n
  | none => t.addrBreak

theorem State.dispatchEntry_eq (s : State) (p : Prep) (e : Entry) :
    s.dispatchEntry p e = (s.dispatchCounted p e).dispatchBreak e := by
  unfold State.dispatchEntry
  dsimp only
  rw [State.setLoop_eq]
  obtain _ | (_ | _) := p <;> rfl

theorem State.dispatchCounted_frame (s : State) (p : Prep) (e : Entry) : ∃ l n, s.dispatchCounted p e =
    { s.started p e with regs := l, mseq := { (s.started p e).mseq with bubble := n } } := by
  unfold State.dispatchCounted
  dsimp only
  split
  · exact Exists.elim (State.countWord_regs _ Reg.mseqDispatch Reg.mseqStat 20 1) fun l h => ⟨l, _, h⟩
  · exact Exists.elim (State.countWord_regs _ Reg.mseqDispatch Reg.mseqStat 20 1) fun l h => ⟨l, _, h⟩

theorem State.dispatchBreak_frame (t : State) (e : Entry) :
    ∃ b k, t.dispatchBreak e = { t with mseq := { t.mseq with brk := b }, seq := k } := by
  unfold State.dispatchBreak
  split
  · exact ⟨_, _, rfl⟩
  · exact t.addrBreak_frame

/-- A dispatch starts the routine; beside that it counts and may stop at a break. -/
theorem State.dispatchEntry_frame (s : State) (p : Prep) (e : Entry) : ∃ l n b k, s.dispatchEntry p e =
    { s.started p e with regs := l, seq := k, mseq := { (s.started p e).mseq with bubble := n, brk := b } } := by
  obtain ⟨l, n, hcounted⟩ := s.dispatchCounted_frame p e
  obtain ⟨b, k, hbreak⟩ := (s.dispatchCounted p e).dispatchBreak_frame e
  rw [State.dispatchEntry_eq, hbreak, hcounted]
  exact ⟨_, _, _, _, rfl⟩

theorem State.taken_frame (s : State) (p : Prep) : ∃ r n u, s.taken p =
    { s with mseq := { s.mseq with restart := r, nq := n, uq := u } } := by
  cases p with
  | restart => exact ⟨_, _, _, rfl⟩
  | head u => cases u <;> exact ⟨_, _, _, rfl⟩

/-- t is s in which the routine e, prepared as p, has begun. -/
structure State.Dispatched (s : State) (p : Prep) (e : Entry) (t : State) : Prop where
  run : ∃ r, t.mseq.run = some r ∧ r.entry = e ∧ r.next = (s.rtabLo e.rtn).toNat % 2 ^ 14 ∧ r.commitAt = none ∧ r.last = none
  prep : t.mseq.prep = none
  curRtn : t.mseq.curRtn = e.rtn
  acyc : t.acyc = max s.acyc (s.firstCycle e (p == .restart)).1
  loop : t.mseq.loop e.urgent = LoopSt.reset
  nacc : t.sump.nacc = if e.urgent then s.sump.nacc else 0
  uacc : t.sump.uacc = if e.urgent then 0 else s.sump.uacc
  mem : t.mem = s.mem
  arr : t.arr = { s.arr with slackGaps := [] }
  uq : t.mseq.uq = (s.taken p).mseq.uq
  nq : t.mseq.nq = (s.taken p).mseq.nq
  restart : t.mseq.restart = (s.taken p).mseq.restart
  pending : t.pending = s.pending
  mode : t.mode = s.mode

theorem State.dispatchEntry_dispatched (s : State) (p : Prep) (e : Entry) : s.Dispatched p e (s.dispatchEntry p e) := by
  obtain ⟨l, n, b, k, ht⟩ := s.dispatchEntry_frame p e
  obtain ⟨r, nq, uq, hfrom⟩ := s.taken_frame p
  rw [ht]
  exact {
    run := ⟨_, rfl, rfl, rfl, rfl, rfl⟩
    prep := rfl
    curRtn := rfl
    acyc := rfl
    loop := by
      simp only [State.started, Mseq.loop]
      cases e.urgent <;> rfl
    nacc := rfl
    uacc := rfl
    mem := (by rw [hfrom] : (s.taken p).mem = s.mem)
    arr := rfl
    uq := rfl
    nq := rfl
    restart := rfl
    pending := (by rw [hfrom] : (s.taken p).pending = s.pending)
    mode := (by rw [hfrom] : (s.taken p).mode = s.mode) }

/-- The prepared routine starts where no urgent entry is accepted, or it is the urgent head itself. -/
theorem execDispatch_starts {s : State} {p : Prep} {e : Entry} (hmay : s.mayDispatch = true) (hrun : s.mseq.run = none)
    (hprep : s.mseq.prep = some p) (he : s.prepEntry p = some e) (hurgent : s.mseq.uq = [] ∨ p = .head true) :
    execDispatch s = .next (s.dispatchEntry p e) := by
  have h := s.dispatchEntry_dispatched p e
  rw [execDispatch, when_true (by simp [hmay, hrun]), hprep]
  dsimp only
  rw [he]
  dsimp only
  obtain hu | rfl := hurgent
  · rw [State.urgentFrom, hu]
    exact done_keep h.pending h.mode
  · rw [if_neg (by cases s.urgentFrom <;> simp)]
    exact done_keep h.pending h.mode

/-- It gives way to an urgent entry accepted before its first cycle. -/
theorem execDispatch_gives_way {s : State} {p : Prep} {e x : Entry} {l : List Entry} (hmay : s.mayDispatch = true)
    (hrun : s.mseq.run = none) (hprep : s.mseq.prep = some p) (he : s.prepEntry p = some e) (hp : p ≠ .head true)
    (hu : s.mseq.uq = x :: l) (hlate : max s.acyc (x.acc + 1) ≤ (s.firstCycle e (p == .restart)).1) :
    execDispatch s = .next s := by
  rw [execDispatch, when_true (by simp [hmay, hrun]), hprep]
  dsimp only
  rw [he, State.urgentFrom, hu]
  dsimp only
  rw [if_pos (by simpa [hp] using hlate)]
  exact done_keep rfl rfl

end Sys2Proof.Machine
end

section
/-! What ends a running routine from outside: preemption and commit overrun (03 R103, R108, R109, R120). -/
namespace Sys2Proof.Machine

/-- Only a normal routine that is not in its commit phase is preempted. -/
theorem State.preemptAt_some {s : State} {r : Running} {c : Nat} (hrun : s.mseq.run = some r) (h : s.preemptAt = some c) :
    r.entry.urgent = false ∧ r.commitAt = none := by
  rw [State.preemptAt, hrun] at h
  cases hu : s.urgentFrom with
  | none => simp [hu] at h
  | some x =>
    rw [hu] at h
    dsimp only at h
    by_cases hno : (r.entry.urgent || r.commitAt.isSome || !s.mayDispatch) = true
    · rw [if_pos hno] at h
      exact absurd h (by simp)
    · simp only [Bool.or_eq_true, not_or] at hno
      obtain ⟨⟨hurgent, hcommit⟩, -⟩ := hno
      exact ⟨by simpa using hurgent, by simpa using hcommit⟩

theorem State.cancelPrep_frame (s : State) (c : Nat) :
    ∃ p n, s.cancelPrep c = { s with mseq := { s.mseq with prep := p, relH := n } } := by
  unfold State.cancelPrep
  split <;> exact ⟨_, _, rfl⟩

/-- Cutting a microword off counts its stalls, and shows it at most. -/
theorem State.cutOff_frame (s : State) (r : Running) (c : Nat) : ∃ l i w n a, s.cutOff r c =
    { s with regs := l, mseq := { s.mseq with istall := i, sstall := w, curRtn := n, curAddr := a } } := by
  obtain ⟨l, i, w, h⟩ := s.countStalls_frame (min (c - s.acyc) (s.spanOf r).stall) (min (c - s.acyc) (s.spanOf r).sump)
  unfold State.cutOff
  dsimp only
  rw [h]
  split <;> exact ⟨_, _, _, _, _, rfl⟩

theorem State.cutOff_reg_other (s : State) (r : Running) (c : Nat) {b : Nat} (hb : b ≠ Reg.mseqStat) :
    (s.cutOff r c).reg b = s.reg b := by
  have h := s.countStalls_reg_other (min (c - s.acyc) (s.spanOf r).stall) (min (c - s.acyc) (s.spanOf r).sump) hb
  unfold State.cutOff
  dsimp only
  split
  · exact h
  · exact h

theorem State.setWells_frame (f : State → Nat → Plane) (g : Nat → Nat) (l : List Nat) (s : State) :
    ∃ a, l.foldl (fun (s : State) i => s.setWell (g i) (f s i)) s = { s with arr := a } := by
  induction l generalizing s with
  | nil => exact ⟨s.arr, rfl⟩
  | cons i l ih =>
    obtain ⟨a, h⟩ := ih (s.setWell (g i) (f s i))
    exact ⟨a, h⟩

/-- What becomes undefined is in the array. -/
theorem State.undefScratch_frame (s : State) (latches : Bool) :
    ∃ a n, s.undefScratch latches = { s with arr := a, free := n } := by
  obtain ⟨a, h⟩ := State.setWells_frame
    (fun t i => mux s.arr.liveMask (Config.freePlane (s.free + i)) (t.well (4032 + i))) (4032 + ·) (List.range 64) s
  unfold State.undefScratch
  dsimp only
  rw [h]
  exact ⟨_, _, rfl⟩

/-- t is s in which routine r has been abandoned at cycle c. -/
structure State.Abandoned (s : State) (r : Running) (c : Nat) (t : State) : Prop where
  run : t.mseq.run = none
  restart : t.mseq.restart = some r.entry
  uq : t.mseq.uq = s.mseq.uq
  nq : t.mseq.nq = s.mseq.nq
  lastP : t.mseq.lastP = some (c - 1, false)
  acyc : t.acyc = max s.acyc c
  mem : t.mem = s.mem
  counted : (s.reg Reg.mseqPreempt).toNat < 2 ^ 32 - 1 →
    (t.reg Reg.mseqPreempt).toNat = (s.reg Reg.mseqPreempt).toNat + 1
  pending : t.pending = s.pending
  mode : t.mode = s.mode

theorem State.abandon_frame (s : State) (r : Running) (c : Nat) : ∃ l k a i w n x, s.abandon r c = { s with
    acyc := max s.acyc c, regs := l, free := k, arr := a
    mseq := { s.mseq with
      istall := i, sstall := w, curRtn := n, curAddr := x
      run := none, restart := some r.entry, lastP := some (c - 1, false) } } := by
  obtain ⟨l, i, w, n, x, hcut⟩ := s.cutOff_frame r c
  obtain ⟨a, k, hscratch⟩ := (s.cutOff r c).undefScratch_frame (s.fromLib r)
  unfold State.abandon
  dsimp only
  rw [hscratch, hcut]
  exact Exists.elim (State.countWord_regs _ Reg.mseqPreempt Reg.mseqStat 21 1) fun _ h => ⟨_, _, _, _, _, _, _, h⟩

theorem State.abandon_counted {s : State} (hroom : (s.reg Reg.mseqPreempt).toNat < 2 ^ 32 - 1) (r : Running) (c : Nat) :
    ((s.abandon r c).reg Reg.mseqPreempt).toNat = (s.reg Reg.mseqPreempt).toNat + 1 := by
  obtain ⟨a, k, hscratch⟩ := (s.cutOff r c).undefScratch_frame (s.fromLib r)
  have hreg : (s.cutOff r c).reg Reg.mseqPreempt = s.reg Reg.mseqPreempt := s.cutOff_reg_other r c (by decide)
  unfold State.abandon
  dsimp only
  rw [hscratch]
  refine (State.countWord_reg_of_lt _ 21 (by decide) ?_).trans (congrArg (fun w : Word => w.toNat + 1) hreg)
  exact lt_of_eq_of_lt (congrArg BitVec.toNat hreg) hroom

theorem State.abandon_abandoned (s : State) (r : Running) (c : Nat) : s.Abandoned r c (s.abandon r c) := by
  have hcount := fun hroom => State.abandon_counted (s := s) hroom r c
  obtain ⟨l, k, a, i, w, n, x, h⟩ := s.abandon_frame r c
  rw [h] at hcount ⊢
  exact ⟨rfl, rfl, rfl, rfl, rfl, rfl, rfl, hcount, rfl, rfl⟩

/-- An abandonment is the same with a preparation cancelled before it. -/
theorem State.Abandoned.of_cancelPrep {s t : State} {r : Running} {c : Nat} (h : (s.cancelPrep c).Abandoned r c t) :
    s.Abandoned r c t := by
  obtain ⟨p, n, hcancel⟩ := s.cancelPrep_frame c
  rw [hcancel] at h
  exact ⟨h.run, h.restart, h.uq, h.nq, h.lastP, h.acyc, h.mem, h.counted, h.pending, h.mode⟩

/-- PREEMPTION of the running routine: it is abandoned at the cycle due. -/
theorem execPreemption_due {s : State} {r : Running} {c : Nat} (hrun : s.mseq.run = some r) (hc : s.preemptAt = some c) :
    ∃ t, execPreemption s = .next t ∧ s.Abandoned r c t := by
  rw [execPreemption, hrun, hc]
  dsimp only
  split
  · have h := ((s.cancelPrep c).abandon_abandoned r c).of_cancelPrep
    exact ⟨_, done_keep h.pending h.mode, h⟩
  · have h := s.abandon_abandoned r c
    exact ⟨_, done_keep h.pending h.mode, h⟩

/-- The cycle by which routine r has used its commit phase, which begins now where it has not begun before. -/
def State.commitLimit (s : State) (r : Running) : Nat :=
  match (r.mark s.acyc true).commitAt with
  | some c => c + s.clen r.entry.rtn
  | none => s.acyc

/-- Routine r is cut off at its commit bound. -/
def State.atBound (s : State) (r : Running) : State :=
  { s.stepUsed.cutOff r (s.commitLimit r) with
    acyc := max s.acyc (s.commitLimit r)
    mseq := { (s.stepUsed.cutOff r (s.commitLimit r)).mseq with run := some (r.mark s.acyc true) } }

/-- Where an overrun stops routine r: at its commit-marked microword with CLEN 0, otherwise at its bound. -/
def State.overran (s : State) (r : Running) : State :=
  if r.commitAt.isNone && s.clen r.entry.rtn == 0 then s.stepUsed else s.atBound r

theorem State.overran_frame (s : State) (r : Running) :
    (s.overran r).mem = s.mem ∧ (s.overran r).pending = s.pending ∧ (s.overran r).mode = s.mode := by
  unfold State.overran
  split
  · exact ⟨rfl, rfl, rfl⟩
  · obtain ⟨l, i, w, n, a, hcut⟩ := s.stepUsed.cutOff_frame r (s.commitLimit r)
    rw [State.atBound, hcut]
    exact ⟨rfl, rfl, rfl⟩

theorem State.overran_reg_other (s : State) (r : Running) {b : Nat} (hb : b ≠ Reg.mseqStat) :
    (s.overran r).reg b = s.reg b := by
  unfold State.overran
  split
  · rfl
  · exact s.stepUsed.cutOff_reg_other r (s.commitLimit r) hb

/-- A microsequencer that is not down has recorded no fatal cause. -/
theorem State.mseqFatal_clear {s : State} (h : s.mseqDown = false) : s.fld Reg.mseqFatal 3 0 = 0 := by
  simp only [State.mseqDown, Bool.or_eq_false_iff] at h
  obtain ⟨⟨-, hfatal⟩, -⟩ := h
  simpa using hfatal

/-- COMMIT_OVERRUN that is due: the routine is stopped, and cause 5 is fatal there. -/
theorem execCommitOverrun_due {s : State} {r : Running} (hrun : s.mseq.run = some r) (hdown : s.mseqDown = false)
    (hbrk : s.mseq.brk = none ∨ s.dbg.mstep = true) (hpre : s.preemptAt = none) (hover : s.overrunDue r = true) :
    execCommitOverrun s = .next ((s.overran r).mseqFatal 5 0 (s.addrOf r) r.entry.rtn (s.overran r).acyc) := by
  have hgo : (s.mseqDown || (s.mseq.brk.isSome && !s.dbg.mstep) || s.preemptAt.isSome || !s.overrunDue r) = false := by
    obtain h | h := hbrk <;> simp [hdown, hpre, hover, h]
  have hexec : execCommitOverrun s =
      done s ((s.overran r).mseqFatal 5 0 (s.addrOf r) r.entry.rtn (s.overran r).acyc) := by
    rw [execCommitOverrun, hrun]
    dsimp only
    rw [if_neg (by simp [hgo])]
    rfl
  obtain ⟨-, hpending, hmode⟩ := s.overran_frame r
  obtain ⟨l, v, w, c, hf⟩ := (s.overran r).mseqFatal_frame 5 0 (s.addrOf r) r.entry.rtn (s.overran r).acyc
  rw [hexec, hf]
  exact done_keep hpending hmode

end Sys2Proof.Machine
end

section
/-! Writes of MSEQ_CTL and of the control store (03 R89, R100, R101, R121). -/
namespace Sys2Proof.Machine

/-! ### DISP_EN (03 R105, R121) -/

/-- Setting DISP_EN may release dispatch, clearing it cancels what is prepared; nothing else changes. -/
theorem State.setDispEn_frame (s : State) (on : Bool) : ∃ p h, s.setDispEn on =
    { s with mseq := { s.mseq with dispEn := on, prep := p, relH := h } } ∧ (on = false → p = none) := by
  cases on with
  | false => exact ⟨none, s.mseq.relH, rfl, fun _ => rfl⟩
  | true =>
    unfold State.setDispEn
    dsimp only
    by_cases hwas : s.mseq.dispEn = true
    · rw [if_neg (by simp [hwas]), if_pos rfl]
      exact ⟨_, _, rfl, nofun⟩
    · rw [if_pos (by simp [hwas])]
      exact ⟨_, _, rfl, nofun⟩

/-- An admitted write of MSEQ_CTL stores DISP_EN. -/
theorem execDispEn_admitted {s : State} {q : Requester} (on : Bool) (h : s.admitted q true Reg.mseqCtl = true) :
    execDispEn q on s = .next (s.setDispEn on) := by
  obtain ⟨hal, hcode⟩ := State.admitted_iff.mp h
  obtain ⟨p, x, hset, -⟩ := s.setDispEn_frame on
  rw [execDispEn, regWrite_admitted _ hal hcode, hset]
  exact done_keep rfl rfl

/-! ### Words in the staging buffer (03 R101) -/

/-- The staging buffer after word w was written to it. -/
def stageWord (l : List (Nat × Word)) (w : Nat) (v : Word) : List (Nat × Word) := l.filter (·.1 != w) ++ [(w, v)]

theorem stageWord_find_same (l : List (Nat × Word)) (w : Nat) (v : Word) :
    (stageWord l w v).find? (·.1 == w) = some (w, v) := by
  have hnone : (l.filter (·.1 != w)).find? (·.1 == w) = none := by
    simp [List.find?_eq_none]
  rw [stageWord, List.find?_append, hnone]
  simp

theorem stageWord_find_other (l : List (Nat × Word)) {w i : Nat} (h : i ≠ w) (v : Word) :
    (stageWord l w v).find? (·.1 == i) = l.find? (·.1 == i) := by
  have hone : [(w, v)].find? (·.1 == i) = none := by simp [Ne.symm h]
  rw [stageWord, List.find?_append, hone, Option.or_none, List.find?_filter]
  refine congrArg (fun p => List.find? p l) (funext fun x => ?_)
  by_cases hx : x.1 = i <;> simp [hx, h]

/-- The buffer as the next word of microword n finds it: empty where it held another microword's words. -/
def State.stagedFor (s : State) (n : Nat) : List (Nat × Word) := if s.mseq.stageAddr = some n then s.mseq.stage else []

/-- s with l staged for microword n. -/
def State.staging (s : State) (n : Nat) (l : List (Nat × Word)) : State :=
  { s with mseq := { s.mseq with stageAddr := some n, stage := l } }

theorem State.staging_stagedFor (s : State) (n : Nat) (l : List (Nat × Word)) : (s.staging n l).stagedFor n = l := if_pos rfl

theorem State.staging_staging (s : State) (n : Nat) (l l' : List (Nat × Word)) :
    (s.staging n l).staging n l' = s.staging n l' := rfl

/-- A lower word is staged. -/
theorem State.storeWord_low (s : State) (n : Nat) {w : Nat} (hw : w < 3) (v : Word) :
    s.storeWord (16 * n + 4 * w) v = s.staging n (stageWord (s.stagedFor n) w v) := by
  have hn : (16 * n + 4 * w) / 16 = n := by omega
  have hi : (16 * n + 4 * w) % 16 / 4 = w := by omega
  unfold State.storeWord
  dsimp only
  rw [hn, hi, if_pos hw]
  rfl

/-- A microword is stored where its parities hold, and refused with CS_ERR where one does not; the buffer is empty (03 R89,
R101). -/
def State.storeMicro (s : State) (n : Nat) (m : Micro) : State :=
  let t : State := { s with mseq := { s.mseq with stageAddr := none, stage := [] } }
  if parityOk m then
    { t with mseq := { t.mseq with
      cs := sset (fun _ => 0) s.mseq.cs n m
      vendorLib := s.mseq.vendorLib && decide (8192 ≤ n) } }
  else t.setBit Reg.mseqStat 16

/-- Word i of the microword that the top word of n completes: the staged one, or that of the stored microword. -/
def State.lowWord (s : State) (n i : Nat) : Nat :=
  match (s.stagedFor n).find? (·.1 == i) with
  | some x => x.2.toNat
  | none => bits (sget (fun _ => (0 : Micro)) s.mseq.cs n).toNat (32 * i + 31) (32 * i)

theorem State.lowWord_staged {s : State} {n i : Nat} {v : Word} (h : (s.stagedFor n).find? (·.1 == i) = some (i, v)) :
    s.lowWord n i = v.toNat := by
  rw [State.lowWord, h]

/-- The top word stores the microword. -/
theorem State.storeWord_top (s : State) (n : Nat) (v : Word) : s.storeWord (16 * n + 12) v = s.storeMicro n
    (BitVec.ofNat 128 (s.lowWord n 0 + 2 ^ 32 * s.lowWord n 1 + 2 ^ 64 * s.lowWord n 2 + 2 ^ 96 * v.toNat)) := by
  have hn : (16 * n + 12) / 16 = n := by omega
  have hi : (16 * n + 12) % 16 / 4 = 3 := by omega
  unfold State.storeWord
  dsimp only
  rw [hn, hi, if_neg (by decide)]
  rfl

theorem State.storeMicro_frame (s : State) (n : Nat) (m : Micro) :
    ∃ q l, s.storeMicro n m = { s with mseq := q, regs := l } := by
  unfold State.storeMicro
  dsimp only
  split <;> exact ⟨_, _, rfl⟩

theorem State.storeMicro_mem (s : State) (n : Nat) (m : Micro) : (s.storeMicro n m).mem = s.mem := by
  obtain ⟨q, l, h⟩ := s.storeMicro_frame n m
  rw [h]

theorem State.storeMicro_arr (s : State) (n : Nat) (m : Micro) : (s.storeMicro n m).arr = s.arr := by
  obtain ⟨q, l, h⟩ := s.storeMicro_frame n m
  rw [h]

theorem State.storeMicro_stored (s : State) (n : Nat) {m : Micro} (h : parityOk m = true) :
    (s.storeMicro n m).regs = s.regs ∧ (s.storeMicro n m).mseq.cs = sset (fun _ => 0) s.mseq.cs n m := by
  rw [State.storeMicro, if_pos h]
  exact ⟨rfl, rfl⟩

theorem State.storeMicro_refused (s : State) (n : Nat) {m : Micro} (h : parityOk m = false) :
    (s.storeMicro n m).mseq.cs = s.mseq.cs ∧ bit ((s.storeMicro n m).reg Reg.mseqStat) 16 = true := by
  rw [State.storeMicro, if_neg (by simp [h])]
  refine ⟨rfl, ?_⟩
  rw [State.bit_setBit _ _ _ (by decide)]
  rfl

/-- Only microword n can change. -/
theorem State.storeMicro_cs_other (s : State) (n : Nat) (m : Micro) {k : Nat} (hk : k ≠ n) :
    sget (fun _ => (0 : Micro)) (s.storeMicro n m).mseq.cs k = sget (fun _ => (0 : Micro)) s.mseq.cs k := by
  cases hp : parityOk m with
  | false => rw [(s.storeMicro_refused n hp).1]
  | true =>
    rw [(s.storeMicro_stored n hp).2]
    exact sget_sset_other _ _ _ _ _ hk

/-! ### A microword by halves (03 R100, R101) -/

/-- The four words of a microword make it up. -/
theorem micro_of_words (w : Micro) : BitVec.ofNat 128 ((BitVec.ofNat 32 (w.setWidth 64).toNat).toNat +
    2 ^ 32 * (BitVec.ofNat 32 ((w.setWidth 64).toNat / 2 ^ 32)).toNat +
    2 ^ 64 * (BitVec.ofNat 32 ((w >>> 64).setWidth 64).toNat).toNat +
    2 ^ 96 * (BitVec.ofNat 32 (((w >>> 64).setWidth 64).toNat / 2 ^ 32)).toNat) = w := by
  have hw : w.toNat < 2 ^ 128 := w.isLt
  refine BitVec.eq_of_toNat_eq ?_
  simp only [BitVec.toNat_ofNat, BitVec.toNat_setWidth, BitVec.toNat_ushiftRight, Nat.shiftRight_eq_div_pow]
  omega

/-- The buffer once the low half v of a microword is in it. -/
def State.halfStaged (s : State) (n : Nat) (v : Dbl) : List (Nat × Word) :=
  stageWord (stageWord (s.stagedFor n) 0 (BitVec.ofNat 32 v.toNat)) 1 (BitVec.ofNat 32 (v.toNat / 2 ^ 32))

theorem State.storeWrite_low_half (s : State) (n : Nat) (v : Dbl) :
    s.storeWrite (16 * n) 8 v.toNat = s.staging n (s.halfStaged n v) := by
  rw [State.storeWrite, if_pos rfl, show 16 * n = 16 * n + 4 * 0 from rfl, s.storeWord_low n (by decide),
    show 16 * n + 4 * 0 + 4 = 16 * n + 4 * 1 from rfl, State.storeWord_low _ n (by decide), State.staging_staging,
    State.staging_stagedFor]
  rfl

/-- The high half completes the microword whose low half is staged. -/
theorem State.storeWrite_high_half (s : State) (n : Nat) (w : Micro) :
    (s.staging n (s.halfStaged n (w.setWidth 64))).storeWrite (16 * n + 8) 8 ((w >>> 64).setWidth 64).toNat =
      (s.staging n []).storeMicro n w := by
  let lo := w.setWidth 64
  let hi := (w >>> 64).setWidth 64
  let t := s.staging n (stageWord (s.halfStaged n lo) 2 (BitVec.ofNat 32 hi.toNat))
  have hstage : (s.staging n (s.halfStaged n lo)).storeWord (16 * n + 8) (BitVec.ofNat 32 hi.toNat) = t := by
    rw [show 16 * n + 8 = 16 * n + 4 * 2 from rfl, State.storeWord_low _ n (by decide), State.staging_staging,
      State.staging_stagedFor]
  have hword (i : Nat) (v : Word) (h : (stageWord (s.halfStaged n lo) 2 (BitVec.ofNat 32 hi.toNat)).find? (·.1 == i) =
      some (i, v)) : t.lowWord n i = v.toNat :=
    State.lowWord_staged (by rw [State.staging_stagedFor]; exact h)
  have h0 := hword 0 (BitVec.ofNat 32 lo.toNat) (by
    rw [stageWord_find_other _ (by decide), State.halfStaged, stageWord_find_other _ (by decide), stageWord_find_same])
  have h1 := hword 1 (BitVec.ofNat 32 (lo.toNat / 2 ^ 32)) (by
    rw [stageWord_find_other _ (by decide), State.halfStaged, stageWord_find_same])
  have h2 := hword 2 (BitVec.ofNat 32 hi.toNat) (stageWord_find_same _ _ _)
  rw [State.storeWrite, if_pos rfl, hstage, show 16 * n + 8 + 4 = 16 * n + 12 from rfl, State.storeWord_top, h0, h1, h2,
    micro_of_words]
  rfl

/-! ### Which writes are admitted (03 R100, R101; 11 R316) -/

theorem regionOf_store {off : Nat} (h : off < 0x40000) : regionOf (0x30000000 + off) = some .store := by
  unfold regionOf
  rw [if_neg (by omega), if_neg (by omega), if_neg (by omega), if_neg (by omega), if_neg (by omega), if_pos (by omega)]

/-- Where the low half of a microword may be written, so may the high half, while the staging buffer alone has changed. -/
theorem accessCode_high_half {s : State} {q : Requester} {n : Nat} (hn : n < 16384) (l : List (Nat × Word))
    (h : accessCode s q true (0x30000000 + 16 * n) 8 = 0) :
    accessCode (s.staging n l) q true (0x30000000 + (16 * n + 8)) 8 = 0 := by
  have hsize : sizeOk (0x30000000 + (16 * n + 8)) 8 .store = sizeOk (0x30000000 + 16 * n) 8 .store := by
    simp only [sizeOk]
    rw [show (0x30000000 + (16 * n + 8)) % 8 = (0x30000000 + 16 * n) % 8 by omega]
  rw [← h]
  unfold accessCode
  rw [regionOf_store (by omega), regionOf_store (by omega)]
  dsimp only
  rw [hsize]
  rfl

theorem State.storeWord_frame (s : State) (off : Nat) (v : Word) :
    ∃ q l, s.storeWord off v = { s with mseq := q, regs := l } := by
  unfold State.storeWord
  dsimp only
  by_cases hw : off % 16 / 4 < 3
  · rw [if_pos hw]
    exact ⟨_, _, rfl⟩
  · rw [if_neg hw]
    exact s.storeMicro_frame (off / 16) _

theorem State.storeWrite_frame (s : State) (off len v : Nat) :
    ∃ q l, s.storeWrite off len v = { s with mseq := q, regs := l } := by
  unfold State.storeWrite
  split
  · obtain ⟨q, l, h⟩ := s.storeWord_frame off (BitVec.ofNat 32 v)
    obtain ⟨q', l', h'⟩ := (s.storeWord off (BitVec.ofNat 32 v)).storeWord_frame (off + 4) (BitVec.ofNat 32 (v / 2 ^ 32))
    exact ⟨q', l', by rw [h', h]⟩
  · exact s.storeWord_frame off _

/-- An admitted write of the control store is carried out. -/
theorem execControlStoreWrite_admitted {s : State} {q : Requester} {off : Nat} (hoff : off < 2 ^ 18) (wide : Bool) (v : Dbl)
    (hal : s.alive = true) (hcode : accessCode s q true (0x30000000 + off) (if wide then 8 else 4) = 0) :
    execControlStoreWrite q (BitVec.ofNat 18 off) wide v s =
      .next (s.storeWrite off (if wide then 8 else 4) v.toNat) := by
  have hoffset : (BitVec.ofNat 18 off).toNat = off := Nat.mod_eq_of_lt hoff
  obtain ⟨m, l, h⟩ := s.storeWrite_frame off (if wide then 8 else 4) v.toNat
  rw [execControlStoreWrite, when_true hal, hoffset]
  dsimp only
  rw [if_pos hcode, h]
  exact done_keep rfl rfl

theorem execControlStoreWrite_low_half {s : State} {q : Requester} {n : Nat} (hn : n < 16384) (hal : s.alive = true)
    (hcode : accessCode s q true (0x30000000 + 16 * n) 8 = 0) (v : Dbl) :
    execControlStoreWrite q (BitVec.ofNat 18 (16 * n)) true v s = .next (s.staging n (s.halfStaged n v)) := by
  rw [← State.storeWrite_low_half]
  exact execControlStoreWrite_admitted (by omega) true v hal hcode

theorem execControlStoreWrite_high_half {s : State} {q : Requester} {n : Nat} (hn : n < 16384) (hal : s.alive = true)
    (hcode : accessCode s q true (0x30000000 + 16 * n) 8 = 0) (w : Micro) :
    execControlStoreWrite q (BitVec.ofNat 18 (16 * n + 8)) true ((w >>> 64).setWidth 64)
      (s.staging n (s.halfStaged n (w.setWidth 64))) = .next ((s.staging n []).storeMicro n w) := by
  rw [← State.storeWrite_high_half]
  exact execControlStoreWrite_admitted (by omega) true _ hal (accessCode_high_half hn _ hcode)

theorem execControlStoreWrite_word {s : State} {q : Requester} {off : Nat} (hoff : off < 2 ^ 18) (hal : s.alive = true)
    (hcode : accessCode s q true (0x30000000 + off) 4 = 0) (x : Word) :
    execControlStoreWrite q (BitVec.ofNat 18 off) false (x.setWidth 64) s = .next (s.storeWord off x) := by
  have hword : BitVec.ofNat 32 (x.setWidth 64).toNat = x := by
    rw [BitVec.toNat_setWidth_of_le (by decide), BitVec.ofNat_toNat, BitVec.setWidth_eq]
  have h := execControlStoreWrite_admitted hoff false (x.setWidth 64) hal hcode
  rwa [if_neg (by decide), State.storeWrite, if_neg (by decide), hword] at h

end Sys2Proof.Machine
end

section
open Sys2Proof Sys2Proof.Machine

/-- Settles O33: each command in the state in which it completes, by what the microsequencer's own operation leaves. -/
theorem microsequencerCommands : Obligations.MicrosequencerCommands := by
  unfold Obligations.MicrosequencerCommands
  intro s q
  refine ⟨?accepted, ?prepares, ?dispatches, ?preempts, ?overruns, ?dispEn, ?halves, ?words⟩
  case accepted =>
    intro e l hmode hl
    exact ⟨_, execEntryAccepted_cons hmode hl, rfl, rfl, rfl, s.reach_mem _, s.reach_regs _, s.reach_arr _⟩
  case prepares =>
    intro hmay hprep fit ready refusal
    have hfit {e : Entry} (h : fit e) : s.refused e = false := State.refused_eq_false_iff.mpr h
    have hbad {e : Entry} (h : ¬ fit e) : s.refused e = true := by
      rw [← Bool.not_eq_false, State.refused_eq_false_iff]
      exact h
    have hrefusal {u : Bool} {e : Entry} {t : State} (h : s.HeadRefused u e t) : refusal e t :=
      ⟨h.prep.trans hprep, h.badrtn, h.sreg, h.mem, h.arr⟩
    refine ⟨fun e l hu he => ?_, fun e l hu he => ?_, fun e hu hr => ?_, fun e l hu hr hn he => ?_, fun e l hu hr hn he => ?_⟩
    · exact execDispatchPreparation_fit hmay hprep (State.candidate_urgent hu) (congrArg List.head? hu) (hfit he)
    · have h := s.refuseEntry_refused true e
      exact ⟨_, execDispatchPreparation_refuses hmay hprep (State.candidate_urgent hu) (congrArg List.head? hu) (hbad he),
        h.uq.trans (congrArg List.tail hu), h.nq, hrefusal h⟩
    · exact execDispatchPreparation_restart hmay hprep (State.candidate_restart hu hr)
    · exact execDispatchPreparation_fit hmay hprep (State.candidate_normal hu hr hn) (congrArg List.head? hn) (hfit he)
    · have h := s.refuseEntry_refused false e
      have hcand := State.candidate_normal hu hr hn
      exact ⟨_, execDispatchPreparation_refuses hmay hprep hcand (congrArg List.head? hn) (hbad he),
        h.nq.trans (congrArg List.tail hn), h.uq.trans hu, hrefusal h⟩
  case dispatches =>
    intro e p hmay hrun hprep re gap first starts
    have hfirst : (s.firstCycle e re).1 = first := by
      simp only [first]
      split
      · next hlast => exact State.firstCycle_fresh hlast e re
      · next hlast => exact State.firstCycle_after hlast e re
    have h := s.dispatchEntry_dispatched p e
    have hstarts : starts (s.dispatchEntry p e) := by
      obtain ⟨r, hr, hentry, hnext, hcommit, hlast⟩ := h.run
      refine ⟨r, hr, hentry, hnext, hcommit, hlast, h.prep, h.curRtn, by rw [h.acyc, ← hfirst], h.loop, ?_, h.mem, h.arr⟩
      cases hurgent : e.urgent with
      | false => exact ⟨by rw [h.nacc, hurgent]; rfl, by rw [h.uacc, hurgent]; rfl⟩
      | true => exact ⟨by rw [h.uacc, hurgent]; rfl, by rw [h.nacc, hurgent]; rfl⟩
    refine ⟨fun hp hr hu => ?_, fun l hp hu => ?_, fun l hp hn hu => ?_, fun x l hwho hu hlate => ?_⟩
    · subst hp
      exact ⟨_, execDispatch_starts hmay hrun hprep hr (.inl hu), hstarts, h.restart, h.nq⟩
    · subst hp
      exact ⟨_, execDispatch_starts hmay hrun hprep (congrArg List.head? hu) (.inr rfl), hstarts,
        h.uq.trans (congrArg List.tail hu), h.nq, h.restart⟩
    · subst hp
      exact ⟨_, execDispatch_starts hmay hrun hprep (congrArg List.head? hn) (.inl hu), hstarts,
        h.nq.trans (congrArg List.tail hn), h.restart⟩
    · rw [← hfirst] at hlate
      obtain ⟨rfl, hr⟩ | ⟨rfl, hn⟩ := hwho
      · exact execDispatch_gives_way hmay hrun hprep hr (by decide) hu hlate
      · exact execDispatch_gives_way hmay hrun hprep hn (by decide) hu hlate
  case preempts =>
    intro r c hrun hc
    obtain ⟨t, ht, h⟩ := execPreemption_due hrun hc
    obtain ⟨hurgent, hcommit⟩ := State.preemptAt_some hrun hc
    exact ⟨t, ht, h.run, h.restart, hurgent, hcommit, h.uq, h.nq, h.lastP, h.acyc, h.mem, h.counted⟩
  case overruns =>
    intro r hrun hdown hbrk hpre hover
    obtain ⟨hmem, -, -⟩ := s.overran_frame r
    have hfatal := s.overran_reg_other r (b := Reg.mseqFatal) (by decide)
    have herror := s.overran_reg_other r (b := Reg.errorFatal) (by decide)
    have hclear : (s.overran r).fld Reg.mseqFatal 3 0 = 0 :=
      (State.fld_of_reg_eq hfatal 3 0).trans (State.mseqFatal_clear hdown)
    have hseen : (s.overran r).fatalSeen = s.fatalSeen :=
      congrArg (· != 0) (State.fld_of_reg_eq herror 5 0)
    refine ⟨_, execCommitOverrun_due hrun hdown hbrk hpre hover, State.mseqFatal_reg hclear 5 0 _ _ _,
      State.mseqFatal_fatalSeen _ (by decide) _ _ _ _, fun hfirst => State.mseqFatal_first (hseen.trans hfirst) 5 0 _ _ _, ?_⟩
    obtain ⟨l, v, w, c, hf⟩ := (s.overran r).mseqFatal_frame 5 0 (s.addrOf r) r.entry.rtn (s.overran r).acyc
    rw [hf]
    exact hmem
  case dispEn =>
    intro on hadm
    obtain ⟨p, x, hset, hoff⟩ := s.setDispEn_frame on
    refine ⟨_, execDispEn_admitted on hadm, ?_⟩
    rw [hset]
    exact ⟨rfl, hoff, rfl, rfl, rfl, rfl, rfl, rfl⟩
  case halves =>
    intro n w hcode hal
    refine ⟨_, _, execControlStoreWrite_low_half n.isLt hal hcode _, execControlStoreWrite_high_half n.isLt hal hcode w, rfl,
      rfl, State.storeMicro_mem _ _ _, State.storeMicro_arr _ _ _, fun hpar => ?_, State.storeMicro_refused _ _⟩
    obtain ⟨hregs, hcs⟩ := (s.staging n.val []).storeMicro_stored n.val hpar
    refine ⟨hregs, fun k => ?_⟩
    split
    · next hk => rw [hk, hcs, sget_sset_same]
    · next hk => exact State.storeMicro_cs_other _ _ _ hk
  case words =>
    intro n i x hcode hal
    refine ⟨_, execControlStoreWrite_word (by omega) hal (by rwa [← Nat.add_assoc]) x, ?_⟩
    by_cases hi : i.val < 3
    · rw [s.storeWord_low n.val hi]
      exact ⟨fun _ => ⟨rfl, rfl⟩, rfl, rfl, fun _ _ => rfl⟩
    · rw [show 4 * i.val = 12 by omega, State.storeWord_top]
      exact ⟨fun hlow => absurd hlow hi, State.storeMicro_mem _ _ _, State.storeMicro_arr _ _ _,
        fun k hk => State.storeMicro_cs_other s _ _ hk⟩

end

section
/-! What becomes of one instruction outside a repetition, and the array group's state: plane pointers, entries and owners, the
array's clock at an idle cycle, the end of a tick program, deliveries (05 R143 to R156). -/
namespace Sys2Proof.Machine

/-! ### One instruction outside a repetition (09 R260) -/

/-- A ready core carries the outcome through, where that keeps the queue and the mode. -/
theorem runInstr_finish {c : CoreId} {s : State} {f : State → Act} {a : Act} (h : s.readyOnce c = true)
    (hf : f (s.setCore c (s.head c)) = a) (hk : Keep s (a.finish c)) : runInstr c false s f = .next (a.finish c) := by
  obtain ⟨hready, hrpt⟩ := (Bool.and_eq_true _ _).mp h
  rw [runInstr_ready f hready (.inr (by simpa using hrpt)), hf]
  exact done_keep hk.1 hk.2

/-- A fault takes its exception. -/
theorem runInstr_fault {c : CoreId} {s : State} {f : State → Act} {cause faddr : Nat} {synd : Option Nat}
    (h : s.readyOnce c = true)
    (hf : f (s.setCore c (s.head c)) = .fault (s.setCore c (s.head c)) cause faddr synd) :
    runInstr c false s f = .next ((s.setCore c (s.head c)).exc c cause faddr synd) :=
  runInstr_finish h hf ((keep_setCore s c _).trans (keep_exc _ c cause faddr synd))

/-- An illegal instruction takes cause 2 at its own address. -/
theorem runInstr_illegal {c : CoreId} {s : State} {f : State → Act} (h : s.readyOnce c = true)
    (hf : f (s.setCore c (s.head c)) = illegal c (s.setCore c (s.head c))) :
    runInstr c false s f = .next ((s.setCore c (s.head c)).exc c 2 (s.head c).pc.toNat none) := by
  have hpc : ((s.setCore c (s.head c)).core c).pc = (s.head c).pc := congrArg Core.pc (head_core s c)
  rw [← hpc]
  exact runInstr_fault h hf

/-- One that goes on retires. -/
theorem runInstr_retires {c : CoreId} {s t : State} {f : State → Act} (h : s.readyOnce c = true)
    (hf : f (s.setCore c (s.head c)) = .next t) (hk : Keep s t) : runInstr c false s f = .next (t.retire c) :=
  runInstr_finish h hf (hk.trans (keep_setCore t c _))

/-- One that waits stays at the head of the sequencer core. -/
theorem runInstr_waits {s : State} {f : State → Act} {w : Wait} (h : s.readyOnce .seq = true)
    (hf : f (s.setCore .seq (s.head .seq)) = .stay ((s.setCore .seq (s.head .seq)).seqWait (some w))) :
    runInstr .seq false s f = .next { s with seq := { s.head .seq with wait := some w } } :=
  runInstr_finish h hf ⟨rfl, rfl⟩

/-! ### Vectors with one entry replaced -/

theorem vset_get {α : Type} {n : Nat} (v : Vector α n) (i j : Fin n) (x : α) :
    (vset v i x)[j] = if j = i then x else v[j] := by
  split
  · next h => rw [h, vset_get_same]
  · next h => exact vset_get_other v i j x h

/-! ### Plane pointers (05 R143, R144) -/

/-- The value spells a pointer that PPSET takes. -/
def Ptr.Fits (v : Nat) : Prop :=
  let w := v / 2 ^ 12 % 128
  let f := v / 2 ^ 19 % 16
  1 ≤ w ∧ w ≤ 64 ∧ f ≤ 5 ∧ v < 2 ^ 23 ∧ (f = 2 → w = 1) ∧ (f = 3 ∨ f = 4 → w = 16) ∧ (f = 5 → w = 32)

/-- The width that a format needs, where it needs one. -/
def Ptr.needs : Nat → Option Nat
  | 2 => some 1
  | 3 => some 16
  | 4 => some 16
  | 5 => some 32
  | _ => none

/-- A width goes with a format of 0 to 5. -/
theorem Ptr.needs_iff {f : Nat} (hf : f ≤ 5) (w : Nat) :
    ((Ptr.needs f).isSome ∧ Ptr.needs f ≠ some w) ↔
      ¬ ((f = 2 → w = 1) ∧ (f = 3 ∨ f = 4 → w = 16) ∧ (f = 5 → w = 32)) := by
  interval_cases f <;> simp [Ptr.needs, eq_comm]

/-- The value spells none: a width or a format out of range, a reserved bit, a width that does not go with the format. -/
def Ptr.Faulty (v : Nat) : Prop :=
  let w := bits v 18 12
  let f := bits v 22 19
  w = 0 ∨ 64 < w ∨ 5 < f ∨ bits v 63 23 ≠ 0 ∨ ((Ptr.needs f).isSome ∧ Ptr.needs f ≠ some w)

/-- The faulty values of a register are those that do not fit. -/
theorem Ptr.faulty_iff (v : Dbl) : Ptr.Faulty v.toNat ↔ ¬ Ptr.Fits v.toNat := by
  have hlt : v.toNat < 2 ^ 64 := v.isLt
  simp only [Ptr.Faulty, Ptr.Fits, bits, Nat.shiftRight_eq_div_pow, Nat.reduceAdd, Nat.reduceSub]
  by_cases hf : v.toNat / 2 ^ 19 % 2 ^ 4 ≤ 5
  · rw [Ptr.needs_iff hf]
    omega
  · omega

theorem Ptr.ofDbl_faulty {v : Dbl} (h : Ptr.Faulty v.toNat) : Ptr.ofDbl v = none := if_pos h

theorem Ptr.ofDbl_fits {v : Dbl} (h : Ptr.Fits v.toNat) :
    Ptr.ofDbl v = some ⟨v.toNat % 2 ^ 12, v.toNat / 2 ^ 12 % 128, v.toNat / 2 ^ 19 % 16⟩ := by
  have hsound : ¬ Ptr.Faulty v.toNat := fun hfault => (Ptr.faulty_iff v).mp hfault h
  calc Ptr.ofDbl v = some ⟨bits v.toNat 11 0, bits v.toNat 18 12, bits v.toNat 22 19⟩ := if_neg hsound
    _ = _ := by simp [bits, Nat.shiftRight_eq_div_pow]

/-! ### Issue (05 R145 to R152) -/

/-- The s registers once issue n names register r, if any: its value stays, its owner is new, it is not valid. -/
def Iss.claim (i : Iss) (r : Option (Fin 8)) (n : Nat) : Vector SReg 8 :=
  match r with
  | some r => vset i.sreg r ⟨i.sreg[r].val, false, n, true⟩
  | none => i.sreg

theorem Iss.claim_get (i : Iss) (r x : Fin 8) (sv : Bool) (n : Nat) :
    (i.claim (if sv then some r else none) n)[x] =
      if sv = true ∧ x = r then ⟨i.sreg[r].val, false, n, true⟩ else i.sreg[x] := by
  cases sv
  · rfl
  · simpa [Iss.claim] using vset_get i.sreg r x _

/-- The outcome of an issue on the sequencer core, whose head's state is s. -/
theorem issueInstr_seq {s : State} {sv : Bool} {r : Fin 8} (h : sv = true ∨ r = 0) (u : Bool) (rtn : BitVec 10)
    (pd p1 p2 : Fin 16) : issueInstr u .seq rtn pd p1 p2 r sv s =
      let e : Entry := ⟨rtn.toNat, s.iss.ptr[pd], s.iss.ptr[p1], s.iss.ptr[p2], if sv then some r else none, 0, 0, u⟩
      if s.mseq.full u then .stay (s.seqWait (some (.issue e))) else .next (s.issueEntry e) := by
  apply if_neg
  rintro (hcore | ⟨hsv, hr⟩)
  · cases hcore
  · cases h with
    | inl h => simp [h] at hsv
    | inr h => exact hr h

/-! ### Waits that end (05 R149, R154) -/

/-- A command that ends a wait has its effect where the sequencer core may retire. -/
theorem when_waitFree {s : State} (h : s.waitFree = true) {f : State → State} {t : State} (hf : f s = t.endWait)
    (hk : Keep s t) : when s.waitFree s f = .next t.endWait := by
  rw [when_true h, hf]
  exact done_keep hk.1 hk.2

/-- A commit is the array's alone. -/
theorem State.commit_frame (s : State) (w : WellWrite) : ∃ a, s.commit w = { s with arr := a } := by
  unfold State.commit
  split <;> exact ⟨_, rfl⟩

theorem State.settleFrom_frame (s : State) (c : Nat) (l : List WellWrite) : ∃ a, s.settleFrom c l = { s with arr := a } := by
  induction l generalizing s with
  | nil => exact ⟨s.arr, rfl⟩
  | cons w l ih =>
    rw [State.settleFrom]
    split
    · obtain ⟨a, ha⟩ := s.commit_frame w
      rw [ha]
      exact ih { s with arr := a }
    · exact ih s

theorem State.reach_frame (s : State) (c : Nat) : ∃ n, s.reach c = { s with acyc := n } := by
  unfold State.reach
  split
  · exact ⟨s.acyc, rfl⟩
  · exact ⟨_, rfl⟩

/-- The array at an idle cycle: only its commits and its clock have moved. -/
theorem State.settle_reach_frame (s : State) (c : Nat) :
    ∃ a n, (s.settle c).reach c = { s with arr := a, acyc := n } := by
  obtain ⟨a, ha⟩ := s.settleFrom_frame c s.arr.flight
  obtain ⟨n, hn⟩ := (s.settle c).reach_frame c
  rw [hn, State.settle, ha]
  exact ⟨_, n, rfl⟩

/-- A wait for idleness ends in the idle cycle, where the array's clock may stand there. -/
theorem State.idleRetire_reached {s : State} {both : Bool} {c : Nat} (hc : s.idleBoth both = some c)
    (hr : s.canReach c = true) (f : State → State) :
    s.idleRetire both f = (f ((s.settle c).reach c)).endWait := by
  rw [State.idleRetire, hc]
  exact if_pos hr

/-! ### The end of a tick program (05 R156, R161) -/

/-- A tick program runs, with no start held, no mirrored input and no digest in hand. -/
structure State.PlainTick (s : State) : Prop where
  inTick : s.tick.inTick = true
  held : s.tick.held = none
  inputs : s.twin.inputs = []
  digTicks : s.twin.digTicks = []

/-- The DEVCLK cycle of a TEND that retires in cycle d: the last one seen, while DEVCLK is lost. -/
def State.tendCycle (s : State) (d : Nat) : Nat := if s.wh.devLost then s.dcyc else d

/-- What TICK_TEND counts: the cycles since the program's start, saturated. -/
def State.tendSpan (s : State) (d : Nat) : Nat := min (s.tendCycle d - s.tick.startAt) 0x1FFFFFF

/-- The end of a tick program, as far as TICK_TEND and TICK_TEND_MAX record it. -/
def State.recordTend (s : State) (d : Nat) : State :=
  let t := (s.atD (s.tendCycle d)).setReg Reg.tickTend (BitVec.ofNat 32 (s.tendSpan d + 2 ^ 31 * b2n s.tick.isOver))
  t.setReg Reg.tickTendMax (BitVec.ofNat 32 (max (t.reg Reg.tickTendMax).toNat (s.tendSpan d)))

theorem State.recordTend_tend (s : State) (d : Nat) : (s.recordTend d).reg Reg.tickTend =
    BitVec.ofNat 32 (s.tendSpan d + if s.tick.isOver then 2 ^ 31 else 0) := by
  rw [State.recordTend, State.setReg_reg_other _ _ _ _ (by decide), State.setReg_reg_same, b2n]
  split <;> rfl

theorem State.recordTend_max (s : State) (d : Nat) : (s.recordTend d).reg Reg.tickTendMax =
    BitVec.ofNat 32 (max (s.reg Reg.tickTendMax).toNat (s.tendSpan d)) := by
  rw [State.recordTend, State.setReg_reg_same, State.setReg_reg_other _ _ _ _ (by decide)]
  rfl

/-- Outside a tick program TEND has no effect on the tick generator. -/
theorem State.tickEnd_outside {s : State} (h : s.tick.inTick = false) (d : Nat) : s.tickEnd d = s := by
  simp [State.tickEnd, h]

theorem State.applyInputs_none {s : State} (h : s.twin.inputs = []) (n : Nat) : s.applyInputs n = s := by
  have hkept : ({ s.twin with inputs := [] } : Twin) = s.twin := by rw [← h]
  simp [State.applyInputs, h, hkept]

theorem State.sendDigest_none {s : State} (h : s.twin.digTicks = []) : s.sendDigest = s := by
  simp [State.sendDigest, h]

/-- The program is over: its end is recorded, and the digest of its tick knows it. -/
def State.tickOver (s : State) (d : Nat) : State :=
  { s.recordTend d with
    tick := { s.tick with inTick := false, isOver := false, held := none }
    twin := { s.twin with digTicks := s.twin.digTicks.map (fun (x : DigTick) =>
      if x.n = s.tick.cur.toNat then { x with ended := true } else x) } }

/-- Where no start is held, inputs are applied and the digest may go out. -/
theorem State.tickEnd_of_none_held {s : State} (hin : s.tick.inTick = true) (hheld : s.tick.held = none) (d : Nat) :
    s.tickEnd d = ((s.tickOver d).applyInputs (max (s.tick.cur.toNat + 1) 0)).sendDigest := by
  simp only [State.tickEnd, hin, State.atD_tick, hheld]
  rfl

theorem State.PlainTick.tickEnd_eq {s : State} (h : s.PlainTick) (d : Nat) : s.tickEnd d = s.tickOver d := by
  have hdig : (s.tickOver d).twin.digTicks = [] := by
    rw [State.tickOver, h.digTicks]
    rfl
  rw [State.tickEnd_of_none_held h.inTick h.held, State.applyInputs_none (s := s.tickOver d) h.inputs,
    State.sendDigest_none hdig]

theorem State.recordTend_frame (s : State) (d : Nat) : ∃ l n, s.recordTend d = { s with regs := l, dcyc := n } :=
  ⟨_, _, rfl⟩

/-- The end of a tick program keeps everything but two registers, the DEVCLK cycle, the tick and the digests in hand. -/
theorem State.tickOver_frame (s : State) (d : Nat) :
    ∃ l n t w, s.tickOver d = { s with regs := l, dcyc := n, tick := t, twin := w } := by
  obtain ⟨l, n, h⟩ := s.recordTend_frame d
  rw [State.tickOver, h]
  exact ⟨l, n, _, _, rfl⟩

theorem keep_tickOver (s : State) (d : Nat) : Keep s (s.tickOver d) := by
  obtain ⟨l, n, t, w, h⟩ := s.tickOver_frame d
  rw [h]
  exact ⟨rfl, rfl⟩

/-- t is s after a TEND in cycle d has ended its tick program. -/
structure State.TendEnds (s : State) (d : Nat) (t : State) : Prop where
  inTick : t.tick.inTick = false
  isOver : t.tick.isOver = false
  held : t.tick.held = none
  tendMax : t.reg Reg.tickTendMax = BitVec.ofNat 32 (max (s.reg Reg.tickTendMax).toNat (s.tendSpan d))
  tend : t.reg Reg.tickTend = BitVec.ofNat 32 (s.tendSpan d + if s.tick.isOver then 2 ^ 31 else 0)
  mem : t.mem = s.mem

theorem State.tickOver_ends (s : State) (d : Nat) : s.TendEnds d (s.tickOver d) where
  inTick := rfl
  isOver := rfl
  held := rfl
  tendMax := s.recordTend_max d
  tend := s.recordTend_tend d
  mem := by
    obtain ⟨l, n, t, w, h⟩ := s.tickOver_frame d
    rw [h]

/-- The instruction's own retirement changes the sequencer core alone. -/
theorem State.TendEnds.setSeq {s t : State} {d : Nat} (h : s.TendEnds d t) (k : Core) : s.TendEnds d (t.setCore .seq k) :=
  ⟨h.inTick, h.isOver, h.held, h.tendMax, h.tend, h.mem⟩

/-- Where the array stands and what the sequencer core holds does not enter the record. -/
theorem State.TendEnds.of_array {s t : State} {d n : Nat} {a : Arr} {k : Core}
    (h : State.TendEnds { s with arr := a, acyc := n, seq := k } d t) : s.TendEnds d t :=
  ⟨h.inTick, h.isOver, h.held, h.tendMax, h.tend, h.mem⟩

/-! ### Deliveries (05 R151 to R153; 02 R79; 13 R361) -/

/-- The earliest due delivery whose result has left the sump. -/
def State.nextDelivery (s : State) : Option Delivery :=
  argMin (·.due) (s.sump.deliver.filter (fun d => match d.needs with
    | none => true
    | some i => !(s.sump.flight.any (·.id == i))))

/-- A delivery leaves the list of those that wait. -/
def State.unlist (s : State) (d : Delivery) : State :=
  { s with sump := { s.sump with
    deliver := removeFirst (fun x => x == d) s.sump.deliver
    doneN := if d.urgent then s.sump.doneN else max s.sump.doneN d.due
    doneU := if d.urgent then max s.sump.doneU d.due else s.sump.doneU } }

/-- A delivery is taken: it waits no longer, its cycle has come, and a sump result enters the digest. -/
def State.take (s : State) (d : Delivery) : State :=
  let x := s.iss.sreg[d.sreg]
  let t := (s.unlist d).reach d.due
  if t.digestOn && d.needs.isSome && x.owner == d.issue && !x.valid && t.mode != .faultHold then
    t.digestResult d.urgent d.issue d.sreg.val d.value
  else t

theorem State.digestResult_frame (s : State) (u : Bool) (issue reg : Nat) (v : Dbl) :
    ∃ w, s.digestResult u issue reg v = { s with twin := w } := by
  unfold State.digestResult
  split
  · exact ⟨s.twin, rfl⟩
  · split
    · exact ⟨s.twin, rfl⟩
    · exact ⟨_, rfl⟩

/-- Only the sump, the array's clock and the digest see that a delivery is taken. -/
theorem State.take_frame (s : State) (d : Delivery) :
    ∃ p n w, s.take d = { s with sump := p, acyc := n, twin := w } := by
  obtain ⟨n, hn⟩ := (s.unlist d).reach_frame d.due
  rw [State.take, hn]
  dsimp only
  split
  · obtain ⟨w, hw⟩ := State.digestResult_frame { s.unlist d with acyc := n } d.urgent d.issue d.sreg.val d.value
    exact ⟨_, n, w, hw⟩
  · exact ⟨_, n, s.twin, rfl⟩

/-- Every other register stays as it is. -/
theorem State.sValid_other (s : State) {r y : Fin 8} (h : y ≠ r) (issue : Nat) (v : Dbl) :
    (s.sValid r issue v).iss.sreg[y] = s.iss.sreg[y] := by
  unfold State.sValid
  dsimp only
  split
  · exact vset_get_other _ _ _ _ h
  · rfl

/-- A result whose register is another issue's, or valid already, is discarded. -/
theorem State.sValid_discarded {s : State} {r : Fin 8} {issue : Nat}
    (h : ¬ (s.iss.sreg[r].owner = issue ∧ s.iss.sreg[r].named = true ∧ s.iss.sreg[r].valid = false)) (v : Dbl) :
    s.sValid r issue v = s := by
  apply if_neg
  intro howns
  simp only [Bool.and_eq_true, beq_iff_eq, Bool.not_eq_true'] at howns
  obtain ⟨⟨⟨-, howner⟩, hnamed⟩, hvalid⟩ := howns
  exact h ⟨howner, hnamed, hvalid⟩

theorem execSRegisterValid_eq (s : State) : execSRegisterValid s =
    done s (s.nextDelivery.elim s fun d => (s.take d).sValid d.sreg d.issue d.value) := by
  show done s (match s.nextDelivery with
    | none => s
    | some d => (s.take d).sValid d.sreg d.issue d.value) = _
  cases s.nextDelivery <;> rfl

/-- The delivery whose turn it is reaches its register. -/
theorem execSRegisterValid_delivers {s : State} {d : Delivery} (h : s.nextDelivery = some d) :
    execSRegisterValid s = .next ((s.take d).sValid d.sreg d.issue d.value) := by
  rw [execSRegisterValid_eq, h]
  obtain ⟨q, hq⟩ := (s.take d).sValid_frame d.sreg d.issue d.value
  obtain ⟨p, n, w, ht⟩ := s.take_frame d
  rw [Option.elim_some, hq, ht]
  exact done_keep rfl rfl

end Sys2Proof.Machine
end

section
/-! The array group's instructions and the commands that end its waits, each in the state in which it takes effect
(05 R144 to R156). -/
namespace Sys2Proof.Machine

/-! ### Issue (05 R146, R148, R149) -/

/-- The entry that an issue makes of the present pointers, before it is numbered. -/
def State.entryOf (s : State) (u : Bool) (rtn : BitVec 10) (pd p1 p2 : Fin 16) (r : Fin 8) (sv : Bool) : Entry :=
  ⟨rtn.toNat, s.iss.ptr[pd], s.iss.ptr[p1], s.iss.ptr[p2], if sv then some r else none, 0, 0, u⟩

/-- ISSU and ISSN are one instruction, for the two queues. -/
theorem exec_issue (u : Bool) (c : CoreId) (rtn : BitVec 10) (pd p1 p2 : Fin 16) (r : Fin 8) (sv : Bool) (s : State) :
    exec (if u then .issu c rtn pd p1 p2 r sv else .issn c rtn pd p1 p2 r sv) s =
      runInstr c false s (issueInstr u c rtn pd p1 p2 r sv) := by
  cases u <;> rfl

section
variable {s : State} {sv : Bool} {r : Fin 8} (u : Bool) (rtn : BitVec 10) (pd p1 p2 : Fin 16)

theorem issue_waits (h : s.readyOnce .seq = true) (hr : sv = true ∨ r = 0) (hfull : s.mseq.full u = true) :
    runInstr .seq false s (issueInstr u .seq rtn pd p1 p2 r sv) =
      .next { s with seq := { s.head .seq with wait := some (.issue (s.entryOf u rtn pd p1 p2 r sv)) } } :=
  runInstr_waits h ((issueInstr_seq hr u rtn pd p1 p2).trans (if_pos hfull))

theorem issue_retires (h : s.readyOnce .seq = true) (hr : sv = true ∨ r = 0) (hroom : s.mseq.full u = false) :
    runInstr .seq false s (issueInstr u .seq rtn pd p1 p2 r sv) =
      .next { s with
        seq := (s.head .seq).retire
        mseq := { s.mseq with accept := s.mseq.accept ++
          [{ s.entryOf u rtn pd p1 p2 r sv with issue := s.iss.issueNo + 1, acc := s.mseq.acceptAt u s.acyc }] }
        iss := { s.iss with
          issueNo := s.iss.issueNo + 1
          sreg := s.iss.claim (if sv then some r else none) (s.iss.issueNo + 1) } } :=
  runInstr_retires h (t := (s.setCore .seq (s.head .seq)).issueEntry (s.entryOf u rtn pd p1 p2 r sv))
    ((issueInstr_seq hr u rtn pd p1 p2).trans (if_neg (by simpa using hroom))) ⟨rfl, rfl⟩

end

/-! ### Pointers (05 R144) -/

theorem execPpset_fits {s : State} {g : Fin 32} (h : s.readyOnce .seq = true) (p : Fin 16)
    (hfit : Ptr.Fits ((s.head .seq).gr g).toNat) : execPpset .seq g p s =
      let v := ((s.head .seq).gr g).toNat
      .next (((s.setCore .seq (s.head .seq)).setPtr p ⟨v % 2 ^ 12, v / 2 ^ 12 % 128, v / 2 ^ 19 % 16⟩).retire .seq) := by
  refine runInstr_retires h ?_ ⟨rfl, rfl⟩
  rw [if_neg (by decide), head_core, Ptr.ofDbl_fits hfit]

theorem execPpset_faulty {s : State} {g : Fin 32} (h : s.readyOnce .seq = true) (p : Fin 16)
    (hfit : ¬ Ptr.Fits ((s.head .seq).gr g).toNat) : execPpset .seq g p s =
      .next ((s.setCore .seq (s.head .seq)).exc .seq 4 (s.head .seq).pc.toNat none) := by
  refine runInstr_fault h ?_
  rw [if_neg (by decide), head_core, Ptr.ofDbl_faulty ((Ptr.faulty_iff _).mpr hfit)]

theorem execPpget_retires {s : State} (h : s.readyOnce .seq = true) (g : Fin 32) (p : Fin 16) :
    execPpget .seq g p s = .next { s with seq := ((s.head .seq).gw g s.iss.ptr[p].toDbl).retire } :=
  runInstr_retires h (t := (s.setCore .seq (s.head .seq)).gw .seq g s.iss.ptr[p].toDbl) (if_neg (by decide)) ⟨rfl, rfl⟩

theorem execPpadd_retires {s : State} (h : s.readyOnce .seq = true) (p : Fin 16) (imm : BitVec 12) :
    execPpadd .seq p imm s = .next (((s.setCore .seq (s.head .seq)).setPtr p
      { s.iss.ptr[p] with base := (s.iss.ptr[p].base + imm.toNat) % 4096 }).retire .seq) :=
  runInstr_retires h (if_neg (by decide)) ⟨rfl, rfl⟩

/-! ### SREAD, AWAIT, TEND (05 R154 to R156) -/

section
variable {s : State} (h : s.readyOnce .seq = true)
include h

theorem execSread_unnamed {r : Fin 8} (hn : s.iss.sreg[r].named = false) (g : Fin 32) :
    execSread .seq g r s = .next { s with seq := ((s.head .seq).gw g 0).retire } := by
  refine runInstr_retires h (t := (s.setCore .seq (s.head .seq)).gw .seq g 0) ?_ ⟨rfl, rfl⟩
  exact (if_neg (by decide)).trans (if_pos (by simpa using hn))

theorem execSread_valid {r : Fin 8} (hn : s.iss.sreg[r].named = true) (hv : s.iss.sreg[r].valid = true) (g : Fin 32) :
    execSread .seq g r s = .next { s with seq := ((s.head .seq).gw g s.iss.sreg[r].val).retire } := by
  refine runInstr_retires h (t := (s.setCore .seq (s.head .seq)).gw .seq g s.iss.sreg[r].val) ?_ ⟨rfl, rfl⟩
  exact (if_neg (by decide)).trans ((if_neg (by simpa using hn)).trans (if_pos hv))

theorem execSread_waits {r : Fin 8} (hn : s.iss.sreg[r].named = true) (hv : s.iss.sreg[r].valid = false) (g : Fin 32) :
    execSread .seq g r s = .next { s with seq := { s.head .seq with wait := some (.sread g r) } } := by
  refine runInstr_waits h ?_
  exact (if_neg (by decide)).trans ((if_neg (by simpa using hn)).trans (if_neg (by simpa using hv)))

theorem execAwait_idle {u : Bool} (hi : s.idleNow u = true) :
    execAwait .seq u s = .next { s with seq := (s.head .seq).retire } :=
  runInstr_retires h (t := s.setCore .seq (s.head .seq)) ((if_neg (by decide)).trans (if_pos hi)) ⟨rfl, rfl⟩

theorem execAwait_waits {u : Bool} (hi : s.idleNow u = false) :
    execAwait .seq u s = .next { s with seq := { s.head .seq with wait := some (.await u) } } :=
  runInstr_waits h ((if_neg (by decide)).trans (if_neg (Bool.not_eq_true _ ▸ hi)))

theorem execTend_waits (hi : s.idleNow true = false) (d : Nat) :
    execTend .seq d s = .next { s with seq := { s.head .seq with wait := some .tend } } :=
  runInstr_waits h ((if_neg (by decide)).trans (if_neg (Bool.not_eq_true _ ▸ hi)))

theorem execTend_outside (hi : s.idleNow true = true) (hout : s.tick.inTick = false) (d : Nat) :
    execTend .seq d s = .next { s with seq := (s.head .seq).retire } := by
  refine runInstr_retires h (t := s.setCore .seq (s.head .seq)) ((if_neg (by decide)).trans ((if_pos hi).trans ?_)) ⟨rfl, rfl⟩
  rw [State.tickEnd_outside (s := s.setCore .seq (s.head .seq)) hout]

theorem execTend_ends (hi : s.idleNow true = true) (hplain : s.PlainTick) (d : Nat) :
    execTend .seq d s = .next (((s.setCore .seq (s.head .seq)).tickOver d).retire .seq) := by
  have hhead : (s.setCore .seq (s.head .seq)).PlainTick := ⟨hplain.inTick, hplain.held, hplain.inputs, hplain.digTicks⟩
  refine runInstr_retires h (t := (s.setCore .seq (s.head .seq)).tickOver d) ?_
    ((keep_setCore s .seq _).trans (keep_tickOver _ d))
  rw [← hhead.tickEnd_eq]
  exact (if_neg (by decide)).trans (if_pos hi)

end

/-! ### The end of a wait (05 R149, R154 to R156) -/

/-- A wait is not a general register's affair. -/
theorem Core.gw_wait (k : Core) (g : Fin 32) (v : Dbl) (w : Option Wait) :
    { k.gw g v with wait := w } = ({ k with wait := w } : Core).gw g v := by
  have hsup : ({ k with wait := w } : Core).sup = k.sup := rfl
  unfold Core.gw
  rw [hsup]
  split
  · rfl
  · split <;> rfl

section
variable {s : State} (h : s.waitFree = true)
include h

theorem execIssueRetire_room {e : Entry} (hw : s.seq.wait = some (.issue e)) (hroom : s.mseq.full e.urgent = false) :
    execIssueRetire s = .next (s.issueEntry e).endWait := by
  refine when_waitFree h ?_ ⟨rfl, rfl⟩
  rw [hw]
  exact if_neg (by simpa using hroom)

theorem execSreadRetire_valid {g : Fin 32} {r : Fin 8} (hw : s.seq.wait = some (.sread g r))
    (hv : s.iss.sreg[r].valid = true) : execSreadRetire s =
      .next { s with seq := ({ s.seq with wait := none }.gw g s.iss.sreg[r].val).retire } := by
  rw [← Core.gw_wait]
  refine when_waitFree h (t := s.gw .seq g s.iss.sreg[r].val) ?_ ⟨rfl, rfl⟩
  rw [hw]
  exact if_pos hv

theorem execAwaitRetire_idle {u : Bool} {c : Nat} (hw : s.seq.wait = some (.await u)) (hc : s.idleBoth u = some c)
    (hr : s.canReach c = true) : ∃ a n, execAwaitRetire s = .next (State.endWait { s with arr := a, acyc := n }) := by
  obtain ⟨a, n, ht⟩ := s.settle_reach_frame c
  refine ⟨a, n, when_waitFree h ?_ ⟨rfl, rfl⟩⟩
  rw [hw, ← ht]
  exact State.idleRetire_reached hc hr id

theorem execTendRetire_idle {c : Nat} (hw : s.seq.wait = some .tend) (hc : s.idleBoth true = some c)
    (hr : s.canReach c = true) (hplain : s.PlainTick) (d : Nat) :
    ∃ a n, execTendRetire d s = .next (State.endWait (State.tickOver { s with arr := a, acyc := n } d)) := by
  obtain ⟨a, n, ht⟩ := s.settle_reach_frame c
  have hidle : State.PlainTick { s with arr := a, acyc := n } :=
    ⟨hplain.inTick, hplain.held, hplain.inputs, hplain.digTicks⟩
  refine ⟨a, n, when_waitFree h ?_ (Keep.trans ⟨rfl, rfl⟩ (keep_tickOver { s with arr := a, acyc := n } d))⟩
  rw [hw, ← hidle.tickEnd_eq, ← ht]
  exact State.idleRetire_reached hc hr _

end

end Sys2Proof.Machine
end

section
open Sys2Proof Sys2Proof.Machine

/-- Settles O32: each instruction and each end of a wait by its own lemma; what a TEND records is State.TendEnds, and a result
is State.sValid after the delivery has been taken. -/
theorem arrayInstructions : Obligations.ArrayInstructions := by
  unfold Obligations.ArrayInstructions
  refine ⟨fun s rtn pd p1 p2 p r sv u d g imm => ⟨fun h i hi => ?illegal, fun h => ?onSeq⟩, fun s d => ?ends⟩
  case illegal =>
    simp only [List.mem_cons, List.not_mem_nil, or_false] at hi
    rcases hi with rfl | rfl | rfl | rfl | rfl | rfl | rfl | rfl
    · exact runInstr_illegal h (if_pos (.inl rfl))
    · exact runInstr_illegal h (if_pos (.inl rfl))
    · exact (runInstr_illegal h (if_pos rfl) : execAwait .cmd u s = _)
    · exact (runInstr_illegal h (if_pos rfl) : execSread .cmd g r s = _)
    · exact (runInstr_illegal h (if_pos rfl) : execTend .cmd d s = _)
    · exact (runInstr_illegal h (if_pos rfl) : execPpset .cmd g p s = _)
    · exact (runInstr_illegal h (if_pos rfl) : execPpget .cmd g p s = _)
    · exact (runInstr_illegal h (if_pos rfl) : execPpadd .cmd p imm s = _)
  case onSeq =>
    intro k wait bad i e n
    refine ⟨fun hsv hr => ?_, fun hr hfull => ?_, fun hr hroom => ?_, fun v hv => ⟨fun hfit => ?_, fun hfit => ?_⟩, ?_, ?_,
      fun hn => execSread_unnamed h hn g, fun hn hv => execSread_valid h hn hv g, fun hn hv => execSread_waits h hn hv g,
      fun hi => execAwait_idle h hi, fun hi => execAwait_waits h hi, fun hi => execTend_waits h hi d,
      fun hi hout => execTend_outside h hi hout d⟩
    · exact (exec_issue u .seq rtn pd p1 p2 r sv s).trans (runInstr_illegal h (if_pos (.inr ⟨hsv, hr⟩)))
    · exact (exec_issue u .seq rtn pd p1 p2 r sv s).trans (issue_waits u rtn pd p1 p2 h hr hfull)
    · exact ⟨_, (exec_issue u .seq rtn pd p1 p2 r sv s).trans (issue_retires u rtn pd p1 p2 h hr hroom),
        fun x => s.iss.claim_get r x sv n⟩
    · subst hv
      exact ⟨_, execPpset_fits h p hfit, fun x => vset_get _ p x _⟩
    · subst hv
      exact execPpset_faulty h p hfit
    · exact execPpget_retires h g p
    · exact ⟨_, execPpadd_retires h p imm, fun x => vset_get _ p x _⟩
  case ends =>
    intro ends plain
    have hplain : plain → s.PlainTick := fun ⟨hin, hheld, hinputs, hdig⟩ => ⟨hin, hheld, hinputs, hdig⟩
    have hends {t : State} (h : s.TendEnds d t) : ends t s := ⟨h.inTick, h.isOver, h.held, h.tendMax, h.tend, h.mem⟩
    refine ⟨fun h hi hp => ?_, fun h => ⟨fun e hw hroom => ?_, fun v c hw hc hr => ?_, fun g r hw hv => ?_,
      fun c hw hc hr hp => ?_⟩, fun x hx => ?_⟩
    · exact ⟨_, execTend_ends h hi (hplain hp) d, rfl,
        hends (State.TendEnds.of_array (((s.setCore .seq (s.head .seq)).tickOver_ends d).setSeq _))⟩
    · exact ⟨_, execIssueRetire_room h hw hroom, rfl, rfl, rfl, rfl⟩
    · obtain ⟨a, n, ht⟩ := execAwaitRetire_idle h hw hc hr
      exact ⟨_, ht, rfl, rfl, rfl⟩
    · exact execSreadRetire_valid h hw hv
    · obtain ⟨a, n, hexec⟩ := execTendRetire_idle h hw hc hr (hplain hp) d
      exact ⟨_, hexec, rfl, hends (((State.tickOver_ends { s with arr := a, acyc := n } d).setSeq _).setSeq _).of_array⟩
    · intro own
      obtain ⟨p, n, w, htake⟩ := s.take_frame x
      have hiss : (s.take x).iss = s.iss := by rw [htake]
      obtain ⟨q, hq⟩ := (s.take x).sValid_frame x.sreg x.issue x.value
      refine ⟨_, execSRegisterValid_delivers hx, by rw [hq, htake], by rw [hq, htake], by rw [hq, htake],
        fun y hy => ?_, fun hown hmode => ?_, fun hnot => ?_⟩
      · rw [State.sValid_other _ hy, hiss]
      · obtain ⟨howner, hnamed, hvalid⟩ := hown
        rw [State.sValid_owned (by rwa [htake]) (by rwa [hiss]) (by rwa [hiss]) (by rwa [hiss])]
        exact ⟨rfl, rfl⟩
      · rw [State.sValid_discarded (by rwa [hiss]), hiss]

end

section
/-! The cores' loads: what memory or a register answers, what a served load leaves, what an error does (06 R173, R182;
09 R246, R252, R265, R271; 10 R278). -/
namespace Sys2Proof.Machine

/-! ### Loaded values (09 R252) -/

theorem State.memNat_lt (s : State) (a n : Nat) : s.memNat a n < 256 ^ n := by
  induction n generalizing a with
  | zero => exact Nat.one_pos
  | succ n ih =>
    have hrest := ih (a + 1)
    have hbyte := (s.byte a).isLt
    rw [State.memNat, Nat.pow_succ]
    omega

theorem extend_zext (n v : Nat) : extend n true v = BitVec.ofNat 64 v := if_pos rfl

/-- A value of n bytes without the zero extension is extended by its sign. -/
theorem extend_signed {n v : Nat} (hn : n ≤ 8) (hv : v < 256 ^ n) :
    extend n false v = (BitVec.ofNat (8 * n) v).signExtend 64 := by
  have hv' : v < 2 ^ (8 * n) := by rwa [Nat.pow_mul]
  have hle : 2 ^ (8 * n) ≤ 2 ^ 64 := Nat.pow_le_pow_right (by decide) (by omega)
  have hof : (BitVec.ofNat (8 * n) v).toNat = v := Nat.mod_eq_of_lt hv'
  refine BitVec.eq_of_toNat_eq ?_
  rw [BitVec.toNat_signExtend, BitVec.toNat_setWidth, BitVec.msb_eq_decide, hof, Nat.mod_eq_of_lt (by omega), extend]
  by_cases hpos : v < 2 ^ (8 * n - 1)
  · rw [if_pos (by simp [hpos]), if_neg (by simpa using hpos)]
    exact Nat.mod_eq_of_lt (by omega)
  · rw [if_neg (by simp [hpos]), if_pos (by simpa using hpos)]
    exact Nat.mod_eq_of_lt (by omega)

/-! ### What a read is answered with -/

theorem State.memEcc_clean (s : State) (a : Nat) : s.memEcc a .clean = s := rfl

theorem State.access_read {s : State} {q : Requester} {a n : Nat} (h : accessCode s q false a n = 0) (ecc : Ecc) :
    s.access q false a n 0 ecc = s.busRead q a n ecc := by
  unfold State.access State.accessWith
  dsimp only
  rw [if_neg (not_not.mpr h), if_neg Bool.false_ne_true]

/-- A read in cisterns or bulk memory delivers its bytes, or code 6 where its word cannot be corrected. -/
theorem State.busRead_inMem (s : State) (q : Requester) {a n : Nat} (h : inMem a n = true) (ecc : Ecc) :
    s.busRead q a n ecc = (s.memEcc a ecc, if ecc = .lost then 6 else 0, if ecc = .lost then 0 else s.memNat a n) := by
  unfold inMem at h
  unfold State.busRead
  dsimp only at h
  cases hr : regionOf a with
  | none => simp [hr] at h
  | some r => cases r <;> first | rfl | simp [hr] at h

/-- A read in a register block is the register's own read. -/
theorem State.busRead_block (s : State) (q : Requester) {a b : Nat} (h : regionOf a = some (.block b)) (n : Nat) (ecc : Ecc) :
    s.busRead q a n ecc = ((s.readReg q.src a q.quiet).1, 0, (s.readReg q.src a q.quiet).2.toNat) := by
  rw [State.busRead, h]

theorem State.Noted.keep {s t : State} {log : List Nat} (h : s.Noted t log) : Keep s t := by
  rw [h.frame]
  exact ⟨rfl, rfl⟩

/-! ### The outcome of a load (09 R252, R271; 06 R173, R182) -/

/-- Nothing befalls the load. -/
def calmLoad : LoadEv := ⟨.clean, .clean, false, false⟩

theorem withL1_untouched (c : CoreId) (ecc : Ecc) (s : State) (f : State → Act) :
    withL1 c ⟨ecc, .clean, false, false⟩ s f = f s := rfl

theorem dataEnd_unmatched {c : CoreId} {write : Bool} {s : State} {l : List (Nat × Nat × Nat)}
    (h : s.dMatches c write l = []) (t : State) : dataEnd c write s t l = .next t := by
  unfold dataEnd
  exact if_pos (by rw [h]; rfl)

section
variable {c : CoreId} {a n : Nat} {ev : LoadEv} {s : State} (put : State → Nat → State)
  (hfault : s.accessFault c false a n = none) (hcut : s.coreCut c = false)

include hfault hcut

theorem loadAct_parity (h : ev.parity = true) : loadAct c a n ev s put = .stay (s.coreFatal c 1) := by
  rw [loadAct, hfault]
  dsimp only
  rw [hcut, if_neg Bool.false_ne_true, withL1, if_pos h]

theorem loadAct_l1Lost (h : ev.parity = false) (hl1 : ev.l1 = .lost) :
    loadAct c a n ev s put = .stay (s.coreFatal c 2) := by
  rw [loadAct, hfault]
  dsimp only
  rw [hcut, if_neg Bool.false_ne_true, withL1, if_neg (by rw [h]; exact Bool.false_ne_true), if_pos hl1]

/-- A code other than OK is logged and takes cause 7 with it. -/
theorem loadAct_refused {ecc : Ecc} {t : State} {code v : Nat}
    (haccess : s.access (s.coreReq c) false a n 0 ecc = (t, code, v)) (hcode : code ≠ 0) :
    loadAct c a n ⟨ecc, .clean, false, false⟩ s put =
      .fault (logUntagged t (s.coreReq c) a code) 7 a (some (256 * code)) := by
  rw [loadAct, hfault]
  dsimp only
  rw [hcut, if_neg Bool.false_ne_true, withL1_untouched, haccess, if_pos hcode]

/-- An answered load that no data break matches delivers its value. -/
theorem loadAct_answered {t : State} {v : Nat} (haccess : s.access (s.coreReq c) false a n 0 .clean = (t, 0, v))
    (hbreak : s.dMatches c false [(a, n, v)] = []) : loadAct c a n calmLoad s put = .next (put t v) := by
  rw [loadAct, hfault]
  dsimp only
  rw [hcut, if_neg Bool.false_ne_true, calmLoad, withL1_untouched, haccess, if_neg (not_not.mpr rfl),
    dataEnd_unmatched hbreak]

end

/-- Core c's load of n bytes at a reaches memory and is answered with its bytes: no fault, no refusal, no data break. -/
def State.LoadServed (s : State) (c : CoreId) (a n : Nat) : Prop :=
  s.accessFault c false a n = none ∧ s.coreCut c = false ∧ inMem a n = true ∧
    accessCode s (s.coreReq c) false a n = 0 ∧ s.dMatches c false [(a, n, s.memNat a n)] = []

theorem State.LoadServed.loadAct {s : State} {c : CoreId} {a n : Nat} (h : s.LoadServed c a n)
    (put : State → Nat → State) : loadAct c a n calmLoad s put = .next (put s (s.memNat a n)) := by
  obtain ⟨hfault, hcut, hmem, hcode, hbreak⟩ := h
  exact loadAct_answered put hfault hcut ((State.access_read hcode _).trans (s.busRead_inMem _ hmem _)) hbreak

/-! ### Load instructions (09 R252; 10 R278, R281) -/

/-- A ready core carries the outcome of an instruction that RPT may repeat through, where that keeps the queue and the
mode. -/
theorem runInstr_plain {c : CoreId} {s : State} {f : State → Act} {a : Act} (h : s.ready c = true)
    (hf : f (s.setCore c (s.head c)) = a) (hk : Keep s (a.finish c)) : runInstr c true s f = .next (a.finish c) := by
  rw [runInstr_ready f h (.inl rfl), hf]
  exact done_keep hk.1 hk.2

/-- A load with an immediate offset; put: where the value goes. -/
def loadFrom (o : LoadI) (n : Nat) (put : State → Nat → State) (s : State) : Out :=
  runInstr o.c true s (fun s => loadAct o.c ((s.core o.c).ea o.toIntI) n o.ev s put)

theorem loadOp_eq (o : LoadI) (n : Nat) (zext : Bool) :
    loadOp o n zext = loadFrom o n (fun s v => s.gw o.c o.rd (extend n zext v)) := rfl

theorem fpLoad_eq (o : LoadI) (n : Nat) :
    fpLoad o n = loadFrom o n (fun s v => s.setCore o.c ((s.core o.c).fw o.rd v)) := rfl

/-- Each of the nine loads with an immediate offset is one of its size. -/
theorem exec_load {o : LoadI} {p : Instr × Nat} (hp : p ∈ [(.lb o, 1), (.lbu o, 1), (.lh o, 2), (.lhu o, 2), (.lw o, 4),
    (.lwu o, 4), (.ld o, 8), (.flw o, 4), (.fld o, 8)]) (s : State) : ∃ put, exec p.1 s = loadFrom o p.2 put s := by
  simp only [List.mem_cons, List.not_mem_nil, or_false] at hp
  obtain rfl | rfl | rfl | rfl | rfl | rfl | rfl | rfl | rfl := hp <;> exact ⟨_, rfl⟩

section
variable {o : LoadI} {s : State} (hready : s.ready o.c = true)
include hready

/-- A load's outcome is carried through from the core at its instruction's head. -/
theorem loadFrom_finish {n : Nat} {put : State → Nat → State} {act : Act}
    (hact : loadAct o.c ((s.head o.c).ea o.toIntI) n o.ev (s.setCore o.c (s.head o.c)) put = act)
    (hk : Keep s (act.finish o.c)) : loadFrom o n put s = .next (act.finish o.c) :=
  runInstr_plain hready (by rw [head_core]; exact hact) hk

section
variable (hev : o.ev = calmLoad)
include hev

/-- A served load of a general register changes that register alone. -/
theorem loadOp_served {n : Nat} (h : (s.setCore o.c (s.head o.c)).LoadServed o.c ((s.head o.c).ea o.toIntI) n) (zext : Bool) :
    loadOp o n zext s = .next (s.setCore o.c ((s.head o.c).gw o.rd
      (extend n zext ((s.setCore o.c (s.head o.c)).memNat ((s.head o.c).ea o.toIntI) n))).retire) :=
  runInstr_core hready (.inl rfl) (by rw [head_core, hev, h.loadAct, State.gw, head_core])

/-- An f register takes the bytes, and the rest of its vector register is 0 (10 R278). -/
theorem fpLoad_served {n : Nat} (h : (s.setCore o.c (s.head o.c)).LoadServed o.c ((s.head o.c).ea o.toIntI) n) (hn : n ≤ 8) :
    fpLoad o n s = .next (s.setCore o.c (let v := (s.setCore o.c (s.head o.c)).memNat ((s.head o.c).ea o.toIntI) n
      { s.head o.c with v := vset (s.head o.c).v o.rd (BitVec.ofNat 512 v) }).retire) := by
  have hlow : (s.setCore o.c (s.head o.c)).memNat ((s.head o.c).ea o.toIntI) n % 2 ^ 64 =
      (s.setCore o.c (s.head o.c)).memNat ((s.head o.c).ea o.toIntI) n :=
    Nat.mod_eq_of_lt (Nat.lt_of_lt_of_le (State.memNat_lt _ _ n)
      (Nat.pow_le_pow_right (by decide : 256 > 0) hn : 256 ^ n ≤ 256 ^ 8))
  refine runInstr_core hready (.inl rfl) ?_
  rw [head_core, hev, h.loadAct, head_core, Core.fw, hlow]

/-- A word load from a register block is the register's read, with its side effects, and delivers its value. -/
theorem loadOp_block {b : Nat} (hb : regionOf ((s.head o.c).ea o.toIntI) = some (.block b)) {r : State × Word}
    (hr : (s.setCore o.c (s.head o.c)).readReg (coreStation o.c) ((s.head o.c).ea o.toIntI) false = r)
    (hfault : (s.setCore o.c (s.head o.c)).accessFault o.c false ((s.head o.c).ea o.toIntI) 4 = none)
    (hcut : (s.setCore o.c (s.head o.c)).coreCut o.c = false)
    (hcode : accessCode (s.setCore o.c (s.head o.c)) ((s.setCore o.c (s.head o.c)).coreReq o.c) false
      ((s.head o.c).ea o.toIntI) 4 = 0)
    (hbreak : (s.setCore o.c (s.head o.c)).dMatches o.c false [((s.head o.c).ea o.toIntI, 4, r.2.toNat)] = [])
    (hk : Keep s r.1) (zext : Bool) :
    loadOp o 4 zext s = .next (r.1.setCore o.c ((r.1.core o.c).gw o.rd (extend 4 zext r.2.toNat)).retire) := by
  subst hr
  rw [loadOp_eq, loadFrom_finish hready (hev ▸ loadAct_answered _ hfault hcut
    ((State.access_read hcode _).trans (State.busRead_block _ _ hb _ _)) hbreak)
    ((hk.trans (keep_setCore _ _ _)).trans (keep_setCore _ _ _))]
  simp only [Act.finish, State.retire, State.gw, State.setCore_setCore, State.core_setCore_same]
  rfl

end

end

/-- A served indexed load gives its register the bytes, zero-extended or by their sign. -/
theorem execIndexedLoad_served {o : IdxOp} {s : State} (hready : s.ready o.c = true) (hsize : o.size.toNat < 4)
    (h : (s.setCore o.c (s.head o.c)).LoadServed o.c ((s.head o.c).eax o) (2 ^ o.size.toNat)) :
    execIndexedLoad o calmLoad s = .next (s.setCore o.c ((s.head o.c).gw o.rd (extend (2 ^ o.size.toNat) o.zext
      ((s.setCore o.c (s.head o.c)).memNat ((s.head o.c).eax o) (2 ^ o.size.toNat)))).retire) := by
  refine runInstr_core hready (.inl rfl) ?_
  rw [if_neg (by omega)]
  dsimp only
  rw [head_core, h.loadAct, State.gw, head_core]

end Sys2Proof.Machine
end

section
open Sys2Proof Sys2Proof.Machine

/-- Settles O12: a served load is LoadServed.loadAct in each of its forms; a register's word is answered by its own read; the
errors stop the load before or after its access. -/
theorem loads : Obligations.Loads := by
  unfold Obligations.Loads
  intro calm
  refine ⟨⟨?immediate, ?indexed⟩, ?block, ?errors⟩
  case immediate =>
    intro o s hready hev k u a got gotF
    have signed (n : Nat) (hn : n ≤ 8) (h : u.LoadServed o.c a n) :
        loadOp o n false s = .next (got ((BitVec.ofNat (8 * n) (u.memNat a n)).signExtend 64)) := by
      rw [← extend_signed hn (u.memNat_lt a n)]
      exact loadOp_served hready hev h false
    have unsigned (n : Nat) (h : u.LoadServed o.c a n) : loadOp o n true s = .next (got (BitVec.ofNat 64 (u.memNat a n))) := by
      rw [← extend_zext n]
      exact loadOp_served hready hev h true
    exact ⟨fun h => ⟨signed 1 (by decide) h, unsigned 1 h⟩, fun h => ⟨signed 2 (by decide) h, unsigned 2 h⟩,
      fun h => ⟨signed 4 (by decide) h, unsigned 4 h, fpLoad_served hready hev h (by decide)⟩,
      fun h => ⟨unsigned 8 h, fpLoad_served hready hev h (by decide)⟩⟩
  case indexed =>
    intro o s hready hsize k u a n h
    have hn : n ≤ 2 ^ 3 := Nat.pow_le_pow_right (by decide) (by omega)
    refine (execIndexedLoad_served hready hsize h).trans ?_
    cases hz : o.zext
    · rw [extend_signed hn (State.memNat_lt _ _ _)]
      rfl
    · rw [extend_zext]
      rfl
  case block =>
    intro o s b hready hev k u a r hb hfault hcut hcode hbreak hpending hmode
    have hload := loadOp_block hready hev hb (r := r) rfl hfault hcut hcode hbreak ⟨hpending, hmode⟩
    refine ⟨(hload true).trans ?_, (hload false).trans ?_⟩
    · rw [extend_zext, BitVec.ofNat_toNat]
    · rw [extend_signed (by decide) r.2.isLt, BitVec.ofNat_toNat, BitVec.setWidth_eq]
  case errors =>
    intro o s p hready hp k u a hfault hcut
    obtain ⟨put, hexec⟩ := exec_load hp s
    rw [hexec]
    have hu (cause : Nat) : Keep s (u.coreFatal o.c cause) := (keep_setCore s _ _).trans (keep_coreFatal u o.c cause)
    refine ⟨fun hparity => ?_, fun hparity hl1 => ?_, fun hev hmem hcode => ?_⟩
    · exact loadFrom_finish hready (loadAct_parity put hfault hcut hparity) (hu 1)
    · exact loadFrom_finish hready (loadAct_l1Lost put hfault hcut hparity hl1) (hu 2)
    · have hact : loadAct o.c a p.2 o.ev u put =
          .fault (logUntagged (u.memEcc a .lost) (u.coreReq o.c) a 6) 7 a (some (256 * 6)) := by
        rw [hev]
        exact loadAct_refused put hfault hcut ((State.access_read hcode _).trans (u.busRead_inMem _ hmem _)) (by decide)
      obtain ⟨log, hecc⟩ := u.memEcc_noted a .lost
      exact loadFrom_finish hready hact
        ((((keep_setCore s _ _).trans hecc.keep).trans (keep_logUntagged _ _ a 6)).trans (keep_exc _ o.c 7 a _))

end

section
/-! Cistern banks: what a field of CISTERN_PWR asks of its bank, the end of a change, the owner of a bank's port B (06 R172,
R174, R175, R177). -/
namespace Sys2Proof.Machine

/-! ### Folds over the fields of a register -/

/-- What the step at i makes of what held before it, and no other step undoes, holds at the end. -/
theorem foldl_range_at {σ : Type} {f : σ → Nat → σ} {i n : Nat} (hi : i < n) {before after : σ → Prop}
    (hbefore : ∀ t j, j ≠ i → before t → before (f t j)) (hstep : ∀ t, before t → after (f t i))
    (hafter : ∀ t j, j ≠ i → after t → after (f t j)) {s : σ} (h : before s) : after ((List.range n).foldl f s) := by
  have hpre (m : Nat) (hm : m ≤ i) : before ((List.range m).foldl f s) := by
    induction m with
    | zero => exact h
    | succ m ih =>
      rw [List.range_succ, List.foldl_append]
      exact hbefore _ m (by omega) (ih (by omega))
  induction n with
  | zero => omega
  | succ n ih =>
    rw [List.range_succ, List.foldl_append]
    obtain rfl | hlt : i = n ∨ i < n := by omega
    · exact hstep _ (hpre i (Nat.le_refl i))
    · exact hafter _ n (by omega) (ih hlt)

/-! ### A request for a bank (06 R175) -/

/-- The state of bank n. -/
def State.bankSt (s : State) (n : Nat) : BankSt := s.cist.st[n]?.getD .off

/-- Is bank n changing? -/
def State.bankChanges (s : State) (n : Nat) : Bool := s.cist.chg.any (·.1 == n)

/-- A request of x begins a change of bank n: x is another state, and not retention where the bank is off. -/
def State.bankTakes (s : State) (n : Nat) (x : BankSt) : Prop :=
  s.bankSt n ≠ x ∧ ¬ (s.bankSt n = .off ∧ x = .retention)

theorem State.bankChanges_iff (s : State) (n : Nat) : s.bankChanges n = true ↔ ∃ x, (n, x) ∈ s.cist.chg := by
  simp [State.bankChanges]

theorem State.bankTo_same {s : State} {n : Nat} {x : BankSt} (h : s.bankSt n = x) : s.bankTo n x = s := if_pos h

theorem State.bankTo_refused {s : State} {n : Nat} (h : s.bankSt n = .off) :
    s.bankTo n .retention = s.setBit Reg.cisternStat 7 := by
  have hne : ¬ s.bankSt n = .retention := by rw [h]; decide
  exact (if_neg hne).trans (if_pos ⟨h, rfl⟩)

theorem State.bankTo_begins {s : State} {n : Nat} {x : BankSt} (h : s.bankTakes n x) :
    s.bankTo n x = { s with cist := { s.cist with chg := s.cist.chg ++ [(n, x)] } } :=
  (if_neg h.1).trans (if_neg h.2)

/-- A request asks for the present state, or for retention of a bank that is off, or begins a change. -/
theorem State.bankTakes_or (s : State) (n : Nat) (x : BankSt) :
    s.bankSt n = x ∨ (s.bankSt n = .off ∧ x = .retention) ∨ s.bankTakes n x := by
  by_cases hsame : s.bankSt n = x
  · exact .inl hsame
  by_cases hoff : s.bankSt n = .off ∧ x = .retention
  · exact .inr (.inl hoff)
  · exact .inr (.inr ⟨hsame, hoff⟩)

/-- t is s after bank n was asked for a state: no other bank's change or waiting request is touched. -/
structure State.Asked (s : State) (n : Nat) (t : State) : Prop where
  st : t.cist.st = s.cist.st
  mem : t.mem = s.mem
  keep : Keep s t
  chg : ∀ m x, m ≠ n → ((m, x) ∈ t.cist.chg ↔ (m, x) ∈ s.cist.chg)
  req : ∀ m x, m ≠ n → ((m, x) ∈ t.cist.req ↔ (m, x) ∈ s.cist.req)
  stat : bit (s.reg Reg.cisternStat) 7 = true → bit (t.reg Reg.cisternStat) 7 = true

theorem State.Asked.trans {s t u : State} {n : Nat} (h : s.Asked n t) (h' : t.Asked n u) : s.Asked n u where
  st := h'.st.trans h.st
  mem := h'.mem.trans h.mem
  keep := h.keep.trans h'.keep
  chg m x hm := (h'.chg m x hm).trans (h.chg m x hm)
  req m x hm := (h'.req m x hm).trans (h.req m x hm)
  stat := h'.stat ∘ h.stat

theorem State.Asked.bankSt {s t : State} {n : Nat} (h : s.Asked n t) (m : Nat) : t.bankSt m = s.bankSt m := by
  rw [State.bankSt, State.bankSt, h.st]

theorem State.Asked.bankChanges {s t : State} {n m : Nat} (h : s.Asked n t) (hm : m ≠ n) :
    t.bankChanges m = s.bankChanges m := by
  rw [Bool.eq_iff_iff, State.bankChanges_iff, State.bankChanges_iff]
  exact exists_congr fun x => h.chg m x hm

theorem State.asked_self (s : State) (n : Nat) : s.Asked n s :=
  ⟨rfl, rfl, Keep.rfl' s, fun _ _ _ => .rfl, fun _ _ _ => .rfl, id⟩

/-- Another word than CISTERN_STAT asks for nothing. -/
theorem State.asked_setFld (s : State) (n : Nat) {a : Nat} (ha : Reg.cisternStat ≠ a) (hi lo v : Nat) :
    s.Asked n (s.setFld a hi lo v) :=
  ⟨rfl, rfl, keep_setFld s a hi lo v, fun _ _ _ => .rfl, fun _ _ _ => .rfl,
    fun h => by rwa [State.setFld_reg_other _ _ _ _ _ _ ha]⟩

theorem State.bit_setBit_same (s : State) (a : Nat) {i : Nat} (h : i < 32) : bit ((s.setBit a i).reg a) i = true := by
  rw [State.bit_setBit s a i h, decide_eq_true rfl, Bool.true_or]

/-- A refused request is recorded. -/
theorem State.asked_refused (s : State) (n : Nat) : s.Asked n (s.setBit Reg.cisternStat 7) :=
  ⟨rfl, rfl, keep_setBit s _ 7, fun _ _ _ => .rfl, fun _ _ _ => .rfl, fun _ => s.bit_setBit_same _ (by decide)⟩

theorem State.bankTo_asked (s : State) (n : Nat) (x : BankSt) : s.Asked n (s.bankTo n x) := by
  obtain h | ⟨h, rfl⟩ | h := s.bankTakes_or n x
  · rw [State.bankTo_same h]
    exact s.asked_self n
  · rw [State.bankTo_refused h]
    exact s.asked_refused n
  · rw [State.bankTo_begins h]
    exact ⟨rfl, rfl, ⟨rfl, rfl⟩, fun m y hm => by simp [hm], fun _ _ _ => .rfl, id⟩

/-- During a change a request waits for its end, in the place of an older one. -/
theorem State.bankReq_waits {s : State} {n : Nat} (h : s.bankChanges n = true) (x : BankSt) : s.bankReq n x =
    { s with cist := { s.cist with req := s.cist.req.filter (·.1 != n) ++ [(n, x)] } } := if_pos h

theorem State.bankReq_now {s : State} {n : Nat} (h : s.bankChanges n = false) (x : BankSt) : s.bankReq n x = s.bankTo n x :=
  if_neg (by rw [← State.bankChanges, h]; exact Bool.false_ne_true)

theorem State.bankReq_asked (s : State) (n : Nat) (x : BankSt) : s.Asked n (s.bankReq n x) := by
  cases h : s.bankChanges n
  · rw [State.bankReq_now h]
    exact s.bankTo_asked n x
  · rw [State.bankReq_waits h]
    exact ⟨rfl, rfl, ⟨rfl, rfl⟩, fun _ _ _ => .rfl, fun m y hm => by simp [hm], id⟩

theorem State.bankReq_reg_other (s : State) (n : Nat) (x : BankSt) {a : Nat} (ha : a ≠ Reg.cisternStat) :
    (s.bankReq n x).reg a = s.reg a := by
  cases h : s.bankChanges n
  · rw [State.bankReq_now h]
    obtain h | ⟨h, rfl⟩ | h := s.bankTakes_or n x
    · rw [State.bankTo_same h]
    · rw [State.bankTo_refused h, State.setBit_reg_other _ _ _ _ ha]
    · rw [State.bankTo_begins h]
      rfl
  · rw [State.bankReq_waits h]
    rfl

/-- Where the bank does not change yet, a change begins exactly where the request takes it. -/
theorem State.bankReq_mem_chg {s : State} {n : Nat} (h : s.bankChanges n = false) (x : BankSt) :
    (n, x) ∈ (s.bankReq n x).cist.chg ↔ s.bankTakes n x := by
  have hnone : (n, x) ∉ s.cist.chg := fun hx => Bool.false_ne_true (h.symm.trans ((s.bankChanges_iff n).mpr ⟨x, hx⟩))
  rw [State.bankReq_now h]
  obtain hx | hx | hx := s.bankTakes_or n x
  · rw [State.bankTo_same hx]
    exact iff_of_false hnone fun ht => ht.1 hx
  · obtain ⟨hoff, rfl⟩ := hx
    rw [State.bankTo_refused hoff]
    exact iff_of_false hnone fun ht => ht.2 ⟨hoff, rfl⟩
  · rw [State.bankTo_begins hx]
    exact iff_of_true (by simp) hx

/-- Retention of a bank that is off is refused. -/
theorem State.bankReq_refused {s : State} {n : Nat} (h : s.bankChanges n = false) (hoff : s.bankSt n = .off) :
    bit ((s.bankReq n .retention).reg Reg.cisternStat) 7 = true := by
  rw [State.bankReq_now h, State.bankTo_refused hoff]
  exact s.bit_setBit_same _ (by decide)

/-! ### A write of CISTERN_PWR (06 R175) -/

/-- The code in field i of a value written to CISTERN_PWR. -/
def pwrCode (v : Word) (i : Nat) : Nat := bits v.toNat (2 * i + 1) (2 * i)

/-- What field i of a write of CISTERN_PWR[k] does. -/
def State.pwrField (k : Fin 4) (v : Word) (s : State) (i : Nat) : State :=
  match bankCode (pwrCode v i) with
  | none => s.setBit Reg.cisternStat 7
  | some x => (s.setFld (Reg.cisternPwr + 4 * k.val) (2 * i + 1) (2 * i) (pwrCode v i)).bankReq (16 * k.val + i) x

theorem State.cisternPwrWrite_eq (s : State) (k : Fin 4) (v : Word) :
    s.cisternPwrWrite k v = (List.range 16).foldl (State.pwrField k v) s := rfl

theorem bankCode_eq_none_iff {v : Word} {i : Nat} : bankCode (pwrCode v i) = none ↔ pwrCode v i = 3 := by
  have hlt : pwrCode v i < 4 := by
    rw [pwrCode, bits, show 2 * i + 1 + 1 - 2 * i = 2 by omega]
    exact Nat.mod_lt _ (by decide)
  generalize pwrCode v i = c at hlt ⊢
  revert c
  decide

theorem cisternStat_ne_pwr : ∀ k : Fin 4, Reg.cisternStat ≠ Reg.cisternPwr + 4 * k.val := by decide

section
variable (k : Fin 4) (v : Word)

theorem State.pwrField_refused {i : Nat} (h : bankCode (pwrCode v i) = none) (s : State) :
    s.pwrField k v i = s.setBit Reg.cisternStat 7 := by
  rw [State.pwrField, h]

theorem State.pwrField_asks {i : Nat} {x : BankSt} (h : bankCode (pwrCode v i) = some x) (s : State) : s.pwrField k v i =
    (s.setFld (Reg.cisternPwr + 4 * k.val) (2 * i + 1) (2 * i) (pwrCode v i)).bankReq (16 * k.val + i) x := by
  rw [State.pwrField, h]

theorem State.pwrField_asked (s : State) (i : Nat) : s.Asked (16 * k.val + i) (s.pwrField k v i) := by
  cases h : bankCode (pwrCode v i) with
  | none =>
    rw [State.pwrField_refused k v h]
    exact s.asked_refused _
  | some x =>
    rw [State.pwrField_asks k v h]
    exact (s.asked_setFld _ (cisternStat_ne_pwr k) _ _ _).trans (State.bankReq_asked _ _ x)

/-- Field i is stored unless its code is refused, and no other field. -/
theorem State.pwrField_bit (s : State) (i : Nat) {j : Nat} (hj : j < 32) :
    bit ((s.pwrField k v i).reg (Reg.cisternPwr + 4 * k.val)) j =
      if pwrCode v i ≠ 3 ∧ j / 2 = i then bit v j else bit (s.reg (Reg.cisternPwr + 4 * k.val)) j := by
  cases h : bankCode (pwrCode v i) with
  | none =>
    rw [State.pwrField_refused k v h, State.setBit_reg_other _ _ _ _ (cisternStat_ne_pwr k).symm,
      if_neg (fun hc => hc.1 (bankCode_eq_none_iff.mp h))]
  | some x =>
    have hcode : pwrCode v i ≠ 3 := fun hc => by simp [bankCode_eq_none_iff.mpr hc] at h
    rw [State.pwrField_asks k v h, State.bankReq_reg_other _ _ _ (cisternStat_ne_pwr k).symm, State.bit_setFld _ _ _ _ _ hj]
    by_cases hi : j / 2 = i
    · rw [if_pos (by omega), if_pos ⟨hcode, hi⟩, pwrCode, bits_testBit, decide_eq_true (by omega), Bool.true_and,
        BitVec.testBit_toNat, bit, show 2 * i + (j - 2 * i) = j by omega]
    · rw [if_neg (by omega), if_neg (fun hc => hi hc.2)]

/-- A write of CISTERN_PWR changes neither a bank's state nor memory. -/
theorem State.cisternPwrWrite_frame (s : State) : (s.cisternPwrWrite k v).cist.st = s.cist.st ∧
    (s.cisternPwrWrite k v).mem = s.mem ∧ Keep s (s.cisternPwrWrite k v) := by
  rw [State.cisternPwrWrite_eq]
  refine List.foldlRecOn (motive := fun t => t.cist.st = s.cist.st ∧ t.mem = s.mem ∧ Keep s t) _ _
    ⟨rfl, rfl, Keep.rfl' s⟩ fun t ⟨hst, hmem, hkeep⟩ i _ => ?_
  have h := t.pwrField_asked k v i
  exact ⟨h.st.trans hst, h.mem.trans hmem, hkeep.trans h.keep⟩

/-- What field i makes of what held before it, and no other field undoes, holds after the write. -/
theorem State.cisternPwrWrite_at {i : Nat} (hi : i < 16) {before after : State → Prop}
    (hbefore : ∀ (t : State) j, j ≠ i → before t → before (t.pwrField k v j))
    (hstep : ∀ t : State, before t → after (t.pwrField k v i))
    (hafter : ∀ (t : State) j, j ≠ i → after t → after (t.pwrField k v j)) {s : State} (h : before s) :
    after (s.cisternPwrWrite k v) :=
  foldl_range_at hi hbefore hstep hafter h

/-- The register takes the value where no code is refused. -/
theorem State.cisternPwrWrite_reg (s : State) (h : ∀ i, i < 16 → pwrCode v i ≠ 3) :
    (s.cisternPwrWrite k v).reg (Reg.cisternPwr + 4 * k.val) = v := by
  refine BitVec.eq_of_getLsbD_eq fun j hj => ?_
  have hi : j / 2 < 16 := by omega
  refine State.cisternPwrWrite_at k v hi (before := fun _ => True)
    (after := fun t => bit (t.reg (Reg.cisternPwr + 4 * k.val)) j = bit v j)
    (fun _ _ _ _ => trivial) (fun t _ => ?_) (fun t i hne ht => ?_) trivial
  · rw [State.pwrField_bit k v t _ hj, if_pos ⟨h _ hi, rfl⟩]
  · rwa [State.pwrField_bit k v t _ hj, if_neg (fun hc => hne hc.2.symm)]

/-- Code 3 is recorded as refused. -/
theorem State.cisternPwrWrite_code3 (s : State) {i : Nat} (hi : i < 16) (h : pwrCode v i = 3) :
    bit ((s.cisternPwrWrite k v).reg Reg.cisternStat) 7 = true := by
  refine State.cisternPwrWrite_at k v hi (before := fun _ => True)
    (after := fun t => bit (t.reg Reg.cisternStat) 7 = true)
    (fun _ _ _ _ => trivial) (fun t _ => ?_) (fun t j _ => (t.pwrField_asked k v j).stat) trivial
  rw [State.pwrField_refused k v (bankCode_eq_none_iff.mpr h)]
  exact t.bit_setBit_same _ (by decide)

section
variable {i : Nat} (hi : i < 16) {x : BankSt} (h : bankCode (pwrCode v i) = some x)
include hi h

/-- The request for a bank that changes waits. -/
theorem State.cisternPwrWrite_waits {s : State} (hbusy : s.bankChanges (16 * k.val + i) = true) :
    (16 * k.val + i, x) ∈ (s.cisternPwrWrite k v).cist.req := by
  refine State.cisternPwrWrite_at k v hi (before := fun t => t.bankChanges (16 * k.val + i) = true)
    (after := fun t => (16 * k.val + i, x) ∈ t.cist.req) (fun t j hj ht => ?_) (fun t ht => ?_) (fun t j hj ht => ?_) hbusy
  · rwa [(t.pwrField_asked k v j).bankChanges (by omega)]
  · rw [State.pwrField_asks k v h, State.bankReq_waits (by exact ht)]
    simp
  · exact ((t.pwrField_asked k v j).req _ _ (by omega)).mpr ht

/-- The request for a bank that does not change begins a change, or is refused, or asks for the present state. -/
theorem State.cisternPwrWrite_begins {s : State} (hfree : s.bankChanges (16 * k.val + i) = false) :
    ((16 * k.val + i, x) ∈ (s.cisternPwrWrite k v).cist.chg ↔ s.bankTakes (16 * k.val + i) x) ∧
    (s.bankSt (16 * k.val + i) = .off → x = .retention →
      bit ((s.cisternPwrWrite k v).reg Reg.cisternStat) 7 = true) := by
  refine State.cisternPwrWrite_at k v hi
    (before := fun t => t.bankChanges (16 * k.val + i) = false ∧ t.bankSt (16 * k.val + i) = s.bankSt (16 * k.val + i))
    (after := fun t => ((16 * k.val + i, x) ∈ t.cist.chg ↔ s.bankTakes (16 * k.val + i) x) ∧
      (s.bankSt (16 * k.val + i) = .off → x = .retention → bit (t.reg Reg.cisternStat) 7 = true))
    (fun t j hj ⟨hfree', hst⟩ => ?_) (fun t ⟨hfree', hst⟩ => ?_) (fun t j hj ⟨hchg, hstat⟩ => ?_) ⟨hfree, rfl⟩
  · have hask := t.pwrField_asked k v j
    exact ⟨(hask.bankChanges (by omega)).trans hfree', (hask.bankSt _).trans hst⟩
  · rw [State.pwrField_asks k v h]
    refine ⟨(State.bankReq_mem_chg (by exact hfree') x).trans ?_, fun hoff hx => ?_⟩
    · rw [State.bankTakes, State.bankTakes, ← hst]
      rfl
    · subst hx
      exact State.bankReq_refused (by exact hfree') (hst.trans hoff)
  · have hask := t.pwrField_asked k v j
    exact ⟨(hask.chg _ _ (by omega)).trans hchg, fun ho hx => hask.stat (hstat ho hx)⟩

end

end

/-! ### The end of a change (06 R175) -/

/-- Bank n has reached x: from off every word is 0, at off the contents are lost; nothing of it changes or waits. -/
def State.bankReached (s : State) (n : Fin 64) (x : BankSt) : State :=
  { s with
    mem := if x = .off ∨ s.cist.st[n] = .off then (s.clearMem (bankBase n.val) (bankBase n.val + 0x80000)).mem else s.mem
    cist := { s.cist with
      st := vset s.cist.st n x
      chg := s.cist.chg.filter (·.1 != n.val)
      req := s.cist.req.filter (·.1 != n.val) } }

theorem State.bankReached_byte (s : State) (n : Fin 64) (x : BankSt) (a : Nat) : (s.bankReached n x).byte a =
    if (x = .off ∨ s.cist.st[n] = .off) ∧ bankBase n.val ≤ a ∧ a < bankBase n.val + 0x80000 then 0 else s.byte a := by
  by_cases h : x = .off ∨ s.cist.st[n] = .off
  · simp only [State.bankReached, State.byte, h, true_and]
    exact s.clearMem_byte _ _ a
  · simp only [State.bankReached, State.byte, h, false_and, if_false]

section
variable {s : State} {n : Fin 64} {x : BankSt} (hchg : s.cist.chg = [(n.val, x)])
include hchg

/-- The bank's change ends, and its waiting request begins. -/
theorem State.bankEnd_eq : s.bankEnd n = (s.cist.req.find? (·.1 == n.val)).elim (s.bankReached n x)
    (fun r => (s.bankReached n x).bankTo n.val r.2) := by
  have hfind : s.cist.chg.find? (·.1 == n.val) = some (n.val, x) := by simp [hchg]
  unfold State.bankEnd State.bankReached
  rw [hfind]
  by_cases h : x = .off ∨ s.cist.st[n] = .off
  · simp only [h, if_true, State.clearMem_cist]
    cases s.cist.req.find? (·.1 == n.val) <;> rfl
  · simp only [h, if_false]
    cases s.cist.req.find? (·.1 == n.val) <;> rfl

theorem State.bankEnd_idle (hreq : s.cist.req = []) : s.bankEnd n = s.bankReached n x := by
  rw [State.bankEnd_eq hchg, hreq]
  rfl

theorem State.bankEnd_next {y : BankSt} (hreq : s.cist.req = [(n.val, y)]) :
    s.bankEnd n = (s.bankReached n x).bankTo n.val y := by
  have hfind : s.cist.req.find? (·.1 == n.val) = some (n.val, y) := by simp [hreq]
  rw [State.bankEnd_eq hchg, hfind]
  rfl

/-- The end of a change sets the bank's state and its memory; what begins then touches neither. -/
theorem State.bankEnd_frame : (s.bankEnd n).cist.st = vset s.cist.st n x ∧ (s.bankEnd n).mem = (s.bankReached n x).mem ∧
    Keep s (s.bankEnd n) := by
  rw [State.bankEnd_eq hchg]
  cases s.cist.req.find? (·.1 == n.val) with
  | none => exact ⟨rfl, rfl, rfl, rfl⟩
  | some r =>
    have hnext := (s.bankReached n x).bankTo_asked n.val r.2
    exact ⟨hnext.st, hnext.mem, hnext.keep⟩

/-- BANK_STATE_CHANGE_END of a bank whose accesses have completed. -/
theorem execBankStateChangeEnd_done (hmode : s.mode ≠ .off) (hbusy : s.portBusy n.val = false) :
    execBankStateChangeEnd n s = .next (s.bankEnd n) := by
  obtain ⟨-, -, hkeep⟩ := State.bankEnd_frame hchg
  rw [execBankStateChangeEnd, when_true (by rw [hbusy, Bool.not_false, Bool.and_true]; exact bne_iff_ne.mpr hmode)]
  exact done_keep hkeep.1 hkeep.2

end

section
variable {s : State} {n : Fin 64} {x y : BankSt}

/-- While an accepted access has not completed, neither the change nor a new owner takes effect (06 R175, R177). -/
theorem execBankStateChangeEnd_busy (h : s.portBusy n.val = true) : execBankStateChangeEnd n s = .next s :=
  when_false (by rw [h, Bool.not_true, Bool.and_false]) s _

theorem execOwnerChangeEffective_busy (h : s.portBusy n.val = true) : execOwnerChangeEffective n s = .next s :=
  when_false (by rw [h, Bool.not_true, Bool.and_false]) s _

theorem State.bankReached_only (hchg : s.cist.chg = [(n.val, x)]) : (s.bankReached n x).cist.chg = [] := by
  simp [State.bankReached, hchg]

/-- The waiting request begins from the state that the bank has reached. -/
theorem State.bankReached_takes : (s.bankReached n x).bankTakes n.val y ↔ y ≠ x ∧ ¬ (x = .off ∧ y = .retention) := by
  have hst : (s.bankReached n x).bankSt n.val = x := by
    simp [State.bankSt, State.bankReached, vset]
  rw [State.bankTakes, hst]
  exact and_congr_left fun _ => ne_comm

end

/-! ### The owner of port B (06 R172, R177) -/

theorem ofHalves_eq_append (hi lo : Word) : ofHalves hi lo = hi ++ lo := by
  refine BitVec.eq_of_getLsbD_eq fun i hi64 => ?_
  simp only [ofHalves, BitVec.getLsbD_or, BitVec.getLsbD_shiftLeft, BitVec.getLsbD_setWidth, BitVec.getLsbD_append]
  by_cases h : i < 32
  · simp [h, show i < 64 by omega]
  · simp [h, show i < 64 by omega, show i - 32 < 64 by omega, BitVec.getLsbD_of_ge lo i (by omega)]

/-- CISTERN_PORTB_OWNER: one half of the owner is written. -/
theorem execCisternPortbOwner_admitted {s : State} {q : Requester} {hi : Bool} (v : Word)
    (h : s.admitted q true (if hi then Reg.cisternPortbOwnerHi else Reg.cisternPortbOwnerLo) = true) :
    execCisternPortbOwner q hi v s = .next { s with cist := { s.cist with
      owner := if hi then v ++ s.cist.owner.setWidth 32 else (s.cist.owner >>> 32).setWidth 32 ++ v } } := by
  obtain ⟨hal, hcode⟩ := State.admitted_iff.mp h
  rw [execCisternPortbOwner, regWrite_admitted _ hal hcode, State.ownerWrite, ofHalves_eq_append, ofHalves_eq_append]
  exact done_keep rfl rfl

/-- The owners in effect once bank n's new one is. -/
def Cist.effective (c : Cist) (n : Fin 64) : BitVec 64 := (c.eff &&& ~~~(1#64 <<< n.val)) ||| (c.owner &&& (1#64 <<< n.val))

/-- The owner that is written becomes effective for bank n alone. -/
theorem Cist.effective_getLsbD (c : Cist) (n : Fin 64) {i : Nat} (hi : i < 64) :
    (c.effective n).getLsbD i = if i = n.val then c.owner.getLsbD i else c.eff.getLsbD i := by
  have hbit : (1#64 <<< n.val).getLsbD i = decide (i = n.val) := by
    rw [← BitVec.twoPow_eq, BitVec.getLsbD_twoPow]
    simp [n.isLt, eq_comm]
  rw [Cist.effective, BitVec.getLsbD_or, BitVec.getLsbD_and, BitVec.getLsbD_and, BitVec.getLsbD_not, hbit]
  by_cases h : i = n.val <;> simp [h, hi]

theorem execOwnerChangeEffective_done {s : State} {n : Fin 64} (hal : s.alive = true) (h : s.portBusy n.val = false) :
    execOwnerChangeEffective n s = .next { s with cist := { s.cist with eff := s.cist.effective n } } := by
  rw [execOwnerChangeEffective, when_true (by rw [hal, h]; rfl)]
  exact done_keep rfl rfl

end Sys2Proof.Machine
end

section
/-! The edge fabric's cistern ports: bytes written under byte enables, a write accepted at port B beside one at port A,
completions; the wipe of the secure cistern (06 R172, R176, R177, R180, R181; 07 R214, R216, R220). -/
namespace Sys2Proof.Machine

/-! ### Bytes under byte enables -/

theorem ofNat_byte_of_word {m : Nat} (w : BitVec m) (i : Nat) :
    BitVec.ofNat 8 (w.toNat / 256 ^ i) = (w >>> (8 * i)).setWidth 8 := by
  refine BitVec.eq_of_toNat_eq ?_
  rw [BitVec.toNat_setWidth, BitVec.toNat_ushiftRight, Nat.shiftRight_eq_div_pow, Nat.pow_mul, BitVec.toNat_ofNat]

/-- Of the n bytes from a upwards those whose enable is set take their byte of w. -/
theorem State.putBe_byte (s : State) (a n : Nat) {m k : Nat} (w : BitVec m) (be : BitVec k) (x : Nat) :
    (s.putBe a n w.toNat be.toNat).byte x = if a ≤ x ∧ x < a + n ∧ be.getLsbD (x - a) = true then
      (w >>> (8 * (x - a))).setWidth 8 else s.byte x := by
  induction n with
  | zero => exact (if_neg (by omega)).symm
  | succ n ih =>
    have hsucc : s.putBe a (n + 1) w.toNat be.toNat = if be.getLsbD n then
        (s.putBe a n w.toNat be.toNat).setByte (a + n) (BitVec.ofNat 8 (w.toNat / 256 ^ n))
        else s.putBe a n w.toNat be.toNat := by
      rw [State.putBe, List.range_succ, List.foldl_append, List.foldl_cons, List.foldl_nil, BitVec.testBit_toNat]
      rfl
    rw [hsucc]
    by_cases hx : x = a + n
    · subst hx
      rw [Nat.add_sub_cancel_left] at ih ⊢
      cases hbe : be.getLsbD n
      · rw [if_neg Bool.false_ne_true, ih, if_neg (by omega), if_neg (by simp)]
      · rw [if_pos rfl, State.setByte_byte_same, if_pos (by simp), ofNat_byte_of_word]
    · have hrange : (a ≤ x ∧ x < a + (n + 1) ∧ be.getLsbD (x - a) = true) ↔
          (a ≤ x ∧ x < a + n ∧ be.getLsbD (x - a) = true) := by
        constructor <;> intro ⟨h1, h2, h3⟩ <;> exact ⟨h1, by omega, h3⟩
      simp only [hrange]
      split
      · rw [State.setByte_byte_other _ _ _ _ hx, ih]
      · exact ih

theorem State.byte_of_mem {s t : State} (h : t.mem = s.mem) (x : Nat) : t.byte x = s.byte x := by
  rw [State.byte, State.byte, h]

theorem State.memNat_of_mem {s t : State} (h : t.mem = s.mem) (a n : Nat) : t.memNat a n = s.memNat a n := by
  induction n generalizing a with
  | zero => rfl
  | succ n ih => rw [State.memNat, State.memNat, ih, State.byte_of_mem h]

theorem State.reg_of_regs {s t : State} (h : t.regs = s.regs) (a : Nat) : t.reg a = s.reg a := by
  rw [State.reg, State.reg, h]

theorem State.Noted.mem {s t : State} {log : List Nat} (h : s.Noted t log) : t.mem = s.mem := by rw [h.frame]

theorem State.Noted.cist {s t : State} {log : List Nat} (h : s.Noted t log) : t.cist = s.cist := by rw [h.frame]

/-! ### A refused access of port B (06 R177) -/

theorem State.portRefused_noted (s : State) (n : Nat) : s.Noted (s.portRefused n) [Reg.cisternStat] :=
  ((s.setFld_noted _ 5 0 n).trans (State.setBit_noted _ _ 6)).mono (by simp)

/-- CISTERN_STAT names the bank and says that the access was refused. -/
theorem State.portRefused_recorded (s : State) {n : Nat} (hn : n < 64) :
    bit ((s.portRefused n).reg Reg.cisternStat) 6 = true ∧ (s.portRefused n).fld Reg.cisternStat 5 0 = n := by
  refine ⟨State.bit_setBit_same _ _ (by decide), ?_⟩
  rw [State.portRefused, State.setBit, State.fld_setFld_disjoint _ _ _ _ _ _ _ (by decide) (by decide),
    State.fld_setFld_same _ _ _ _ _ (by decide)]
  exact Nat.mod_eq_of_lt hn

/-! ### CW_REQ (06 R176, R177; 07 R220) -/

/-- The address of word a of 32 bytes. -/
def portAddr (a : BitVec 20) : Nat := 0x10000000 + 32 * a.toNat

/-- The 64-byte word of memory in which it lies. -/
def portWord (a : BitVec 20) : Nat := portAddr a / 64 * 64

/-- The bank of word a. -/
def portBank (a : BitVec 20) : Nat := a.toNat / 16384

/-- The bank's collision counter. -/
def portColl (a : BitVec 20) : Nat := Reg.cisternColl + 4 * portBank a

theorem portBank_lt (a : BitVec 20) : portBank a < 64 := by
  have := a.isLt
  unfold portBank
  omega

theorem cisternColl_ne_stat (n : Nat) : Reg.cisternColl + 4 * n ≠ Reg.cisternStat := by
  have : Reg.cisternStat < Reg.cisternColl := by decide
  omega

/-- What port A writes in the cycle of a port-B write of word a; it collides where port B writes too. -/
def State.portAWritten (s : State) (a : BitVec 20) : Option (BitVec 512 × BitVec 64) → State
  | some (w, wbe) =>
    if s.bankOn (portBank a) then
      let t := s.putBe (portWord a) 64 w.toNat wbe.toNat
      if s.fabricOwns (portBank a) then t.countEv (portColl a) 15 0 (portColl a) 16 1
      else t
    else s
  | none => s

/-- What is written in the cycle of a port-B write of word a: port A's bytes, then port B's, or its refusal. -/
def State.portsWritten (s : State) (a : BitVec 20) (v : BitVec 256) (be : BitVec 32)
    (portA : Option (BitVec 512 × BitVec 64)) : State :=
  if s.fabricOwns (portBank a) then (s.portAWritten a portA).putBe (portAddr a) 32 v.toNat be.toNat
  else (s.portAWritten a portA).portRefused (portBank a)

/-- Write e stands last in port p's queue. -/
def State.cwQueued (s : State) (p : Fin 8) (e : CwEntry) : State :=
  { s with cist := { s.cist with cw := vset s.cist.cw p (s.cist.cw[p] ++ [e]) } }

section
variable {s : State} {a : BitVec 20} {v : BitVec 256} {be : BitVec 32} {portA : Option (BitVec 512 × BitVec 64)}

/-- Port A's write changes memory where the bank is on, and the collision counter at most. -/
theorem State.portAWritten_some (w : BitVec 512) (wbe : BitVec 64) : ∃ l, s.portAWritten a (some (w, wbe)) = { s with
      mem := (if s.bankOn (portBank a) then s.putBe (portWord a) 64 w.toNat wbe.toNat else s).mem, regs := l } ∧
    (s.fabricOwns (portBank a) = false → l = s.regs) := by
  have hput := (putBe_memOnly (portWord a) 64 w.toNat wbe.toNat).frame s
  cases hon : s.bankOn (portBank a)
  · exact ⟨s.regs, if_neg (by simp [hon]), fun _ => rfl⟩
  cases hown : s.fabricOwns (portBank a)
  · exact ⟨s.regs, ((if_pos hon).trans (if_neg (by simp [hown]))).trans hput, fun _ => rfl⟩
  · obtain ⟨l, hcount⟩ := (s.putBe (portWord a) 64 w.toNat wbe.toNat).countEv_regs (portColl a) 15 0 (portColl a) 16 1
    rw [hput] at hcount
    refine ⟨l, ((if_pos hon).trans (if_pos hown)).trans ?_, fun h => absurd h (by simp)⟩
    rw [hput, hcount]
    rfl

theorem State.portAWritten_frame : ∃ m l, s.portAWritten a portA = { s with mem := m, regs := l } := by
  cases portA with
  | none => exact ⟨s.mem, s.regs, rfl⟩
  | some wp =>
    obtain ⟨l, h, -⟩ := s.portAWritten_some (a := a) wp.1 wp.2
    exact ⟨_, l, h⟩

theorem State.portAWritten_regs (hown : s.fabricOwns (portBank a) = false) : (s.portAWritten a portA).regs = s.regs := by
  cases portA with
  | none => rfl
  | some wp =>
    obtain ⟨l, h, hl⟩ := s.portAWritten_some (a := a) wp.1 wp.2
    exact (congrArg State.regs h).trans (hl hown)

/-- Both ports change memory and stored words alone. -/
theorem State.portsWritten_frame : ∃ m l, s.portsWritten a v be portA = { s with mem := m, regs := l } := by
  obtain ⟨m, l, hA⟩ := s.portAWritten_frame (a := a) (portA := portA)
  unfold State.portsWritten
  rw [hA]
  split
  · exact ⟨_, l, (putBe_memOnly _ _ _ _).frame { s with mem := m, regs := l }⟩
  · exact ⟨m, _, rfl⟩

/-- Port A's bytes are written where the bank is on. -/
theorem State.portAWritten_byte (w : BitVec 512) (wbe : BitVec 64) (x : Nat) : (s.portAWritten a (some (w, wbe))).byte x =
    if s.bankOn (portBank a) = true ∧ portWord a ≤ x ∧ x < portWord a + 64 ∧
      wbe.getLsbD (x - portWord a) = true then (w >>> (8 * (x - portWord a))).setWidth 8 else s.byte x := by
  obtain ⟨l, h, -⟩ := s.portAWritten_some (a := a) w wbe
  rw [State.byte_of_mem (congrArg State.mem h)]
  cases hon : s.bankOn (portBank a)
  · simp only [Bool.false_eq_true, if_false, false_and]
    rfl
  · simp only [if_true, true_and]
    exact s.putBe_byte (portWord a) 64 w wbe x

theorem State.portAWritten_byte_at (w : BitVec 512) (wbe : BitVec 64) {i : Nat} (hi : i < 64) :
    (s.portAWritten a (some (w, wbe))).byte (portWord a + i) =
      if s.bankOn (portBank a) = true ∧ wbe.getLsbD i = true then (w >>> (8 * i)).setWidth 8
      else s.byte (portWord a + i) := by
  rw [State.portAWritten_byte, Nat.add_sub_cancel_left]
  simp only [Nat.le_add_right, Nat.add_lt_add_left hi, true_and]

/-- Port B's bytes win. -/
theorem State.portsWritten_byte (x : Nat) : (s.portsWritten a v be portA).byte x =
    if s.fabricOwns (portBank a) = true ∧ portAddr a ≤ x ∧ x < portAddr a + 32 ∧ be.getLsbD (x - portAddr a) = true then
      (v >>> (8 * (x - portAddr a))).setWidth 8 else (s.portAWritten a portA).byte x := by
  unfold State.portsWritten
  cases hown : s.fabricOwns (portBank a)
  · simp only [Bool.false_eq_true, if_false, false_and]
    rfl
  · simp only [if_true, true_and]
    exact State.putBe_byte _ _ _ v be x

theorem State.portsWritten_byte_at {i : Nat} (hi : i < 32) : (s.portsWritten a v be portA).byte (portAddr a + i) =
    if s.fabricOwns (portBank a) = true ∧ be.getLsbD i = true then (v >>> (8 * i)).setWidth 8
    else (s.portAWritten a portA).byte (portAddr a + i) := by
  rw [State.portsWritten_byte, Nat.add_sub_cancel_left]
  simp only [Nat.le_add_right, Nat.add_lt_add_left hi, true_and]

/-- Outside the 64-byte word neither port writes. -/
theorem State.portsWritten_byte_outside (w : BitVec 512) (wbe : BitVec 64) {x : Nat}
    (hx : x < portWord a ∨ portWord a + 64 ≤ x) :
    (s.portsWritten a v be (some (w, wbe))).byte x = s.byte x := by
  have hB : ¬ (portAddr a ≤ x ∧ x < portAddr a + 32) := by
    unfold portWord portAddr at hx
    unfold portAddr
    omega
  rw [State.portsWritten_byte, if_neg (fun ⟨_, hlo, hhi, _⟩ => hB ⟨hlo, hhi⟩), State.portAWritten_byte, if_neg (by omega)]

theorem State.portsWritten_regs (hown : s.fabricOwns (portBank a) = true) :
    (s.portsWritten a v be portA).regs = (s.portAWritten a portA).regs := by
  rw [State.portsWritten, if_pos hown, (putBe_memOnly _ _ _ _).frame]

/-- A refused write is recorded, and changes no other word. -/
theorem State.portsWritten_refused (hown : s.fabricOwns (portBank a) = false) :
    bit ((s.portsWritten a v be portA).reg Reg.cisternStat) 6 = true ∧
    (s.portsWritten a v be portA).fld Reg.cisternStat 5 0 = portBank a ∧
    ∀ r, r ≠ Reg.cisternStat → (s.portsWritten a v be portA).reg r = s.reg r := by
  have hrec := (s.portAWritten a portA).portRefused_recorded (portBank_lt a)
  rw [State.portsWritten, hown, if_neg Bool.false_ne_true]
  refine ⟨hrec.1, hrec.2, fun r hr => ?_⟩
  rw [(State.portRefused_noted _ _).others r (by simpa using hr), State.reg_of_regs (State.portAWritten_regs hown)]

/-- A write of both ports to one word is counted as a collision of its bank. -/
theorem State.portsWritten_collision (hown : s.fabricOwns (portBank a) = true) (w : BitVec 512) (wbe : BitVec 64)
    (hroom : s.fld (portColl a) 15 0 < 65535) :
    (s.portsWritten a v be (some (w, wbe))).fld (portColl a) 15 0 = s.fld (portColl a) 15 0 + 1 := by
  obtain ⟨-, hon⟩ := (Bool.and_eq_true _ _).mp hown
  have hput : (s.putBe (portWord a) 64 w.toNat wbe.toNat).fld (portColl a) 15 0 = s.fld (portColl a) 15 0 := by
    rw [(putBe_memOnly _ _ _ _).frame]
    rfl
  rw [State.fld_of_reg_eq (State.reg_of_regs (State.portsWritten_regs hown) _), State.portAWritten, if_pos hon, if_pos hown,
    State.countEv_fld_of_lt _ (by rwa [hput]), hput]

/-- CW_REQ at an active bay's port with room: the write is accepted, whether served or refused. -/
theorem execCwReq_accepted {p : Fin 8} (hact : s.bayActive p.val = true) (hroom : s.cist.cw[p].length < 16) :
    ∃ t, execCwReq p a v be portA s = .next t ∧
      t.cist.cw[p] = s.cist.cw[p] ++ [⟨a.toNat, v, be, s.fabricOwns (portBank a), false⟩] ∧
      t.mem = (s.portsWritten a v be portA).mem ∧ t.regs = (s.portsWritten a v be portA).regs := by
  obtain ⟨m, l, hframe⟩ := s.portsWritten_frame (a := a) (v := v) (be := be) (portA := portA)
  have hexec : execCwReq p a v be portA s =
      done s ((s.portsWritten a v be portA).cwQueued p ⟨a.toNat, v, be, s.fabricOwns (portBank a), false⟩) := by
    rw [execCwReq, when_true (by rw [hact, decide_eq_true hroom]; rfl)]
    cases portA <;> rfl
  rw [hexec, hframe]
  exact ⟨_, done_keep rfl rfl, vset_get_same _ _ _, rfl, rfl⟩

end

/-! ### CR_REQ and the completions (07 R214, R216, R220; 06 R173) -/

section
variable {s : State} {p : Fin 8}

/-- CR_REQ at an active bay's port: the read is accepted, and a refused one recorded. -/
theorem execCrReq_accepted (a : BitVec 20) (hact : s.bayActive p.val = true) : ∃ t, execCrReq p a s = .next t ∧
    t.cist.cr[p] = s.cist.cr[p] ++ [⟨a.toNat, s.fabricOwns (portBank a), false⟩] ∧ t.mem = s.mem ∧
    (s.fabricOwns (portBank a) = true → t.regs = s.regs) ∧
    (s.fabricOwns (portBank a) = false →
      bit (t.reg Reg.cisternStat) 6 = true ∧ t.fld Reg.cisternStat 5 0 = portBank a) := by
  have hrec := s.portRefused_recorded (portBank_lt a)
  rw [execCrReq, when_true hact, ← portBank]
  dsimp only
  cases hown : s.fabricOwns (portBank a)
  · exact ⟨_, done_keep rfl rfl, vset_get_same _ _ _, rfl, fun h => absurd h (by simp), fun _ => hrec⟩
  · exact ⟨_, done_keep rfl rfl, vset_get_same _ _ _, rfl, fun _ => rfl, fun h => absurd h (by simp)⟩

/-- The state in which the oldest write e of port p has completed, and l is left of its queue; its bay hears of it unless it
is inactive or the access is from before a stop or an isolation. -/
def State.cwDone (s : State) (p : Fin 8) (e : CwEntry) (l : List CwEntry) : State :=
  { s with cist := { s.cist with
      cw := vset s.cist.cw p l
      cwRsp := if s.bayActive p.val && !e.lost then vset s.cist.cwRsp p (s.cist.cwRsp[p].1 + 1, !e.ok) else s.cist.cwRsp } }

/-- CW_DONE: the oldest write of port p completes. -/
theorem execCwDone_cons {e : CwEntry} {l : List CwEntry} (hal : s.alive = true) (h : s.cist.cw[p] = e :: l) :
    execCwDone p s = .next (s.cwDone p e l) := by
  rw [execCwDone, when_true hal, h]
  exact done_keep rfl rfl

theorem State.cwDone_heard {e : CwEntry} (l : List CwEntry) (hact : s.bayActive p.val = true) (hlost : e.lost = false) :
    (s.cwDone p e l).cist.cwRsp[p] = (s.cist.cwRsp[p].1 + 1, !e.ok) := by
  rw [State.cwDone, hact, hlost]
  exact vset_get_same _ _ _

theorem State.cwDone_discarded {e : CwEntry} (l : List CwEntry) (h : s.bayActive p.val = false ∨ e.lost = true) :
    (s.cwDone p e l).cist.cwRsp = s.cist.cwRsp :=
  if_neg (by obtain h | h := h <;> simp [h])

/-- What a read that was accepted, or refused, returns in state s: 32 bytes, or 0 with an error. -/
def State.crReturned (s : State) (e : CrEntry) (ecc : Ecc) : BitVec 256 × Bool :=
  if e.ok = true ∧ ecc ≠ .lost then (BitVec.ofNat 256 (s.memNat (0x10000000 + 32 * e.a) 32), false) else (0, true)

theorem State.crReturned_of_mem {s t : State} (h : t.mem = s.mem) (e : CrEntry) (ecc : Ecc) :
    t.crReturned e ecc = s.crReturned e ecc := by
  rw [State.crReturned, State.crReturned, State.memNat_of_mem h]

/-- The state in which the oldest read e of port p has returned, and l is left of its queue. -/
def State.crDone (s : State) (p : Fin 8) (e : CrEntry) (l : List CrEntry) (ecc : Ecc) : State :=
  { s with cist := { s.cist with
      cr := vset s.cist.cr p l
      crRsp := if s.bayActive p.val && !e.lost then vset s.cist.crRsp p (s.crReturned e ecc) else s.cist.crRsp } }

theorem State.crDone_heard {e : CrEntry} (l : List CrEntry) (ecc : Ecc) (hact : s.bayActive p.val = true)
    (hlost : e.lost = false) : (s.crDone p e l ecc).cist.crRsp[p] = s.crReturned e ecc := by
  rw [State.crDone, hact, hlost]
  exact vset_get_same _ _ _

theorem State.crDone_discarded {e : CrEntry} (l : List CrEntry) (ecc : Ecc)
    (h : s.bayActive p.val = false ∨ e.lost = true) : (s.crDone p e l ecc).cist.crRsp = s.cist.crRsp :=
  if_neg (by obtain h | h := h <;> simp [h])

/-- CR_DVALID: the oldest read of port p returns; an error of its word is noted. -/
theorem execCrDvalid_cons {e : CrEntry} {l : List CrEntry} (hal : s.alive = true) (h : s.cist.cr[p] = e :: l) (ecc : Ecc) :
    ∃ t, execCrDvalid p ecc s = .next t ∧ t.mem = s.mem ∧ (ecc = .clean → t.regs = s.regs) ∧
      t.cist = (s.crDone p e l ecc).cist := by
  let u : State := if e.ok then s.memEcc (0x10000000 + 32 * e.a) ecc else s
  have hexec : execCrDvalid p ecc s = done s (u.crDone p e l ecc) := by
    have hreturned : u.crReturned e ecc = (if (e.ok && ecc != .lost) = true then
        BitVec.ofNat 256 (u.memNat (0x10000000 + 32 * e.a) 32) else 0, !(e.ok && ecc != .lost)) := by
      unfold State.crReturned
      cases e.ok <;> cases ecc <;> rfl
    rw [execCrDvalid, when_true hal, h, State.crDone, hreturned]
  have hclean (hc : ecc = .clean) : u.regs = s.regs := by
    subst hc
    exact congrArg State.regs (ite_self s)
  obtain ⟨log, hnoted⟩ : ∃ log, s.Noted u log := by
    show ∃ log, s.Noted (if e.ok then s.memEcc (0x10000000 + 32 * e.a) ecc else s) log
    split
    · exact s.memEcc_noted _ ecc
    · exact ⟨[], s.noted_refl []⟩
  have hact : u.bayActive p.val = s.bayActive p.val := by rw [hnoted.frame]; rfl
  refine ⟨_, hexec.trans (done_keep hnoted.keep.1 hnoted.keep.2), hnoted.mem, hclean, ?_⟩
  rw [State.crDone, State.crDone, State.crReturned_of_mem hnoted.mem, hact, hnoted.cist]

end

/-! ### The secure cistern (06 R180, R181) -/

/-- WIPE triggers a wipe, and records its cause. -/
theorem execWipe_admitted {s : State} {q : Requester} (h : s.admitted q true Reg.cisternSecCtl = true) :
    execWipe q s = .next (s.startWipe 6) := by
  obtain ⟨hal, hcode⟩ := State.admitted_iff.mp h
  rw [execWipe, regWrite_admitted _ hal hcode]
  exact done_keep rfl rfl

/-- The state once a wipe has ended: memory is cleared where it verifies, and its failure is remembered. -/
def State.wiped (s : State) (ok : Bool) : State :=
  { s.setBit Reg.cisternSecStat 0 with
    mem := if ok then (s.clearMem 0x1F000000 0x1F020000).mem else s.mem
    cist := { s.cist with wiping := false, verifyFail := s.cist.verifyFail || !ok } }

theorem State.wiped_byte (s : State) (ok : Bool) (x : Nat) : (s.wiped ok).byte x =
    if ok = true ∧ 0x1F000000 ≤ x ∧ x < 0x1F020000 then 0 else s.byte x := by
  cases ok
  · rfl
  · exact (s.clearMem_byte 0x1F000000 0x1F020000 x).trans (by simp)

theorem execWipeComplete_wiping {s : State} (hmode : s.mode ≠ .off) (hwiping : s.cist.wiping = true) (ok : Bool) :
    execWipeComplete ok s = .next (s.wiped ok) := by
  rw [execWipeComplete, when_true (bne_iff_ne.mpr hmode), State.wipeEnd, hwiping]
  cases ok <;> exact done_keep rfl rfl

end Sys2Proof.Machine
end

section
open Sys2Proof Sys2Proof.Machine

/-- Settles O40: a write of CISTERN_PWR by what each field makes of its bank, the end of a change by bankReached, a write of
the fabric, with or without one of port A beside it, by portsWritten. -/
theorem cisternCommands : Obligations.CisternCommands := by
  unfold Obligations.CisternCommands
  intro s q n p a k v bank quiet reg code lo addr b owns refusal
  refine ⟨?power, ?changeEnds, ?busy, ?owner, ?effective, ?write, ?writeBoth, ?writeDone, ?read, ?readDone, ?wipe,
    ?wipeEnds⟩
  case power =>
    intro hadm
    obtain ⟨hal, hcode⟩ := State.admitted_iff.mp hadm
    obtain ⟨hst, hmem, hkeep⟩ := State.cisternPwrWrite_frame k v s
    have hexec : exec (.cisternPwr q k v) s = .next (s.cisternPwrWrite k v) :=
      (congrArg (done s) (regWrite_admitted _ hal hcode)).trans (done_keep hkeep.1 hkeep.2)
    refine ⟨_, hexec, hst, hmem, State.cisternPwrWrite_reg k v s,
      fun ⟨i, hi, h3⟩ => State.cisternPwrWrite_code3 k v s hi h3,
      fun i x hi hx => ⟨fun hbusy => State.cisternPwrWrite_waits k v hi hx hbusy, fun ⟨hchg, _⟩ => ?_⟩⟩
    have hfree : s.bankChanges (16 * k.val + i) = false := by rw [State.bankChanges, hchg]; rfl
    exact State.cisternPwrWrite_begins k v hi hx hfree
  case changeEnds =>
    intro x hmode hbusy hchg
    obtain ⟨hst, hmem, -⟩ := State.bankEnd_frame hchg
    refine ⟨s.bankEnd n, execBankStateChangeEnd_done hchg hmode hbusy, by rw [hst, vset_get_same],
      fun m hm => by rw [hst, vset_get_other _ _ _ _ hm], fun hreq => ?_, fun y hreq hne hret => ?_, fun y hy => ?_,
      fun y hlo hhi => ?_⟩
    · rw [State.bankEnd_idle hchg hreq]
      exact ⟨State.bankReached_only hchg, rfl⟩
    · rw [State.bankEnd_next hchg hreq, State.bankTo_begins (State.bankReached_takes.mpr ⟨hne, hret⟩)]
      exact ⟨by rw [State.bankReached_only hchg]; rfl, by simp [State.bankReached, hreq]⟩
    · rw [State.byte_of_mem hmem, State.bankReached_byte, if_neg (fun h => by unfold bankBase at h; omega)]
    · have hbank : bankBase n.val ≤ y ∧ y < bankBase n.val + 0x80000 := ⟨hlo, hhi⟩
      rw [State.byte_of_mem hmem, State.bankReached_byte]
      simp only [hbank, and_true]
  case busy => exact fun hbusy => ⟨execBankStateChangeEnd_busy hbusy, execOwnerChangeEffective_busy hbusy⟩
  case owner => exact fun hi hadm => execCisternPortbOwner_admitted v hadm
  case effective =>
    exact fun hal hbusy => ⟨_, execOwnerChangeEffective_done hal hbusy, fun i hi => s.cist.effective_getLsbD n hi⟩
  case write =>
    intro w be hact hroom
    obtain ⟨t, hexec, hqueue, hmem, hregs⟩ := execCwReq_accepted (a := a) (v := w) (be := be) (portA := none) hact hroom
    refine ⟨t, hexec, hqueue, fun x hx => ?_,
      fun i hi => (State.byte_of_mem hmem _).trans (State.portsWritten_byte_at hi),
      fun hown => hregs.trans (State.portsWritten_regs hown), fun hown => ?_⟩
    · rw [State.byte_of_mem hmem, State.portsWritten_byte, if_neg (by unfold portAddr; omega)]
      rfl
    · obtain ⟨hbit, hfld, -⟩ := State.portsWritten_refused (v := w) (be := be) (portA := none) hown
      rw [← State.reg_of_regs hregs] at hbit
      exact ⟨hbit, (State.fld_of_reg_eq (State.reg_of_regs hregs _) 5 0).trans hfld⟩
  case writeBoth =>
    intro w be pa pbe hact hroom c base portA
    obtain ⟨t, hexec, hqueue, hmem, hregs⟩ :=
      execCwReq_accepted (a := a) (v := w) (be := be) (portA := some (pa, pbe)) hact hroom
    have hreg := State.reg_of_regs hregs
    refine ⟨t, hexec, hqueue, fun hown hcount => ?_, fun hown => ?_,
      fun x hx => (State.byte_of_mem hmem x).trans (State.portsWritten_byte_outside pa pbe hx), fun i hi => ?_⟩
    · exact (State.fld_of_reg_eq (hreg c) 15 0).trans (State.portsWritten_collision hown pa pbe hcount)
    · obtain ⟨hbit, hfld, hother⟩ := State.portsWritten_refused (v := w) (be := be) (portA := some (pa, pbe)) hown
      rw [← hreg] at hbit
      exact ⟨(hreg c).trans (hother c (cisternColl_ne_stat b)), hbit, (State.fld_of_reg_eq (hreg _) 5 0).trans hfld⟩
    · have hA : (s.portAWritten a (some (pa, pbe))).byte (base + i) = portA i := State.portAWritten_byte_at pa pbe hi
      rw [State.byte_of_mem hmem, State.portsWritten_byte, hA]
      rfl
  case writeDone =>
    exact fun e l hal hqueue => ⟨_, execCwDone_cons hal hqueue, vset_get_same _ _ _, rfl, rfl,
      fun hact hlost => State.cwDone_heard l hact hlost, fun h => State.cwDone_discarded l h⟩
  case read => exact fun hact => execCrReq_accepted a hact
  case readDone =>
    intro e l ecc hal hqueue
    obtain ⟨t, hexec, hmem, hregs, hcist⟩ := execCrDvalid_cons hal hqueue ecc
    exact ⟨t, hexec, by rw [hcist]; exact vset_get_same _ _ _, hmem, hregs,
      fun hact hlost => by rw [hcist]; exact State.crDone_heard l ecc hact hlost,
      fun h => by rw [hcist]; exact State.crDone_discarded l ecc h⟩
  case wipe => exact fun hadm => ⟨_, execWipe_admitted hadm, rfl, s.bit_setBit_same _ (by decide), rfl⟩
  case wipeEnds =>
    intro ok hmode hwiping
    refine ⟨_, execWipeComplete_wiping hmode hwiping ok, rfl, s.bit_setBit_same _ (by decide), fun x hx => ?_,
      fun x hlo hhi => (s.wiped_byte ok x).trans (by simp only [hlo, hhi, and_true])⟩
    rw [State.wiped_byte, if_neg (by omega)]

end

section
/-! The valve's slot grid and one cycle of a burst request: what each writes, and what it leaves of its link (08 R233,
R237 to R239). -/
namespace Sys2Proof.Machine

/-! ### The link that a command is about -/

@[simp] theorem State.setVLink_link_same (s : State) (k : Fin 4) (l : VLink) : (s.setVLink k l).valve.link[k] = l :=
  vset_get_same _ _ _

/-- Counting at the valve writes stored words only. -/
theorem State.valveCount_regs (s : State) (k : Fin 4) (which n : Nat) :
    ∃ l, s.valveCount k which n = { s with regs := l } := s.countWord_regs _ _ _ n

@[simp] theorem State.valveCount_valve (s : State) (k : Fin 4) (which n : Nat) : (s.valveCount k which n).valve = s.valve := by
  obtain ⟨l, hl⟩ := s.valveCount_regs k which n
  rw [hl]

theorem State.valveCount_txCfg (s : State) (k : Fin 4) (which n : Nat) :
    (s.valveCount k which n).txCfg k.val = s.txCfg k.val := by
  refine (s.countWord_noted _ _ _ _).others _ ?_
  simp only [Reg.jesdTxcfg, Reg.valveClips, Reg.valveStat, List.mem_cons, List.not_mem_nil, or_false]
  omega

/-- One event counts where its counter has room. -/
theorem State.valveCount_one (s : State) (k : Fin 4) (which : Nat)
    (h : (s.reg (Reg.valveClips + 16 * k.val + 4 * which)).toNat < 2 ^ 32 - 1) :
    (s.valveCount k which 1).reg (Reg.valveClips + 16 * k.val + 4 * which) =
      s.reg (Reg.valveClips + 16 * k.val + 4 * which) + 1 := by
  have hne : Reg.valveClips + 16 * k.val + 4 * which ≠ Reg.valveStat := by simp only [Reg.valveClips, Reg.valveStat]; omega
  apply BitVec.eq_of_toNat_eq
  rw [State.valveCount, s.countWord_reg_of_lt 11 hne h]
  bv_omega

/-- t is s after something happened on its slot grid or at link k: the links, the grid, counters, and what the twin block
keeps for the digest. -/
structure State.AtValve (s t : State) (k : Fin 4) : Prop where
  frame : t = { s with
    regs := t.regs, twin := t.twin, valve := { s.valve with link := t.valve.link, slotNext := t.valve.slotNext } }
  txCfg : t.txCfg k.val = s.txCfg k.val

namespace State.AtValve
variable {s t u : State} {k : Fin 4}

theorem refl (s : State) (k : Fin 4) : s.AtValve s k := ⟨rfl, rfl⟩

theorem trans (h : s.AtValve t k) (h' : t.AtValve u k) : s.AtValve u k :=
  ⟨by rw [h'.frame, h.frame], h'.txCfg.trans h.txCfg⟩

theorem keep (h : s.AtValve t k) : Keep s t := by rw [h.frame]; exact ⟨rfl, rfl⟩
theorem mem (h : s.AtValve t k) : t.mem = s.mem := by rw [h.frame]
theorem jesd (h : s.AtValve t k) : t.jesd = s.jesd := by rw [h.frame]
theorem lim (h : s.AtValve t k) : t.valve.lim = s.valve.lim := by rw [h.frame]
theorem openIn (h : s.AtValve t k) (c : Nat) : t.valve.openIn c = s.valve.openIn c := by rw [h.frame]; rfl
theorem permitIn (h : s.AtValve t k) (c : Nat) : t.valve.permitIn c = s.valve.permitIn c := by rw [h.frame]; rfl
theorem clipCycle (h : s.AtValve t k) (x : List (BitVec 16)) : clipCycle t k x = clipCycle s k x := by
  rw [Machine.clipCycle, Machine.clipCycle, h.txCfg, h.lim]

end State.AtValve

theorem State.setVLink_atValve (s : State) (k : Fin 4) (l : VLink) : s.AtValve (s.setVLink k l) k := ⟨rfl, rfl⟩

theorem State.valveCount_atValve (s : State) (k : Fin 4) (which n : Nat) : s.AtValve (s.valveCount k which n) k := by
  refine ⟨?_, s.valveCount_txCfg k which n⟩
  obtain ⟨l, hl⟩ := s.valveCount_regs k which n
  rw [hl]

/-! ### The slot grid (08 R239) -/

/-- t is s with its slot grid further on: of every link only the slots change, and its duty count does not grow. -/
structure State.Slotted (s t : State) : Prop where
  frame : t = { s with valve := { s.valve with link := t.valve.link, slotNext := t.valve.slotNext } }
  link : ∀ k : Fin 4, t.valve.link[k] =
    { s.valve.link[k] with slotNow := t.valve.link[k].slotNow, slots := t.valve.link[k].slots }
  duty : ∀ k : Fin 4, t.valve.link[k].duty ≤ s.valve.link[k].duty

theorem State.slotted_refl (s : State) : s.Slotted s := ⟨rfl, fun _ => rfl, fun _ => Nat.le_refl _⟩

theorem State.Slotted.trans {s t u : State} (h : s.Slotted t) (h' : t.Slotted u) : s.Slotted u :=
  ⟨by rw [h'.frame, h.frame], fun k => by rw [h'.link k, h.link k], fun k => (h'.duty k).trans (h.duty k)⟩

theorem State.Slotted.atValve {s t : State} (h : s.Slotted t) (k : Fin 4) : s.AtValve t k :=
  ⟨by rw [h.frame], by rw [h.frame]; rfl⟩

theorem VLink.duty_eq (l : VLink) : l.duty = l.slotNow + l.slots.sum := by rw [VLink.duty, List.sum_eq_foldl_nat]

/-- A link whose slot ends. -/
def VLink.slotEnded (l : VLink) : VLink := { l with slots := (l.slotNow :: l.slots).take 999, slotNow := 0 }

theorem VLink.slotEnded_duty (l : VLink) : l.slotEnded.duty ≤ l.duty := by
  have hsum : ((l.slotNow :: l.slots).take 999).sum ≤ (l.slotNow :: l.slots).sum :=
    (List.take_sublist 999 _).sum_le_sum (fun _ _ => Nat.zero_le _)
  rw [List.sum_cons] at hsum
  rw [VLink.duty_eq, VLink.duty_eq]
  exact (Nat.zero_add _).trans_le hsum

theorem State.slotEnd_slotted (s : State) : s.Slotted s.slotEnd := by
  have hlink (k : Fin 4) : s.slotEnd.valve.link[k] = s.valve.link[k].slotEnded := Vector.getElem_map _ _
  exact ⟨rfl, fun k => by rw [hlink]; rfl, fun k => by rw [hlink]; exact VLink.slotEnded_duty _⟩

theorem State.repeatN_slotEnd_slotted (n : Nat) (s : State) : s.Slotted (repeatN State.slotEnd n s) := by
  induction n generalizing s with
  | zero => exact s.slotted_refl
  | succ n ih => exact s.slotEnd_slotted.trans (ih _)

theorem State.slotsTo_slotted (s : State) (d : Nat) : s.Slotted (s.slotsTo d) := by
  unfold State.slotsTo
  dsimp only
  split
  · exact s.slotted_refl
  · obtain ⟨hframe, hlink, hduty⟩ :=
      s.repeatN_slotEnd_slotted (min ((d - s.valve.slotNext) / s.valve.lim.slot.toNat + 1) 1000)
    exact ⟨by rw [hframe], hlink, hduty⟩

/-! ### One cycle of a request (08 R233, R237, R238) -/

/-- The cycle that is presented next on link k. -/
def State.burstNow (s : State) (k : Fin 4) : Nat := s.valve.link[k].start + s.valve.link[k].seen

/-- In Active and Shadow the samples presented are kept for the digest (13 R361). -/
def State.vtKept (s : State) (k : Fin 4) (x : List (BitVec 16)) : State :=
  if s.mode == .active || s.mode == .shadow then
    { s with twin := { s.twin with vt := s.twin.vt ++ [(k.val, s.burstNow k, x)] } } else s

theorem State.vtKept_frame (s : State) (k : Fin 4) (x : List (BitVec 16)) : ∃ w, s.vtKept k x = { s with twin := w } := by
  unfold State.vtKept
  split
  · exact ⟨_, rfl⟩
  · exact ⟨s.twin, rfl⟩

/-- The slot grid has gone on to the next cycle. -/
def State.atCycle (s : State) (k : Fin 4) (x : List (BitVec 16)) : State := (s.vtKept k x).slotsTo (s.burstNow k)

/-- The samples of the next cycle are presented, and it counts as seen. -/
def State.presents (s : State) (k : Fin 4) (x : List (BitVec 16)) : State :=
  (s.atCycle k x).setVLink k
    { (s.atCycle k x).valve.link[k] with seen := (s.atCycle k x).valve.link[k].seen + 1 }

/-- What link k has passed after a cycle's samples y. -/
def State.outWith (s : State) (k : Fin 4) (y : List (BitVec 16)) : List (List (BitVec 16)) :=
  if s.jesd.txSt[k] = 2 then s.valve.link[k].out ++ [y] else s.valve.link[k].out

/-- A cycle's samples y are passed to a link in data. -/
def State.passes (s : State) (k : Fin 4) (y : List (BitVec 16)) : State :=
  if s.jesd.txSt[k] = 2 then s.setVLink k { s.valve.link[k] with out := s.valve.link[k].out ++ [y] } else s

/-- Cycle c is granted, its samples clipped. -/
def State.grants (s : State) (k : Fin 4) (c : Nat) (x : List (BitVec 16)) : State :=
  let l := s.valve.link[k]
  ((s.setVLink k { l with
    burst := l.burst + 1, lastGrant := some c, slotNow := l.slotNow + 1
    clipAt := if 0 < (clipCycle s k x).2 then some c else l.clipAt }).passes k (clipCycle s k x).1).valveCount k 0
      (clipCycle s k x).2

/-- Cycle c is not granted: a burst in progress is cut off. -/
def State.denies (s : State) (k : Fin 4) (c : Nat) (x : List (BitVec 16)) : State :=
  (if s.valve.link[k].granting then s.truncate k c else s).passes k (List.replicate x.length 0)

theorem State.burstCycle_eq (s : State) (k : Fin 4) (x : List (BitVec 16)) : State.burstCycle k s x =
    if ((s.presents k x).valve.link[k].granting && (s.presents k x).valve.goesOn k (s.burstNow k)) = true
    then (s.presents k x).grants k (s.burstNow k) x else (s.presents k x).denies k (s.burstNow k) x := rfl

theorem State.atCycle_spec (s : State) (k : Fin 4) (x : List (BitVec 16)) : s.AtValve (s.atCycle k x) k ∧
    (s.atCycle k x).regs = s.regs ∧ (s.atCycle k x).valve.link[k].duty ≤ s.valve.link[k].duty ∧
    (s.atCycle k x).valve.link[k] = { s.valve.link[k] with
      slotNow := (s.atCycle k x).valve.link[k].slotNow, slots := (s.atCycle k x).valve.link[k].slots } := by
  obtain ⟨w, hw⟩ := s.vtKept_frame k x
  obtain ⟨hframe, hlink, hduty⟩ := (s.vtKept k x).slotsTo_slotted (s.burstNow k)
  have hlink := hlink k
  have hduty := hduty k
  unfold State.atCycle
  rw [hw] at hframe hlink hduty ⊢
  exact ⟨⟨by rw [hframe], by rw [hframe]; rfl⟩, by rw [hframe], hduty, hlink⟩

/-- What presenting a cycle leaves: the counters, and of link k all but its slots and the cycles seen. -/
theorem State.presents_spec (s : State) (k : Fin 4) (x : List (BitVec 16)) : s.AtValve (s.presents k x) k ∧
    (s.presents k x).regs = s.regs ∧ (s.presents k x).valve.link[k].duty ≤ s.valve.link[k].duty ∧
    (s.presents k x).valve.link[k] = { s.valve.link[k] with
      slotNow := (s.presents k x).valve.link[k].slotNow, slots := (s.presents k x).valve.link[k].slots
      seen := s.valve.link[k].seen + 1 } := by
  obtain ⟨hat, hregs, hduty, hlink⟩ := s.atCycle_spec k x
  refine ⟨hat.trans (State.setVLink_atValve _ k _), hregs, ?_, ?_⟩
  · rw [State.presents, State.setVLink_link_same]
    exact hduty
  · rw [State.presents, State.setVLink_link_same, hlink]

section
variable (s : State) (k : Fin 4)

theorem State.passes_atValve (y : List (BitVec 16)) : s.AtValve (s.passes k y) k := by
  unfold State.passes
  split
  · exact s.setVLink_atValve k _
  · exact .refl s k

theorem State.passes_regs (y : List (BitVec 16)) : (s.passes k y).regs = s.regs := by
  unfold State.passes
  split <;> rfl

theorem State.passes_link (y : List (BitVec 16)) :
    (s.passes k y).valve.link[k] = { s.valve.link[k] with out := s.outWith k y } := by
  unfold State.passes State.outWith
  split
  · exact s.setVLink_link_same k _
  · rfl

theorem State.grants_atValve (c : Nat) (x : List (BitVec 16)) : s.AtValve (s.grants k c x) k :=
  ((s.setVLink_atValve k _).trans (State.passes_atValve _ k _)).trans (State.valveCount_atValve _ k 0 _)

theorem State.grants_link (c : Nat) (x : List (BitVec 16)) : (s.grants k c x).valve.link[k] = { s.valve.link[k] with
    burst := s.valve.link[k].burst + 1, lastGrant := some c, slotNow := s.valve.link[k].slotNow + 1
    clipAt := if 0 < (clipCycle s k x).2 then some c else s.valve.link[k].clipAt
    out := s.outWith k (clipCycle s k x).1 } := by
  rw [State.grants, State.valveCount_valve, State.passes_link, State.outWith, State.setVLink_link_same]
  rfl

theorem State.truncate_atValve (c : Nat) : s.AtValve (s.truncate k c) k :=
  (s.setVLink_atValve k _).trans (State.valveCount_atValve _ k 2 1)

theorem State.truncate_link (c : Nat) :
    (s.truncate k c).valve.link[k] = { s.valve.link[k] with granting := false, suppAt := some c } := by
  rw [State.truncate, State.valveCount_valve, State.setVLink_link_same]

/-- A cut off burst is one event more of its counter, where that has room. -/
theorem State.truncate_counted (c : Nat) (h : (s.reg (Reg.valveClips + 16 * k.val + 8)).toNat < 2 ^ 32 - 1) :
    (s.truncate k c).reg (Reg.valveClips + 16 * k.val + 8) = s.reg (Reg.valveClips + 16 * k.val + 8) + 1 :=
  (s.setVLink k _).valveCount_one k 2 h

theorem State.denies_atValve (c : Nat) (x : List (BitVec 16)) : s.AtValve (s.denies k c x) k := by
  refine State.AtValve.trans ?_ (State.passes_atValve _ k _)
  split
  · exact s.truncate_atValve k c
  · exact .refl s k

/-- Nothing but the samples passed changes where no burst is in progress. -/
theorem State.denies_idle (h : s.valve.link[k].granting = false) (c : Nat) (x : List (BitVec 16)) :
    s.denies k c x = s.passes k (List.replicate x.length 0) := by
  rw [State.denies, h]
  rfl

theorem State.denies_link (c : Nat) (x : List (BitVec 16)) : (s.denies k c x).valve.link[k] = { s.valve.link[k] with
    granting := false
    suppAt := if s.valve.link[k].granting then some c else s.valve.link[k].suppAt
    out := s.outWith k (List.replicate x.length 0) } := by
  cases hg : s.valve.link[k].granting with
  | false =>
    rw [s.denies_idle k hg, State.passes_link, if_neg Bool.false_ne_true]
    simp only [hg]
  | true =>
    have hjesd := (s.truncate_atValve k c).jesd
    rw [State.denies, hg, if_pos rfl, State.passes_link, State.outWith, hjesd, State.truncate_link]
    rfl

end

/-! ### The limits (08 R237 to R239) -/

/-- The magnitude limit of the converter at position i of link k's samples. -/
def State.magAt (s : State) (k : Fin 4) (i : Nat) : Nat :=
  (sget (fun _ => (0 : BitVec 16)) s.valve.lim.mag
    (32 * k.val + i % (cfgM (s.txCfg k.val) * cfgS (s.txCfg k.val)) / cfgS (s.txCfg k.val))).toNat

/-- Every sample of a cycle lies within the magnitude limit of its converter. -/
def State.InMag (s : State) (k : Fin 4) (y : List (BitVec 16)) : Prop :=
  ∀ (i : Nat) (x : BitVec 16), y[i]? = some x → x.toInt ≤ s.magAt k i ∧ -(s.magAt k i : Int) ≤ x.toInt

theorem State.AtValve.inMag_iff {s t : State} {k : Fin 4} (h : s.AtValve t k) (y : List (BitVec 16)) :
    t.InMag k y ↔ s.InMag k y := by
  unfold State.InMag State.magAt
  rw [h.txCfg, h.lim]

theorem clip_within (lim : Nat) (v : BitVec 16) : (clip lim v).1.toInt ≤ lim ∧ -(lim : Int) ≤ (clip lim v).1.toInt := by
  have hlo : -32768 ≤ v.toInt := BitVec.le_toInt v
  have hhi : v.toInt < 32768 := BitVec.toInt_lt
  have hint (n : Int) (h1 : -32768 ≤ n) (h2 : n < 32768) : (BitVec.ofInt 16 n).toInt = n := by
    rw [BitVec.toInt_ofInt]
    exact Int.bmod_eq_of_le (by omega) (by omega)
  unfold clip
  split
  · next h =>
    have hlim : (BitVec.ofNat 16 lim).toInt = lim := by rw [← BitVec.ofInt_natCast, hint _ (by omega) (by omega)]
    rw [hlim]
    omega
  · split
    · next h =>
      rw [hint _ (by omega) (by omega)]
      omega
    · next hhigh hlow => exact ⟨Int.not_lt.mp hhigh, Int.not_lt.mp hlow⟩

theorem clipCycle_inMag (s : State) (k : Fin 4) (l : List (BitVec 16)) : s.InMag k (clipCycle s k l).1 := by
  intro i x hx
  simp only [clipCycle, List.map_map, List.getElem?_map, Option.map_eq_some_iff] at hx
  obtain ⟨j, hj, rfl⟩ := hx
  obtain ⟨-, rfl⟩ := List.getElem?_eq_some_iff.mp hj
  rw [List.getElem_range]
  exact clip_within _ _

theorem zeros_inMag (s : State) (k : Fin 4) (n : Nat) : s.InMag k (List.replicate n 0) := by
  intro i x hx
  obtain rfl : x = 0 := (List.eq_replicate_iff.mp rfl).2 x (List.mem_of_getElem? hx)
  simp

/-- Link k keeps its limits from s to t. -/
structure State.KeepsLimits (s t : State) (k : Fin 4) : Prop where
  burst : s.valve.link[k].burst ≤ s.valve.lim.link[k].burstMax.toNat →
    t.valve.link[k].burst ≤ s.valve.lim.link[k].burstMax.toNat
  duty : t.valve.link[k].duty ≤ max s.valve.link[k].duty s.valve.lim.link[k].duty.toNat
  out : ∀ y ∈ t.valve.link[k].out, y ∈ s.valve.link[k].out ∨ s.InMag k y

theorem State.keepsLimits_of_link {s t : State} {k : Fin 4} (hburst : t.valve.link[k].burst = s.valve.link[k].burst)
    (hduty : t.valve.link[k].duty ≤ s.valve.link[k].duty) (hout : t.valve.link[k].out = s.valve.link[k].out) :
    s.KeepsLimits t k :=
  ⟨fun h => hburst.trans_le h, hduty.trans (Nat.le_max_left _ _), fun _ hy => .inl (hout ▸ hy)⟩

theorem State.KeepsLimits.trans {s t u : State} {k : Fin 4} (h : s.KeepsLimits t k) (hat : s.AtValve t k)
    (h' : t.KeepsLimits u k) : s.KeepsLimits u k := by
  obtain ⟨hburst, hduty, hout⟩ := h'
  rw [hat.lim] at hburst hduty
  refine ⟨fun hs => hburst (h.burst hs), ?_, fun y hy => ?_⟩
  · have := h.duty
    omega
  · obtain hy | hy := hout y hy
    · exact h.out y hy
    · exact .inr ((hat.inMag_iff y).mp hy)

/-- What a link passes more is the cycle's samples. -/
theorem State.mem_outWith {s : State} {k : Fin 4} {y z : List (BitVec 16)} (h : z ∈ s.outWith k y) :
    z ∈ s.valve.link[k].out ∨ z = y := by
  unfold State.outWith at h
  split at h
  · simpa using h
  · exact .inl h

theorem State.presents_keepsLimits (s : State) (k : Fin 4) (x : List (BitVec 16)) : s.KeepsLimits (s.presents k x) k := by
  obtain ⟨-, -, hduty, hlink⟩ := s.presents_spec k x
  exact State.keepsLimits_of_link (by rw [hlink]) hduty (by rw [hlink])

theorem State.grants_keepsLimits {s : State} {k : Fin 4} {c : Nat} (h : s.valve.goesOn k c = true)
    (x : List (BitVec 16)) : s.KeepsLimits (s.grants k c x) k := by
  simp only [Valve.goesOn, Bool.and_eq_true, decide_eq_true_eq] at h
  obtain ⟨⟨⟨hburst, hduty⟩, -⟩, -⟩ := h
  have hlink := s.grants_link k c x
  refine ⟨fun _ => by rw [hlink]; exact hburst, ?_, fun y hy => ?_⟩
  · rw [VLink.duty_eq] at hduty
    rw [hlink, VLink.duty_eq]
    dsimp only
    omega
  · rw [hlink] at hy
    obtain hy | rfl := State.mem_outWith hy
    · exact .inl hy
    · exact .inr (clipCycle_inMag s k x)

theorem State.denies_keepsLimits (s : State) (k : Fin 4) (c : Nat) (x : List (BitVec 16)) :
    s.KeepsLimits (s.denies k c x) k := by
  have hlink := s.denies_link k c x
  refine ⟨fun h => by rw [hlink]; exact h, by rw [hlink]; exact Nat.le_max_left _ _, fun y hy => ?_⟩
  rw [hlink] at hy
  obtain hy | rfl := State.mem_outWith hy
  · exact .inl hy
  · exact .inr (zeros_inMag s k _)

/-! ### The cycles of a request -/

/-- t is s after n cycles of link k's request were presented. -/
structure State.Presented (s t : State) (k : Fin 4) (n : Nat) : Prop where
  atValve : s.AtValve t k
  limits : s.KeepsLimits t k
  req : t.valve.link[k].req = s.valve.link[k].req
  start : t.valve.link[k].start = s.valve.link[k].start
  seen : t.valve.link[k].seen = s.valve.link[k].seen + n
  silent : s.jesd.txSt[k] ≠ 2 → t.valve.link[k].out = s.valve.link[k].out

theorem State.presented_refl (s : State) (k : Fin 4) : s.Presented s k 0 :=
  ⟨.refl s k, State.keepsLimits_of_link rfl (Nat.le_refl _) rfl, rfl, rfl, rfl, fun _ => rfl⟩

theorem State.Presented.trans {s t u : State} {k : Fin 4} {m n : Nat} (h : s.Presented t k m) (h' : t.Presented u k n) :
    s.Presented u k (m + n) where
  atValve := h.atValve.trans h'.atValve
  limits := h.limits.trans h.atValve h'.limits
  req := h'.req.trans h.req
  start := h'.start.trans h.start
  seen := by rw [h'.seen, h.seen, Nat.add_assoc]
  silent hs := (h'.silent (by rw [h.atValve.jesd]; exact hs)).trans (h.silent hs)

theorem State.outWith_silent {s : State} {k : Fin 4} (h : s.jesd.txSt[k] ≠ 2) (y : List (BitVec 16)) :
    s.outWith k y = s.valve.link[k].out := if_neg h

theorem State.presents_presented (s : State) (k : Fin 4) (x : List (BitVec 16)) : s.Presented (s.presents k x) k 1 := by
  obtain ⟨hat, -, -, hlink⟩ := s.presents_spec k x
  exact ⟨hat, s.presents_keepsLimits k x, by rw [hlink], by rw [hlink], by rw [hlink], fun _ => by rw [hlink]⟩

/-- A cycle is granted or not after it has been presented. -/
theorem State.burstCycle_presented (s : State) (k : Fin 4) (x : List (BitVec 16)) :
    s.Presented (State.burstCycle k s x) k 1 := by
  refine (s.presents_presented k x).trans (n := 0) ?_
  rw [State.burstCycle_eq]
  split
  · next h =>
    obtain ⟨-, hgoes⟩ := Bool.and_eq_true_iff.mp h
    have hlink := State.grants_link (s.presents k x) k (s.burstNow k) x
    exact ⟨State.grants_atValve _ k _ x, State.grants_keepsLimits hgoes x, by rw [hlink], by rw [hlink], by rw [hlink]; rfl,
      fun hs => by rw [hlink]; exact State.outWith_silent hs _⟩
  · have hlink := State.denies_link (s.presents k x) k (s.burstNow k) x
    exact ⟨State.denies_atValve _ k _ x, State.denies_keepsLimits _ k _ x, by rw [hlink], by rw [hlink],
      by rw [hlink]; rfl, fun hs => by rw [hlink]; exact State.outWith_silent hs _⟩

theorem State.burstCycles_presented (s : State) (k : Fin 4) (l : List (List (BitVec 16))) :
    s.Presented (s.burstCycles k l) k l.length := by
  induction l generalizing s with
  | nil => exact s.presented_refl k
  | cons x l ih =>
    rw [List.length_cons, Nat.add_comm]
    exact (s.burstCycle_presented k x).trans (ih _)

/-- The first cycle of a burst that may go on is granted. -/
theorem State.burstCycle_granted {s : State} {k : Fin 4} (hgranting : s.valve.link[k].granting = true)
    (hgoes : s.valve.goesOn k (s.burstNow k) = true) (x : List (BitVec 16)) :
    (State.burstCycle k s x).valve.link[k].granting = true ∧
    (State.burstCycle k s x).valve.link[k].burst = s.valve.link[k].burst + 1 ∧
    (State.burstCycle k s x).valve.link[k].lastGrant = some (s.burstNow k) ∧
    (s.jesd.txSt[k] = 2 →
      (State.burstCycle k s x).valve.link[k].out = s.valve.link[k].out ++ [(clipCycle s k x).1]) := by
  obtain ⟨hat, -, hduty, hlink⟩ := s.presents_spec k x
  have hgranting' : (s.presents k x).valve.link[k].granting = true := by rw [hlink]; exact hgranting
  have hgoes' : (s.presents k x).valve.goesOn k (s.burstNow k) = true := by
    simp only [Valve.goesOn, Bool.and_eq_true, decide_eq_true_eq, hat.lim, hat.openIn, hat.permitIn] at hgoes ⊢
    obtain ⟨⟨⟨hb, hd⟩, hp⟩, ho⟩ := hgoes
    exact ⟨⟨⟨by rw [hlink]; exact hb, by omega⟩, hp⟩, ho⟩
  rw [State.burstCycle_eq, if_pos (Bool.and_eq_true_iff.mpr ⟨hgranting', hgoes'⟩), State.grants_link]
  refine ⟨hgranting', by rw [hlink], rfl, fun htx => ?_⟩
  rw [← hat.jesd] at htx
  rw [← hat.clipCycle]
  exact (if_pos htx).trans (by rw [hlink])

/-- t is s after cycles that passed zero samples only: no burst is in progress, and nothing is counted. -/
structure State.Withheld (s t : State) (k : Fin 4) : Prop where
  granting : t.valve.link[k].granting = false
  burst : t.valve.link[k].burst = s.valve.link[k].burst
  suppAt : t.valve.link[k].suppAt = s.valve.link[k].suppAt
  regs : t.regs = s.regs
  zeros : ∀ y ∈ t.valve.link[k].out, y ∈ s.valve.link[k].out ∨ ∀ x ∈ y, x = 0

theorem State.burstCycle_withheld {s : State} {k : Fin 4} (h : s.valve.link[k].granting = false) (x : List (BitVec 16)) :
    s.Withheld (State.burstCycle k s x) k := by
  obtain ⟨hat, hregs, -, hlink⟩ := s.presents_spec k x
  have hgranting : (s.presents k x).valve.link[k].granting = false := by rw [hlink]; exact h
  rw [State.burstCycle_eq, hgranting, Bool.false_and, if_neg Bool.false_ne_true, State.denies_idle _ k hgranting]
  have hpasses := State.passes_link (s.presents k x) k (List.replicate x.length 0)
  refine ⟨by rw [hpasses]; exact hgranting, by rw [hpasses, hlink], by rw [hpasses, hlink],
    (State.passes_regs _ k _).trans hregs, fun y hy => ?_⟩
  rw [hpasses] at hy
  obtain hy | rfl := State.mem_outWith hy
  · rw [hlink] at hy
    exact .inl hy
  · exact .inr fun x hx => List.eq_of_mem_replicate hx

/-- Where no burst is in progress, the cycles of a request pass zero samples. -/
theorem State.burstCycles_withheld {s : State} {k : Fin 4} (h : s.valve.link[k].granting = false)
    (l : List (List (BitVec 16))) : s.Withheld (s.burstCycles k l) k := by
  induction l generalizing s with
  | nil => exact ⟨h, rfl, rfl, rfl, fun _ hy => .inl hy⟩
  | cons x l ih =>
    obtain ⟨hgranting, hburst, hsupp, hregs, hzeros⟩ := State.burstCycle_withheld h x
    obtain ⟨hgranting', hburst', hsupp', hregs', hzeros'⟩ := ih hgranting
    refine ⟨hgranting', hburst'.trans hburst, hsupp'.trans hsupp, hregs'.trans hregs, fun y hy => ?_⟩
    obtain hy | hy := hzeros' y hy
    · exact hzeros y hy
    · exact .inr hy

end Sys2Proof.Machine
end

section
/-! The commands of a burst: its request, its end, and the limit that cuts it off (08 R237 to R239). -/
namespace Sys2Proof.Machine

section
variable {s : State} {k : Fin 4}

/-- Link k when a request rises in cycle d: granting says whether its burst starts. -/
def State.risen (s : State) (k : Fin 4) (d : Nat) : State :=
  let t := (s.atD d).slotsTo d
  let go := t.burstStarts k d
  t.setVLink k { t.valve.link[k] with
    req := true, start := d, seen := 0, granting := go, burst := 0, out := []
    suppAt := if go then t.valve.link[k].suppAt else some d }

/-- A burst that cannot start is counted as suppressed. -/
def State.requested (s : State) (k : Fin 4) (d : Nat) : State :=
  if ((s.atD d).slotsTo d).burstStarts k d then s.risen k d else (s.risen k d).valveCount k 1 1

theorem State.risen_link (s : State) (k : Fin 4) (d : Nat) : (s.risen k d).valve.link[k] =
    { ((s.atD d).slotsTo d).valve.link[k] with
      req := true, start := d, seen := 0, granting := ((s.atD d).slotsTo d).burstStarts k d, burst := 0, out := []
      suppAt := if ((s.atD d).slotsTo d).burstStarts k d then ((s.atD d).slotsTo d).valve.link[k].suppAt else some d } :=
  State.setVLink_link_same _ k _

theorem State.requested_valve (s : State) (k : Fin 4) (d : Nat) : (s.requested k d).valve = (s.risen k d).valve := by
  unfold State.requested
  split
  · rfl
  · exact State.valveCount_valve _ k 1 1

/-- Whether its burst starts or not, the request is on the link. -/
theorem State.requested_link (s : State) (k : Fin 4) (d : Nat) : (s.requested k d).valve.link[k] =
    { ((s.atD d).slotsTo d).valve.link[k] with
      req := true, start := d, seen := 0, granting := ((s.atD d).slotsTo d).burstStarts k d, burst := 0, out := []
      suppAt := if ((s.atD d).slotsTo d).burstStarts k d then ((s.atD d).slotsTo d).valve.link[k].suppAt else some d } := by
  rw [s.requested_valve]
  exact s.risen_link k d

theorem State.risen_atValve (s : State) (k : Fin 4) (d : Nat) : ((s.atD d).slotsTo d).AtValve (s.risen k d) k :=
  State.setVLink_atValve _ k _

theorem State.risen_regs (s : State) (k : Fin 4) (d : Nat) : (s.risen k d).regs = s.regs := by
  have hslots : ((s.atD d).slotsTo d).regs = s.regs := by rw [((s.atD d).slotsTo_slotted d).frame]; rfl
  exact hslots

theorem State.requested_atValve (s : State) (k : Fin 4) (d : Nat) : (s.atD d).AtValve (s.requested k d) k := by
  have hrisen : (s.atD d).AtValve (s.risen k d) k :=
    (((s.atD d).slotsTo_slotted d).atValve k).trans (s.risen_atValve k d)
  unfold State.requested
  split
  · exact hrisen
  · exact hrisen.trans (State.valveCount_atValve _ k 1 1)

theorem State.requested_keepsLimits (s : State) (k : Fin 4) (d : Nat) : (s.atD d).KeepsLimits (s.requested k d) k := by
  have hduty := ((s.atD d).slotsTo_slotted d).duty k
  have hlink := s.requested_link k d
  refine ⟨fun _ => ?_, ?_, fun y hy => ?_⟩
  · rw [hlink]
    exact Nat.zero_le _
  · rw [hlink]
    exact hduty.trans (Nat.le_max_left _ _)
  · rw [hlink] at hy
    exact absurd hy List.not_mem_nil

theorem execBurstRequest_able (hable : s.burstAble k = true) (hreq : s.valve.link[k].req = false) (d : Nat)
    (l : List (List (BitVec 16))) : execBurstRequest k d l s = .next ((s.requested k d).burstCycles k l) := by
  have hkeep := ((s.requested_atValve k d).trans (State.burstCycles_presented _ k l).atValve).keep
  have hwhen : (s.burstAble k && !s.valve.link[k].req) = true := by rw [hable, hreq]; rfl
  exact (when_true hwhen _ _).trans (done_keep hkeep.1 hkeep.2)

theorem execBurstRequest_unable (h : ¬ (s.burstAble k = true ∧ s.valve.link[k].req = false)) (d : Nat)
    (l : List (List (BitVec 16))) : execBurstRequest k d l s = .next s :=
  when_false (by simpa using h) _ _

/-- What a burst's end takes away. -/
def State.ended (s : State) (k : Fin 4) : State :=
  s.setVLink k { s.valve.link[k] with req := false, granting := false }

theorem State.ended_atValve (s : State) (k : Fin 4) : s.AtValve (s.ended k) k := s.setVLink_atValve k _

theorem State.ended_link (s : State) (k : Fin 4) :
    (s.ended k).valve.link[k] = { s.valve.link[k] with req := false, granting := false } := s.setVLink_link_same k _

theorem State.ended_keepsLimits (s : State) (k : Fin 4) : s.KeepsLimits (s.ended k) k := by
  have hlink := s.ended_link k
  exact State.keepsLimits_of_link (by rw [hlink]) (by rw [hlink]; exact Nat.le_refl _) (by rw [hlink])

theorem execBurstRequestEnd_requested (h : s.valve.link[k].req = true) (l : List (List (BitVec 16))) :
    execBurstRequestEnd k l s = .next ((s.burstCycles k l).ended k) := by
  have hkeep := ((s.burstCycles_presented k l).atValve.trans (State.ended_atValve _ k)).keep
  exact (when_true h _ _).trans (done_keep hkeep.1 hkeep.2)

theorem execBurstRequestEnd_idle (h : s.valve.link[k].req ≠ true) (l : List (List (BitVec 16))) :
    execBurstRequestEnd k l s = .next s := when_false (Bool.eq_false_iff.mpr h) _ _

/-- A burst that has reached a limit is cut off. -/
def State.limited (s : State) (k : Fin 4) : State :=
  if (s.valve.link[k].granting && !s.valve.goesOn k (s.burstNow k)) = true then s.truncate k (s.burstNow k) else s

theorem State.limited_atValve (s : State) (k : Fin 4) : s.AtValve (s.limited k) k := by
  unfold State.limited
  split
  · exact s.truncate_atValve k _
  · exact .refl s k

theorem State.limited_keepsLimits (s : State) (k : Fin 4) : s.KeepsLimits (s.limited k) k := by
  unfold State.limited
  split
  · have hlink := s.truncate_link k (s.burstNow k)
    exact State.keepsLimits_of_link (by rw [hlink]) (by rw [hlink]; exact Nat.le_refl _) (by rw [hlink])
  · exact State.keepsLimits_of_link rfl (Nat.le_refl _) rfl

theorem execBurstTruncation_requested (h : s.valve.link[k].req = true) (l : List (List (BitVec 16))) :
    execBurstTruncation k l s = .next ((s.burstCycles k l).limited k) := by
  have hkeep := ((s.burstCycles_presented k l).atValve.trans (State.limited_atValve _ k)).keep
  exact (when_true h _ _).trans (done_keep hkeep.1 hkeep.2)

theorem execBurstTruncation_idle (h : s.valve.link[k].req ≠ true) (l : List (List (BitVec 16))) :
    execBurstTruncation k l s = .next s := when_false (Bool.eq_false_iff.mpr h) _ _

/-! ### Every command of a burst keeps to the limits -/

/-- t is s after a command of link k's bursts: DEVCLK may have moved on first. -/
def State.BurstStep (s t : State) (k : Fin 4) : Prop :=
  ∃ d, ({ s with dcyc := d } : State).AtValve t k ∧ ({ s with dcyc := d } : State).KeepsLimits t k

theorem State.burstStep_refl (s : State) (k : Fin 4) : s.BurstStep s k :=
  ⟨s.dcyc, .refl s k, State.keepsLimits_of_link rfl (Nat.le_refl _) rfl⟩

theorem exec_burst_step {d : Nat} {l : List (List (BitVec 16))} {i : Instr}
    (hi : i = .burstRequest k d l ∨ i = .burstTruncation k l ∨ i = .burstRequestEnd k l) :
    ∃ t, exec i s = .next t ∧ s.BurstStep t k := by
  have hcycles := s.burstCycles_presented k l
  obtain rfl | rfl | rfl := hi
  · by_cases h : s.burstAble k = true ∧ s.valve.link[k].req = false
    · have hmore := (s.requested k d).burstCycles_presented k l
      exact ⟨_, execBurstRequest_able h.1 h.2 d l, _, (s.requested_atValve k d).trans hmore.atValve,
        (s.requested_keepsLimits k d).trans (s.requested_atValve k d) hmore.limits⟩
    · exact ⟨s, execBurstRequest_unable h d l, s.burstStep_refl k⟩
  · by_cases h : s.valve.link[k].req = true
    · exact ⟨_, execBurstTruncation_requested h l, s.dcyc, hcycles.atValve.trans (State.limited_atValve _ k),
        hcycles.limits.trans hcycles.atValve (State.limited_keepsLimits _ k)⟩
    · exact ⟨s, execBurstTruncation_idle h l, s.burstStep_refl k⟩
  · by_cases h : s.valve.link[k].req = true
    · exact ⟨_, execBurstRequestEnd_requested h l, s.dcyc, hcycles.atValve.trans (State.ended_atValve _ k),
        hcycles.limits.trans hcycles.atValve (State.ended_keepsLimits _ k)⟩
    · exact ⟨s, execBurstRequestEnd_idle h l, s.burstStep_refl k⟩

/-! ### A request that may start, and one that may not (08 R238) -/

theorem State.requested_burstNow (s : State) (k : Fin 4) (d : Nat) : (s.requested k d).burstNow k = d := by
  rw [State.burstNow, s.requested_link]
  rfl

/-- A burst that may start in cycle d may have that cycle. -/
theorem State.requested_goesOn {d : Nat} (hgo : ((s.atD d).slotsTo d).burstStarts k d = true) :
    (s.requested k d).valve.goesOn k d = true := by
  have hat := s.risen_atValve k d
  simp only [State.burstStarts, Bool.and_eq_true, decide_eq_true_eq, bne_iff_ne] at hgo
  obtain ⟨⟨⟨⟨⟨hopen, hpermit⟩, hduty⟩, hmax⟩, -⟩, -⟩ := hgo
  have hmax : 0 < ((s.atD d).slotsTo d).valve.lim.link[k].burstMax.toNat :=
    Nat.pos_of_ne_zero fun h => hmax (BitVec.eq_of_toNat_eq h)
  rw [s.requested_valve]
  simp only [Valve.goesOn, Bool.and_eq_true, decide_eq_true_eq, hat.lim, hat.openIn, hat.permitIn, s.risen_link]
  exact ⟨⟨⟨hmax, hduty⟩, hpermit⟩, hopen⟩

/-- A request that may start has its first cycle granted. -/
theorem State.requested_granted {d : Nat} (hgo : ((s.atD d).slotsTo d).burstStarts k d = true) (x : List (BitVec 16)) :
    let t := (s.requested k d).burstCycles k [x]
    t.valve.link[k].granting = true ∧ t.valve.link[k].burst = 1 ∧ t.valve.link[k].lastGrant = some d ∧
    (s.jesd.txSt[k] = 2 → t.valve.link[k].out = [(clipCycle s k x).1]) := by
  have hlink := s.requested_link k d
  have hgranting : (s.requested k d).valve.link[k].granting = true := by rw [hlink]; exact hgo
  have hnow := s.requested_burstNow k d
  have hgoes : (s.requested k d).valve.goesOn k ((s.requested k d).burstNow k) = true := by
    rw [hnow]
    exact State.requested_goesOn hgo
  obtain ⟨hgranting', hburst, hlast, hout⟩ := State.burstCycle_granted hgranting hgoes x
  have hat := s.requested_atValve k d
  refine ⟨hgranting', hburst.trans (by rw [hlink]), hlast.trans (by rw [hnow]), fun htx => ?_⟩
  refine (hout (by rw [hat.jesd]; exact htx)).trans ?_
  rw [hlink, hat.clipCycle]
  rfl

/-- A request that may not start is suppressed and counted, and passes zero samples only. -/
theorem State.requested_suppressed {d : Nat} (hgo : ((s.atD d).slotsTo d).burstStarts k d = false)
    (l : List (List (BitVec 16))) :
    let t := (s.requested k d).burstCycles k l
    (∀ y ∈ t.valve.link[k].out, ∀ x ∈ y, x = 0) ∧ t.valve.link[k].granting = false ∧ t.valve.link[k].burst = 0 ∧
    t.valve.link[k].suppAt = some d ∧
    ((s.reg (Reg.valveClips + 16 * k.val + 4)).toNat < 2 ^ 32 - 1 →
      t.reg (Reg.valveClips + 16 * k.val + 4) = s.reg (Reg.valveClips + 16 * k.val + 4) + 1) := by
  have hlink := s.requested_link k d
  have hgranting : (s.requested k d).valve.link[k].granting = false := by rw [hlink]; exact hgo
  obtain ⟨hgranting', hburst, hsupp, hregs, hzeros⟩ := State.burstCycles_withheld hgranting l
  refine ⟨fun y hy => ?_, hgranting', hburst.trans (by rw [hlink]), hsupp.trans (by rw [hlink, hgo]; rfl), fun hroom => ?_⟩
  · obtain hy | hy := hzeros y hy
    · rw [hlink] at hy
      exact absurd hy List.not_mem_nil
    · exact hy
  · have hrisen := s.risen_regs k d
    rw [State.reg_of_regs hregs, State.requested, hgo, if_neg Bool.false_ne_true]
    exact ((s.risen k d).valveCount_one k 1 (by rw [State.reg_of_regs hrisen]; exact hroom)).trans
      (by rw [State.reg_of_regs hrisen])

end
end Sys2Proof.Machine
end

section
open Sys2Proof Sys2Proof.Machine

/-- Settles O44: each command of a burst keeps the limits cycle by cycle; the first cycle of a request is granted or withheld
as burstStarts says, and a limit that is reached truncates. -/
theorem burstLimits : Obligations.BurstLimits := by
  unfold Obligations.BurstLimits
  intro s k d samples l lim w go mag
  refine ⟨fun i t hi hexec => ?limits, fun hable hreq => ?request, fun hreq => ⟨?ends, fun hgranting hgoes => ?cutOff⟩⟩
  case limits =>
    obtain ⟨u, hu, d', hat, hkeeps⟩ := exec_burst_step hi
    obtain rfl : u = t := Host.Outcome.next.inj (hu.symm.trans hexec)
    exact ⟨hkeeps.burst, hkeeps.duty, hkeeps.out, hat.mem, hat.lim⟩
  case request =>
    have hcycles := (s.requested k d).burstCycles_presented k samples
    have hlink := s.requested_link k d
    refine ⟨_, execBurstRequest_able hable hreq d samples, hcycles.req.trans (by rw [hlink]),
      hcycles.start.trans (by rw [hlink]), hcycles.seen.trans (by rw [hlink]; exact Nat.zero_add _), fun htx => ?_,
      fun hgo x hx => ?_, fun hgo => State.requested_suppressed hgo samples⟩
    · refine (hcycles.silent ?_).trans (by rw [hlink])
      rw [(s.requested_atValve k d).jesd]
      exact htx
    · subst hx
      exact State.requested_granted hgo x
  case ends =>
    have hlink := (s.burstCycles k samples).ended_link k
    exact ⟨_, execBurstRequestEnd_requested hreq samples, by rw [hlink], by rw [hlink],
      by rw [hlink]; exact (s.burstCycles_presented k samples).seen⟩
  case cutOff =>
    have hlimited : s.limited k = s.truncate k (s.burstNow k) :=
      if_pos (Bool.and_eq_true_iff.mpr ⟨hgranting, congrArg not hgoes⟩)
    have hlink := s.truncate_link k (s.burstNow k)
    refine ⟨_, (execBurstTruncation_requested hreq []).trans (congrArg Host.Outcome.next hlimited), by rw [hlink],
      by rw [hlink]; rfl, by rw [hlink]; exact hreq, fun hroom => s.truncate_counted k _ hroom⟩

end

section
/-! The configuration engine: its commands, what leaves RUNNING, the frames of a load, and the errors it records (07 R202
to R216). -/
namespace Sys2Proof.Machine

/-! ### Commands through EDGE_CFG_CMD -/

/-- An admitted write is its effect. -/
theorem done_regWrite {s : State} {q : Requester} {a : Nat} (h : s.admitted q true a = true) (f : State → State) :
    done s (regWrite q a s f) = done s (f s) := by
  obtain ⟨hal, hcode⟩ := State.admitted_iff.mp h
  rw [regWrite_admitted f hal hcode]

/-! ### The record of a failure (07 R208) -/

section
variable (s : State) (kind seq : Nat)

/-- The record is stored words. -/
theorem State.edgeErr_frame : s.edgeErr kind seq = { s with regs := (s.edgeErr kind seq).regs } := rfl

theorem State.edgeErr_cfgErr : (s.edgeErr kind seq).reg Reg.edgeCfgErr =
    ((s.setFld Reg.edgeCfgErr 3 0 kind).setFld Reg.edgeCfgErr 17 4 seq).reg Reg.edgeCfgErr :=
  State.setBit_reg_other _ _ _ _ (by decide)

theorem State.edgeErr_kind {kind : Nat} (h : kind < 16) : (s.edgeErr kind seq).fld Reg.edgeCfgErr 3 0 = kind := by
  rw [State.fld_of_reg_eq (s.edgeErr_cfgErr kind seq), State.fld_setFld_disjoint _ _ _ _ _ _ _ (by decide) (by decide),
    State.fld_setFld_same _ _ _ _ _ (by decide)]
  exact Nat.mod_eq_of_lt h

theorem State.edgeErr_seq {seq : Nat} (h : seq < 16384) : (s.edgeErr kind seq).fld Reg.edgeCfgErr 17 4 = seq := by
  rw [State.fld_of_reg_eq (s.edgeErr_cfgErr kind seq), State.fld_setFld_same _ _ _ _ _ (by decide)]
  exact Nat.mod_eq_of_lt h

theorem State.edgeErr_bit : bit ((s.edgeErr kind seq).reg Reg.edgeStat) 20 = true :=
  State.bit_setBit_same _ _ (by decide)

end

/-- t is s after a refused command of the engine: kind 8, SEQ 0, and nothing else. -/
structure State.CfgRefused (s t : State) : Prop where
  frame : t = { s with regs := t.regs }
  kind : t.fld Reg.edgeCfgErr 3 0 = 8
  seq : t.fld Reg.edgeCfgErr 17 4 = 0
  flag : bit (t.reg Reg.edgeStat) 20 = true

theorem State.edgeRefuse_refused (s : State) : s.CfgRefused s.edgeRefuse :=
  ⟨rfl, s.edgeErr_kind 0 (by decide), s.edgeErr_seq 8 (by decide), s.edgeErr_bit 8 0⟩

theorem done_edgeRefuse (s : State) : done s s.edgeRefuse = .next s.edgeRefuse := done_keep rfl rfl

/-! ### Leaving RUNNING (07 R211, R214, R216) -/

/-- No start, load or isolation is in progress. -/
def Edge.idle (e : Edge) : Edge := { e with startPend := none, load := none, isolated := 0, bayDead := 0 }

/-- t is s, its fabric out of RUNNING: every request at the valve is over, every accepted access is marked. -/
structure State.Halted (s t : State) : Prop where
  frame : t = { s with edge := t.edge, cist := t.cist, valve := t.valve }
  links : ∀ k : Fin 4, t.valve.link[k].req = false ∧ t.valve.link[k].granting = false
  ports : ∀ p : Fin 8, t.cist.cw[p] = s.cist.cw[p].map (fun e => { e with lost := true }) ∧
    t.cist.cr[p] = s.cist.cr[p].map (fun e => { e with lost := true })

theorem State.Halted.keep {s t : State} (h : s.Halted t) : Keep s t := by
  rw [h.frame]
  exact ⟨rfl, rfl⟩

/-- What the engine does next to its own state leaves a halted fabric halted. -/
theorem State.Halted.withEdge {s t : State} (h : s.Halted t) (e : Edge) : s.Halted { t with edge := e } :=
  ⟨by rw [h.frame], h.links, h.ports⟩

theorem State.closing_link (s : State) : s.closing.valve.link = s.valve.link := by
  unfold State.closing
  split <;> rfl

theorem State.burstsEnd_link (s : State) (p : Fin 4 → Bool) (k : Fin 4) : (s.burstsEnd p).valve.link[k] =
    if p k then { s.valve.link[k] with req := false, granting := false } else s.valve.link[k] :=
  Vector.getElem_ofFn _

theorem State.dropPorts_cw (s : State) (bays : BitVec 8) (p : Fin 8) : (s.dropPorts bays).cist.cw[p] =
    if bays.getLsbD p.val then s.cist.cw[p].map (fun e => { e with lost := true }) else s.cist.cw[p] :=
  Vector.getElem_ofFn _

theorem State.dropPorts_cr (s : State) (bays : BitVec 8) (p : Fin 8) : (s.dropPorts bays).cist.cr[p] =
    if bays.getLsbD p.val then s.cist.cr[p].map (fun e => { e with lost := true }) else s.cist.cr[p] :=
  Vector.getElem_ofFn _

theorem all_bays : ∀ p : Fin 8, (0xFF#8).getLsbD p.val = true := by decide

/-- The state in which a running fabric stops, before the valve is told and the fabric is LOADED. -/
def State.halting (s : State) : State :=
  ((({ s with edge := s.edge.idle } : State).edgeInit 0xFF).dropPorts 0xFF).burstsEnd (fun _ => true)

theorem State.edgeHalt_eq (s : State) : s.edgeHalt = if s.edge.st = .running
    then { s.halting.closing with edge := { s.halting.edge with st := .loaded } }
    else { s with edge := s.edge.idle } := rfl

theorem State.edgeHalt_still {s : State} (h : s.edge.st ≠ .running) : s.edgeHalt = { s with edge := s.edge.idle } := by
  rw [s.edgeHalt_eq, if_neg h]

theorem State.halting_edge (s : State) : s.halting.edge = { s.edge.idle with ff := s.ffInit 0xFF } := rfl

theorem State.halting_halted (s : State) : s.Halted s.halting := by
  refine ⟨rfl, fun k => ?_, fun p => ⟨?_, ?_⟩⟩
  · rw [State.halting, State.burstsEnd_link]
    exact ⟨rfl, rfl⟩
  · exact (State.dropPorts_cw _ 0xFF p).trans (if_pos (all_bays p))
  · exact (State.dropPorts_cr _ 0xFF p).trans (if_pos (all_bays p))

theorem State.Halted.closing {s t : State} (h : s.Halted t) : s.Halted t.closing := by
  obtain ⟨v, hv⟩ := t.closing_frame
  have hlink := t.closing_link
  refine ⟨by rw [hv, h.frame], fun k => ?_, fun p => ?_⟩
  · rw [hlink]
    exact h.links k
  · rw [hv]
    exact h.ports p

theorem State.edgeHalt_running {s : State} (h : s.edge.st = .running) : s.Halted s.edgeHalt ∧
    s.edgeHalt.edge = { s.edge.idle with st := .loaded, ff := s.ffInit 0xFF } := by
  rw [s.edgeHalt_eq, if_pos h]
  exact ⟨s.halting_halted.closing.withEdge _, by rw [s.halting_edge]⟩

/-! ### LOAD, RELOAD, START, STOP (07 R212 to R215) -/

/-- A load of the image at src, before its first frame. -/
def firstLoad (src : Nat) : EdgeLoad := ⟨false, 0, src, 0, false, 0, 0xFFFFFFFF, 0, 0, none⟩

section
variable {s : State} {q : Requester}

theorem execLoad_off (hadm : s.admitted q true Reg.edgeCfgCmd = true) (hon : s.pwr.edgeOn = false) :
    execLoad q s = .next s := by
  have hload : s.edgeLoad = s := by rw [State.edgeLoad, hon]; rfl
  rw [execLoad, done_regWrite hadm, hload]
  exact done_keep rfl rfl

theorem execLoad_begins (hadm : s.admitted q true Reg.edgeCfgCmd = true) (hon : s.pwr.edgeOn = true)
    (hst : s.edge.st = .unloaded ∨ s.edge.st = .loaded) : execLoad q s =
      .next { s with edge := { s.edge.idle with st := .loading, load := some (firstLoad s.edgeSrc) } } := by
  have hstill : s.edge.st ≠ .running := by obtain h | h := hst <;> simp [h]
  have hload : s.edgeLoad =
      { s with edge := { s.edge.idle with st := .loading, load := some (firstLoad s.edgeSrc) } } := by
    rw [State.edgeLoad, hon, State.edgeHalt_still hstill]
    obtain h | h := hst <;> (rw [h]; rfl)
  rw [execLoad, done_regWrite hadm, hload]
  exact done_keep rfl rfl

theorem execLoad_leaves (hadm : s.admitted q true Reg.edgeCfgCmd = true) (hon : s.pwr.edgeOn = true)
    (hst : s.edge.st = .running) (hidle : s.running = false) : ∃ t, execLoad q s = .next t ∧ s.Halted t ∧
      t.edge = { s.edge.idle with st := .loading, load := some (firstLoad s.edgeSrc), ff := s.ffInit 0xFF } := by
  obtain ⟨hhalted, hedge⟩ := State.edgeHalt_running hst
  have hload : s.edgeLoad = { s.edgeHalt with
      edge := { s.edgeHalt.edge with st := .loading, load := some (firstLoad s.edgeHalt.edgeSrc) } } := by
    rw [State.edgeLoad, hon, hst, hidle]
    rfl
  have hsrc : s.edgeHalt.edgeSrc = s.edgeSrc := by rw [hhalted.frame]; rfl
  have hnew := hhalted.withEdge { s.edgeHalt.edge with st := .loading, load := some (firstLoad s.edgeHalt.edgeSrc) }
  refine ⟨_, ?_, hnew, by rw [hedge, hsrc]⟩
  rw [execLoad, done_regWrite hadm, hload]
  exact done_keep hnew.keep.1 hnew.keep.2

theorem execLoad_refused (hadm : s.admitted q true Reg.edgeCfgCmd = true) (hon : s.pwr.edgeOn = true)
    (hst : s.edge.st = .loading ∨ (s.edge.st = .running ∧ s.running = true)) : execLoad q s = .next s.edgeRefuse := by
  have hload : s.edgeLoad = s.edgeRefuse := by
    rw [State.edgeLoad, hon]
    obtain h | ⟨h, hrun⟩ := hst
    · rw [h]; rfl
    · rw [h, hrun]; rfl
  rw [execLoad, done_regWrite hadm, hload, done_edgeRefuse]

theorem execReload_begins (hadm : s.admitted q true Reg.edgeCfgCmd = true) (hst : s.edge.st = .running)
    (hload : s.edge.load = none) (bay : Fin 8) (atTick : Bool) : execReload q bay atTick s = .next { s with edge :=
      { s.edge with load := some { firstLoad s.edgeSrc with reload := true, bay := bay, atTick := atTick } } } := by
  rw [execReload, done_regWrite hadm, State.edgeReload, hst, hload]
  exact done_keep rfl rfl

theorem execReload_refused (hadm : s.admitted q true Reg.edgeCfgCmd = true)
    (h : s.edge.st ≠ .running ∨ s.edge.load ≠ none) (bay : Fin 8) (atTick : Bool) :
    execReload q bay atTick s = .next s.edgeRefuse := by
  rw [execReload, done_regWrite hadm, State.edgeReload, if_neg (by simpa [Decidable.imp_iff_not_or] using h),
    done_edgeRefuse]

theorem execStart_begins (hadm : s.admitted q true Reg.edgeCfgCmd = true) (hst : s.edge.st = .loaded)
    (hpend : s.edge.startPend = none) (atTick : Bool) : execStart q atTick s =
      .next { s with edge := { s.edge with startPend := some (atTick, s.dcyc + 8, none) } } := by
  rw [execStart, done_regWrite hadm, State.edgeStart, hst, hpend]
  exact done_keep rfl rfl

theorem execStart_refused (hadm : s.admitted q true Reg.edgeCfgCmd = true)
    (h : s.edge.st ≠ .loaded ∨ s.edge.startPend ≠ none) (atTick : Bool) : execStart q atTick s = .next s.edgeRefuse := by
  rw [execStart, done_regWrite hadm, State.edgeStart, if_neg (by simpa [Decidable.imp_iff_not_or] using h),
    done_edgeRefuse]

theorem execStop_running (hadm : s.admitted q true Reg.edgeCfgCmd = true) (hst : s.edge.st = .running) :
    execStop q s = .next s.edgeHalt := by
  have hkeep := (State.edgeHalt_running hst).1.keep
  have hstop : s.edgeStop = s.edgeHalt := by rw [State.edgeStop, hst]; rfl
  rw [execStop, done_regWrite hadm, hstop]
  exact done_keep hkeep.1 hkeep.2

theorem execStop_loaded (hadm : s.admitted q true Reg.edgeCfgCmd = true) (hst : s.edge.st = .loaded) :
    execStop q s = .next { s with edge := { s.edge with startPend := none } } := by
  rw [execStop, done_regWrite hadm, State.edgeStop, hst]
  exact done_keep rfl rfl

theorem execStop_refused (hadm : s.admitted q true Reg.edgeCfgCmd = true)
    (hst : s.edge.st = .unloaded ∨ s.edge.st = .loading) : execStop q s = .next s.edgeRefuse := by
  have hstop : s.edgeStop = s.edgeRefuse := by
    rw [State.edgeStop]
    obtain h | h := hst <;> (rw [h]; rfl)
  rw [execStop, done_regWrite hadm, hstop, done_edgeRefuse]

end

/-! ### A frame that passes (07 R206, R208, R212, R215) -/

/-- The load after a frame of it has passed. -/
def EdgeLoad.passed (l : EdgeLoad) (f : BitVec 2048) : EdgeLoad := { l with
  crc := crcBytes l.crc ((List.range 256).map (frameByte f))
  imageId := if l.seq = 0 then BitVec.ofNat 64 (frameNat f 12 8) else l.imageId
  phase := if l.reload && l.seq == 1 then 1 else l.phase
  seq := l.seq + 1 }

theorem EdgeLoad.passed_phase (l : EdgeLoad) (f : BitVec 2048) :
    (l.passed f).phase = if l.reload = true ∧ l.seq = 1 then 1 else l.phase :=
  if_congr (by rw [Bool.and_eq_true_iff, beq_iff_eq]) rfl rfl

theorem EdgeLoad.passed_crc (l : EdgeLoad) (f : BitVec 2048) :
    (l.passed f).crc = crcBytes l.crc ((List.range 256).map (frameByte f)) := by
  unfold EdgeLoad.passed
  dsimp only

/-- The engine's memory after a frame has passed: HEADER and END are not kept, and a QUIET frame declares its bay's pins. -/
def Edge.framed (e : Edge) (l : EdgeLoad) (f : BitVec 2048) : Edge :=
  let kept := if l.seq = 0 ∨ l.seq + 1 = imageLen l.reload then e
    else { e with frames := sset noFrame e.frames (keepAt l.reload l.bay l.seq) f }
  let bay : Fin 8 := ⟨bits (frameNat f 0 4) 6 4 % 8, Nat.mod_lt _ (by decide)⟩
  if bits (frameNat f 0 4) 3 0 = 2 then { kept with quiet := vset kept.quiet bay (BitVec.ofNat 12 (frameNat f 4 2)) }
  else kept

section
variable (e : Edge) (s : State) (l : EdgeLoad) (f : BitVec 2048)

theorem Edge.framed_frame : ∃ m p, e.framed l f = { e with frames := m, quiet := p } := by
  unfold Edge.framed
  dsimp only
  split <;> split <;> exact ⟨_, _, rfl⟩

theorem State.edgeAccept_eq : s.edgeAccept l f = if l.seq + 1 = imageLen l.reload then
    (if l.reload then ({ s with edge := { s.edge.framed l f with
        load := some { l.passed f with phase := 3, ready := s.dcyc + 8 } } } : State).edgeInit (1#8 <<< l.bay.val)
      else (({ s with edge := { s.edge.framed l f with
        st := .loaded, load := none, imageId := (l.passed f).imageId } } : State).edgeInit 0xFF).irq .cmd 2)
    else { s with edge := { s.edge.framed l f with load := some (l.passed f) } } := rfl

/-- A frame inside an image is kept, and its load goes on. -/
theorem State.edgeAccept_next (h : l.seq + 1 ≠ imageLen l.reload) : ∃ m p, s.edgeAccept l f =
    { s with edge := { s.edge with frames := m, quiet := p, load := some (l.passed f) } } := by
  obtain ⟨m, p, hframed⟩ := s.edge.framed_frame l f
  refine ⟨m, p, ?_⟩
  rw [s.edgeAccept_eq, if_neg h, hframed]

/-- The last frame of a full image makes the fabric LOADED, and interrupts. -/
theorem State.edgeAccept_loaded (h : l.seq + 1 = imageLen l.reload) (hfull : l.reload = false) :
    ∃ m p x, s.edgeAccept l f = ({ s with edge := { s.edge with
      frames := m, quiet := p, st := .loaded, load := none, imageId := l.imageId, ff := x } } : State).irq .cmd 2 := by
  obtain ⟨m, p, hframed⟩ := s.edge.framed_frame l f
  have hid : (l.passed f).imageId = l.imageId := if_neg (by
    rw [hfull, imageLen, if_neg Bool.false_ne_true] at h
    omega)
  rw [s.edgeAccept_eq, if_pos h, if_neg (by simp [hfull]), hid, hframed]
  exact ⟨m, p, _, rfl⟩

/-- The last frame of a bay's image makes its release due. -/
theorem State.edgeAccept_released (h : l.seq + 1 = imageLen l.reload) (hbay : l.reload = true) :
    ∃ m p x, s.edgeAccept l f = { s with edge := { s.edge with
      frames := m, quiet := p, ff := x, load := some { l.passed f with phase := 3, ready := s.dcyc + 8 } } } := by
  obtain ⟨m, p, hframed⟩ := s.edge.framed_frame l f
  rw [s.edgeAccept_eq, if_pos h, if_pos hbay, hframed]
  exact ⟨m, p, _, rfl⟩

end

/-! ### A frame that fails (07 R208, R216) -/

/-- t is s after its load l failed with this kind: recorded, interrupted; a full load leaves the fabric UNLOADED, a reload past
its isolation a dead bay. -/
structure State.LoadFailed (s : State) (l : EdgeLoad) (kind : Nat) (t : State) : Prop where
  keep : Keep s t
  mem : t.mem = s.mem
  load : t.edge.load = none
  st : t.edge.st = if l.reload then s.edge.st else .unloaded
  bayDead : t.edge.bayDead =
    if l.reload = true ∧ l.phase ≠ 0 then s.edge.bayDead ||| (1#8 <<< l.bay.val) else s.edge.bayDead
  kind : t.fld Reg.edgeCfgErr 3 0 = kind
  seq : l.seq < 16384 → t.fld Reg.edgeCfgErr 17 4 = l.seq
  irq : t.cmd.irqPend.getLsbD 2 = true

/-- The record of a failure, its interrupt, and no load. -/
def State.failRecorded (s : State) (l : EdgeLoad) (kind : Nat) : State := { s with
  regs := (s.edgeErr kind l.seq).regs
  cmd := { s.cmd with irqPend := s.cmd.irqPend ||| 4#32 }
  edge := { s.edge with load := none } }

theorem State.failRecorded_eq (s : State) (l : EdgeLoad) (kind : Nat) :
    { (s.edgeErr kind l.seq).irq .cmd 2 with edge := { ((s.edgeErr kind l.seq).irq .cmd 2).edge with load := none } } =
      s.failRecorded l kind := by
  rw [s.edgeErr_frame]
  rfl

theorem State.edgeFail_eq (s : State) (l : EdgeLoad) (kind : Nat) : s.edgeFail l kind =
    if !l.reload then (s.failRecorded l kind).edgeLost
    else if l.phase = 0 then s.failRecorded l kind
    else { s.failRecorded l kind with edge := { (s.failRecorded l kind).edge with
      bayDead := (s.failRecorded l kind).edge.bayDead ||| (1#8 <<< l.bay.val) } } := by
  rw [← s.failRecorded_eq l kind]
  rfl

/-- Whatever becomes of the engine's own state, the failure is recorded. -/
theorem State.loadFailed_of_recorded {s t : State} {l : EdgeLoad} {kind : Nat} (hkind : kind < 16)
    (hframe : t = { s.failRecorded l kind with free := t.free, edge := t.edge }) (hload : t.edge.load = none)
    (hst : t.edge.st = if l.reload then s.edge.st else .unloaded)
    (hdead : t.edge.bayDead =
      if l.reload = true ∧ l.phase ≠ 0 then s.edge.bayDead ||| (1#8 <<< l.bay.val) else s.edge.bayDead) :
    s.LoadFailed l kind t := by
  have hreg : t.reg Reg.edgeCfgErr = (s.edgeErr kind l.seq).reg Reg.edgeCfgErr := by rw [hframe]; rfl
  have hirq : t.cmd.irqPend = s.cmd.irqPend ||| 4#32 := by rw [hframe]; rfl
  refine ⟨by rw [hframe]; exact ⟨rfl, rfl⟩, by rw [hframe]; rfl, hload, hst, hdead, ?_, fun h => ?_, ?_⟩
  · rw [State.fld_of_reg_eq hreg, s.edgeErr_kind l.seq hkind]
  · rw [State.fld_of_reg_eq hreg, s.edgeErr_seq kind h]
  · rw [hirq, BitVec.getLsbD_or]
    exact Bool.or_true _

theorem State.edgeFail_failed (s : State) (l : EdgeLoad) {kind : Nat} (hkind : kind < 16) :
    s.LoadFailed l kind (s.edgeFail l kind) := by
  rw [s.edgeFail_eq]
  split
  · next hfull =>
    rw [Bool.not_eq_true'] at hfull
    exact State.loadFailed_of_recorded hkind rfl rfl (by rw [hfull]; rfl) (by rw [hfull]; rfl)
  · next hbay =>
    rw [Bool.not_eq_true', Bool.not_eq_false] at hbay
    split
    · next hphase =>
      exact State.loadFailed_of_recorded hkind rfl rfl (by rw [hbay]; rfl) (if_neg fun h => h.2 hphase).symm
    · next hphase =>
      exact State.loadFailed_of_recorded hkind rfl rfl (by rw [hbay]; rfl) (if_pos ⟨hbay, hphase⟩).symm

/-- What was logged before leaves the engine as it was. -/
theorem State.LoadFailed.of_noted {s u t : State} {log : List Nat} {l : EdgeLoad} {kind : Nat} (h : s.Noted u log)
    (hfail : u.LoadFailed l kind t) : s.LoadFailed l kind t := by
  have hedge : u.edge = s.edge := by rw [h.frame]
  exact ⟨h.keep.trans hfail.keep, hfail.mem.trans h.mem, hfail.load, by rw [hfail.st, hedge], by rw [hfail.bayDead, hedge],
    hfail.kind, hfail.seq, hfail.irq⟩

theorem frameKind_lt (s : State) (l : EdgeLoad) (f : BitVec 2048) : frameKind s l f < 16 := by
  unfold frameKind
  dsimp only
  repeat' split
  all_goals decide

/-! ### CONFIGURATION_FRAME (07 R208, R209) -/

/-- The engine may fetch a frame of its load l. -/
structure State.Fetches (s : State) (l : EdgeLoad) : Prop where
  alive : s.alive = true
  held : s.mode ≠ .faultHold
  power : s.pwr.edgeOn = true
  joined : s.ring.iso.getLsbD 31 = false
  load : s.edge.load = some l
  phase : l.phase = 0 ∨ l.phase = 2

/-- The next frame of load l in memory. -/
def State.frameOf (s : State) (l : EdgeLoad) : BitVec 2048 := BitVec.ofNat 2048 (s.memNat (l.src + 256 * l.seq) 256)

section
variable {s : State} {l : EdgeLoad}

theorem State.Fetches.not_waiting (h : s.Fetches l) : ¬ (l.phase = 1 ∨ l.phase = 3) := by
  have := h.phase
  omega

theorem execConfigurationFrame_eq (h : s.Fetches l) (ecc : Ecc) (g : Fin 4) : execConfigurationFrame ecc g s =
    done s (if (frameCode s (l.src + 256 * l.seq)).2 ≠ 0 then
        (logUntagged s engineReq (frameCode s (l.src + 256 * l.seq)).1 (frameCode s (l.src + 256 * l.seq)).2).edgeFrame false
      else if ecc = .lost then (logUntagged (s.memEcc (l.src + 256 * l.seq + 64 * g.val) ecc) engineReq
        (l.src + 256 * l.seq + 64 * g.val) 6).edgeFrame false
      else (s.memEcc (l.src + 256 * l.seq + 64 * g.val) ecc).edgeFrame true) := by
  have hready : (s.alive && s.mode != .faultHold && s.pwr.edgeOn && !s.ring.iso.getLsbD 31) = true := by
    simp only [h.alive, bne_iff_ne.mpr h.held, h.power, h.joined, Bool.true_and, Bool.not_false]
  rw [execConfigurationFrame, when_true hready]
  dsimp only
  rw [h.load]
  dsimp only
  rw [if_neg h.not_waiting]

theorem State.edgeFrame_refused {u : State} (hload : u.edge.load = some l) (h : ¬ (l.phase = 1 ∨ l.phase = 3)) :
    u.edgeFrame false = u.edgeFail l 7 := by
  rw [State.edgeFrame, hload]
  dsimp only
  rw [if_neg h]
  rfl

/-- A fetch that is refused, or meets a lost word, fails the load with kind 7. -/
theorem execConfigurationFrame_lost (h : s.Fetches l) {ecc : Ecc} (g : Fin 4)
    (hlost : (frameCode s (l.src + 256 * l.seq)).2 ≠ 0 ∨ ecc = .lost) :
    ∃ t, execConfigurationFrame ecc g s = .next t ∧ s.LoadFailed l 7 t := by
  have hfails {u : State} {log : List Nat} (hu : s.Noted u log) :
      ∃ t, done s (u.edgeFrame false) = .next t ∧ s.LoadFailed l 7 t := by
    have hload : u.edge.load = some l := by rw [hu.frame]; exact h.load
    have hfail := State.LoadFailed.of_noted hu (u.edgeFail_failed l (show 7 < 16 by decide))
    rw [State.edgeFrame_refused hload h.not_waiting]
    exact ⟨_, done_keep hfail.keep.1 hfail.keep.2, hfail⟩
  rw [execConfigurationFrame_eq h]
  by_cases hcode : (frameCode s (l.src + 256 * l.seq)).2 = 0
  · obtain ⟨log, hecc⟩ := s.memEcc_noted (l.src + 256 * l.seq + 64 * g.val) ecc
    rw [if_neg (not_not.mpr hcode), if_pos (hlost.resolve_left (not_not.mpr hcode))]
    exact hfails (hecc.trans (logUntagged_noted _ engineReq _ 6))
  · rw [if_pos hcode]
    exact hfails (logUntagged_noted s engineReq _ _)

theorem execConfigurationFrame_fetched (h : s.Fetches l) (hcode : (frameCode s (l.src + 256 * l.seq)).2 = 0) (g : Fin 4) :
    execConfigurationFrame .clean g s = done s (s.edgeTake (s.frameOf l)) := by
  rw [execConfigurationFrame_eq h, if_neg (not_not.mpr hcode), if_neg (by decide), State.memEcc_clean, State.edgeFrame,
    h.load]
  dsimp only
  rw [if_neg h.not_waiting]
  rfl

theorem execConfigurationFrame_passes (h : s.Fetches l) (hcode : (frameCode s (l.src + 256 * l.seq)).2 = 0) (g : Fin 4)
    (hkind : frameKind s l (s.frameOf l) = 0) :
    execConfigurationFrame .clean g s = done s (s.edgeAccept l (s.frameOf l)) := by
  rw [execConfigurationFrame_fetched h hcode, State.edgeTake, h.load]
  dsimp only
  rw [if_neg h.not_waiting, hkind]
  rfl

theorem execConfigurationFrame_fails (h : s.Fetches l) (hcode : (frameCode s (l.src + 256 * l.seq)).2 = 0) (g : Fin 4)
    (hkind : frameKind s l (s.frameOf l) ≠ 0) :
    ∃ t, execConfigurationFrame .clean g s = .next t ∧ s.LoadFailed l (frameKind s l (s.frameOf l)) t := by
  have hfail := s.edgeFail_failed l (frameKind_lt s l (s.frameOf l))
  have htake : s.edgeTake (s.frameOf l) = s.edgeFail l (frameKind s l (s.frameOf l)) := by
    rw [State.edgeTake, h.load]
    dsimp only
    rw [if_neg h.not_waiting]
    split
    · exact absurd ‹_› hkind
    · rfl
  rw [execConfigurationFrame_fetched h hcode, htake]
  exact ⟨_, done_keep hfail.keep.1 hfail.keep.2, hfail⟩

end

end Sys2Proof.Machine
end

section
/-! What the running fabric's other events do: its start, a bay's isolation and release, the background check, a measured
clock tree (07 R199, R210, R213, R215). -/
namespace Sys2Proof.Machine

/-! ### Start, isolation, release (07 R213, R215, R216) -/

section
variable {s : State}

theorem execFabricRunning_at {x : Bool} {r d : Nat} {m : Option Nat} (hpend : s.edge.startPend = some (x, r, m))
    (hst : s.edge.st = .loaded) (hat : s.edgeAt x r m d = true) : execFabricRunning d s =
      .next { s with edge := { s.edge with st := .running, startPend := none }, dcyc := max s.dcyc d } := by
  rw [execFabricRunning, hpend]
  dsimp only
  rw [if_pos (by rw [hst, hat]; rfl)]
  exact done_keep rfl rfl

theorem bay_getLsbD : ∀ b p : Fin 8, (1#8 <<< b.val).getLsbD p.val = decide (p = b) := by decide

/-- t is s, its bay b isolated: its requests at the valve are over, its accepted writes are marked. -/
structure State.Isolated (s : State) (b : Fin 8) (t : State) : Prop where
  frame : t = { s with edge := t.edge, cist := t.cist, valve := t.valve }
  writes : ∀ p : Fin 8,
    t.cist.cw[p] = if p = b then s.cist.cw[p].map (fun e => { e with lost := true }) else s.cist.cw[p]
  links : ∀ k : Fin 4, (s.linkBays k).contains b.val = true → t.valve.link[k].req = false

theorem State.bayIsolate_isolated {l : EdgeLoad} (hload : s.edge.load = some l) (hphase : l.phase = 1) :
    s.Isolated l.bay s.bayIsolate ∧ s.bayIsolate.edge =
      { s.edge with isolated := s.edge.isolated ||| (1#8 <<< l.bay.val), load := some { l with phase := 2 } } := by
  let t := (s.dropPorts (1#8 <<< l.bay.val)).burstsEnd
    (fun k => ((s.dropPorts (1#8 <<< l.bay.val)).linkBays k).contains l.bay.val)
  have hisolate : s.bayIsolate = { t with edge := { s.edge with
      isolated := s.edge.isolated ||| (1#8 <<< l.bay.val), load := some { l with phase := 2 } } } := by
    rw [State.bayIsolate, hload]
    dsimp only
    rw [if_neg (not_not.mpr hphase)]
    rfl
  rw [hisolate]
  refine ⟨⟨rfl, fun p => ?_, fun k hk => ?_⟩, rfl⟩
  · refine (s.dropPorts_cw _ p).trans ?_
    rw [bay_getLsbD]
    exact if_congr decide_eq_true_iff rfl rfl
  · have hlink := State.burstsEnd_link (s.dropPorts (1#8 <<< l.bay.val))
      (fun k => ((s.dropPorts (1#8 <<< l.bay.val)).linkBays k).contains l.bay.val) k
    exact congrArg VLink.req (hlink.trans (if_pos hk))

theorem execBayIsolation_due {l : EdgeLoad} (hload : s.edge.load = some l) (hphase : l.phase = 1)
    (hdev : s.wh.devLost = false) (d : Nat) : execBayIsolation d s = .next (s.atD d).bayIsolate := by
  obtain ⟨⟨hframe, -, -⟩, -⟩ := State.bayIsolate_isolated (s := s.atD d) hload hphase
  rw [execBayIsolation, hload]
  dsimp only
  rw [if_pos ⟨hphase, hdev⟩, hframe]
  exact done_keep rfl rfl

theorem execBayRelease_at {l : EdgeLoad} {d : Nat} (hload : s.edge.load = some l) (hphase : l.phase = 3)
    (hat : s.edgeAt l.atTick l.ready l.met d = true) : execBayRelease d s = .next { s with
      dcyc := max s.dcyc d
      edge := { s.edge with
        isolated := s.edge.isolated &&& ~~~(1#8 <<< l.bay.val), bayDead := s.edge.bayDead &&& ~~~(1#8 <<< l.bay.val)
        load := none }
      cmd := { s.cmd with irqPend := s.cmd.irqPend ||| 4#32 } } := by
  have hfree : (s.atD d).bayFree = ({ s.atD d with edge := { s.edge with
      isolated := s.edge.isolated &&& ~~~(1#8 <<< l.bay.val), bayDead := s.edge.bayDead &&& ~~~(1#8 <<< l.bay.val)
      load := none } } : State).irq .cmd 2 := by
    have hload' : (s.atD d).edge.load = some l := hload
    rw [State.bayFree, hload']
    dsimp only
    rw [if_neg (not_not.mpr hphase)]
    rfl
  rw [execBayRelease, hload]
  dsimp only
  rw [if_pos ⟨hphase, hat⟩, hfree]
  exact done_keep rfl rfl

end

/-! ### The background check (07 R210) -/

/-- A loaded frame f was found wrong: its own SEQ is recorded, which is fatal in a run and contained otherwise. -/
def State.foundWrong (s : State) (f : BitVec 2048) : State :=
  let t := (s.setBit Reg.edgeStat 21).setFld Reg.edgeCfgErr 31 18 (bits (frameNat f 0 4) 31 18)
  if t.running then t.fatal 16 else t.contained 39

/-- t is s after its frame f was found wrong. -/
structure State.FoundWrong (s : State) (f : BitVec 2048) (t : State) : Prop where
  keep : Keep s t
  edge : t.edge = s.edge
  mem : t.mem = s.mem
  flag : bit (t.reg Reg.edgeStat) 21 = true
  seq : t.fld Reg.edgeCfgErr 31 18 = frameNat f 0 4 / 2 ^ 18
  fatal : s.running = true → t.fatalSeen = true
  contained : s.running = false → t.fatalSeen = s.fatalSeen

theorem frameNat_header (f : BitVec 2048) : bits (frameNat f 0 4) 31 18 = frameNat f 0 4 / 2 ^ 18 := by
  have hlt : frameNat f 0 4 < 2 ^ 32 := Nat.mod_lt _ (by decide)
  rw [bits, Nat.shiftRight_eq_div_pow]
  omega

theorem State.foundWrong_spec (s : State) (f : BitVec 2048) : s.FoundWrong f (s.foundWrong f) := by
  let t := (s.setBit Reg.edgeStat 21).setFld Reg.edgeCfgErr 31 18 (bits (frameNat f 0 4) 31 18)
  have hflag : bit (t.reg Reg.edgeStat) 21 = true := by
    rw [State.setFld_reg_other _ _ _ _ _ _ (by decide)]
    exact s.bit_setBit_same _ (by decide)
  have hseq : t.fld Reg.edgeCfgErr 31 18 = frameNat f 0 4 / 2 ^ 18 := by
    rw [State.fld_setFld_same _ _ _ _ _ (by decide), frameNat_header]
    have hlt : frameNat f 0 4 < 2 ^ 32 := Nat.mod_lt _ (by decide)
    omega
  have hseen : t.fatalSeen = s.fatalSeen := congrArg (· != 0)
    (State.fld_of_reg_eq ((State.setFld_reg_other _ _ _ _ _ _ (by decide)).trans
      (s.setBit_reg_other _ _ _ (by decide))) 5 0)
  show s.FoundWrong f (if s.running then t.fatal 16 else t.contained 39)
  cases hrun : s.running with
  | true =>
    have hreg {b : Nat} (hb : b ∉ fatalRegs) := t.fatal_reg_other 16 false hb
    obtain ⟨r, v, w, hframe⟩ := t.fatal_frame 16 false
    rw [if_pos rfl]
    refine ⟨keep_fatal t 16 false, by rw [hframe]; rfl, by rw [hframe]; rfl, ?_, ?_,
      fun _ => t.fatal_fatalSeen false (by decide), fun h => absurd (hrun.symm.trans h) (by decide)⟩
    · rw [hreg (by decide)]
      exact hflag
    · rw [State.fld_of_reg_eq (hreg (by decide))]
      exact hseq
  | false =>
    have hnoted := t.contained_noted 39
    have hreg {b : Nat} (hb : b ∉ containedRegs) := hnoted.others b hb
    rw [if_neg Bool.false_ne_true]
    refine ⟨hnoted.keep, by rw [hnoted.frame]; rfl, hnoted.mem, ?_, ?_,
      fun h => absurd (hrun.symm.trans h) (by decide), fun _ => ?_⟩
    · rw [hreg (by decide)]
      exact hflag
    · rw [State.fld_of_reg_eq (hreg (by decide))]
      exact hseq
    · exact (congrArg (· != 0) (State.fld_of_reg_eq (hreg (by decide)) 5 0)).trans hseen

/-- The payload bit that has flipped. -/
def State.upsetBit (s : State) : Nat := 32 + Config.freeNat s.free % 1984

/-- A payload bit of frame n has flipped. -/
def State.frameUpset (s : State) (n : Nat) : State := { s with free := s.free + 1, edge := { s.edge with
  frames := sset noFrame s.edge.frames n (sget noFrame s.edge.frames n ^^^ (1#2048 <<< s.upsetBit)) } }

section
variable {s : State} {n : Nat}

theorem execBackgroundCheck_whole (hst : s.edge.st = .running) (hany : s.edge.frames.any (·.1 == n) = true) :
    execBackgroundCheck n false s = done s (if frameCrcOk (sget noFrame s.edge.frames n) then s
      else s.foundWrong (sget noFrame s.edge.frames n)) :=
  when_true (by rw [hst, hany]; rfl) _ _

theorem execBackgroundCheck_upset (hst : s.edge.st = .running) (hany : s.edge.frames.any (·.1 == n) = true) :
    execBackgroundCheck n true s =
      done s (if frameCrcOk (sget noFrame s.edge.frames n ^^^ (1#2048 <<< s.upsetBit)) then s.frameUpset n
        else (s.frameUpset n).foundWrong (sget noFrame s.edge.frames n ^^^ (1#2048 <<< s.upsetBit))) :=
  when_true (by rw [hst, hany]; rfl) _ _

/-- A flipped bit is in memory, and found where it breaks the frame's CRC. -/
theorem execBackgroundCheck_upset_spec (hst : s.edge.st = .running) (hany : s.edge.frames.any (·.1 == n) = true) :
    ∃ t i, execBackgroundCheck n true s = .next t ∧ 32 ≤ i ∧ i < 2016 ∧ t.mem = s.mem ∧
      sget noFrame t.edge.frames n = sget noFrame s.edge.frames n ^^^ (1#2048 <<< i) ∧
      (frameCrcOk (sget noFrame s.edge.frames n ^^^ (1#2048 <<< i)) = false → bit (t.reg Reg.edgeStat) 21 = true) := by
  have hlo : 32 ≤ s.upsetBit := Nat.le_add_right 32 _
  have hhi : s.upsetBit < 2016 := by
    have := Nat.mod_lt (Config.freeNat s.free) (show 1984 > 0 by decide)
    unfold State.upsetBit
    omega
  have hframe := sget_sset_same noFrame s.edge.frames n (sget noFrame s.edge.frames n ^^^ (1#2048 <<< s.upsetBit))
  rw [execBackgroundCheck_upset hst hany]
  split
  · next hok => exact ⟨s.frameUpset n, s.upsetBit, done_keep rfl rfl, hlo, hhi, rfl, hframe,
      fun h => absurd (hok.symm.trans h) (by decide)⟩
  · have hwrong := (s.frameUpset n).foundWrong_spec (sget noFrame s.edge.frames n ^^^ (1#2048 <<< s.upsetBit))
    exact ⟨_, s.upsetBit, done_keep hwrong.keep.1 hwrong.keep.2, hlo, hhi, hwrong.mem, by rw [hwrong.edge]; exact hframe,
      fun _ => hwrong.flag⟩

end

/-! ### A measured clock tree (07 R199) -/

/-- Tree n was measured at mhz. -/
def State.treeMeasured (s : State) (n : Fin 4) (mhz : BitVec 10) : State :=
  let t := s.setReg (Reg.clockGclkMhz + 4 * n.val) (mhz.setWidth 32)
  if 520 < mhz.toNat then t.setBit Reg.edgeStat (16 + n.val) else t

theorem clockGclkMhz_ne_edgeStat : ∀ n : Fin 4, Reg.clockGclkMhz + 4 * n.val ≠ Reg.edgeStat := by decide

theorem State.treeMeasured_spec (s : State) (n : Fin 4) (mhz : BitVec 10) :
    s.treeMeasured n mhz = { s with regs := (s.treeMeasured n mhz).regs } ∧
    ((s.treeMeasured n mhz).reg (Reg.clockGclkMhz + 4 * n.val)).toNat = mhz.toNat ∧
    bit ((s.treeMeasured n mhz).reg Reg.edgeStat) (16 + n.val) =
      (decide (520 < mhz.toNat) || bit (s.reg Reg.edgeStat) (16 + n.val)) := by
  have hne := clockGclkMhz_ne_edgeStat n
  have hmhz : (mhz.setWidth 32).toNat = mhz.toNat := BitVec.toNat_setWidth_of_le (by decide)
  unfold State.treeMeasured
  dsimp only
  split
  · next h =>
    rw [State.setBit_reg_other _ _ _ _ hne, State.setReg_reg_same, State.bit_setBit _ _ _ (by omega)]
    exact ⟨rfl, hmhz, by simp [h]⟩
  · next h =>
    rw [State.setReg_reg_same, State.setReg_reg_other _ _ _ _ hne.symm]
    exact ⟨rfl, hmhz, by simp [h]⟩

theorem execGclkFast_powered {s : State} (hal : s.alive = true) (hon : s.pwr.edgeOn = true) (n : Fin 4) (mhz : BitVec 10) :
    execGclkFast n mhz s = .next (s.treeMeasured n mhz) := by
  have hframe := (s.treeMeasured_spec n mhz).1
  refine (when_true (by rw [hal, hon]; rfl) _ _).trans ?_
  show done s (s.treeMeasured n mhz) = _
  exact done_keep (by rw [hframe]) (by rw [hframe])

end Sys2Proof.Machine
end

section
/-! The serial controllers: their queue, their received bytes, their lines (07 R222). -/
namespace Sys2Proof.Machine

section
variable {s : State} {q : Requester} {i : Fin 5}

theorem isI2c_iff : isI2c i = true ↔ i = 2 ∨ i = 3 := by
  revert i
  decide

theorem isI2c_eq_false_iff : isI2c i = false ↔ ¬ (i = 2 ∨ i = 3) := by
  rw [← isI2c_iff, Bool.not_eq_true]

theorem State.setSer_self (s : State) (i : Fin 5) : s.setSer i s.edge.ser[i] = s := by
  rw [State.setSer, vset_self]

/-- A byte on the lines of controller i: conditions, NACK, and on SPI the CS_N lines and the mode in force. -/
def State.wireOf (s : State) (i : Fin 5) (sent : Bool) (b : Byte) (c : BitVec 4) (nack : Bool) : SerFrame :=
  ⟨sent, b, c.getLsbD 0, c.getLsbD 1, nack,
    if i = 4 then BitVec.ofNat 4 ((s.reg (Reg.edgeSerCtl + 16 * i.val)).toNat / 2 ^ 20) else 0,
    if i = 4 then BitVec.ofNat 2 ((s.reg (Reg.edgeSerCtl + 16 * i.val)).toNat / 2) else 0⟩

theorem State.serFrame_eq (s : State) (i : Fin 5) (sent : Bool) (b : Byte) (c : BitVec 4) (nack : Bool) :
    s.serFrame i sent b c nack = s.wireOf i sent b c nack := by
  have hspi : (i.val == 4) = true ↔ i = 4 := by rw [beq_iff_eq, Fin.ext_iff]; rfl
  have hcs (w : Nat) : BitVec.ofNat 4 (bits w 23 20) = BitVec.ofNat 4 (w / 2 ^ 20) := by
    apply BitVec.eq_of_toNat_eq
    simp [bits, Nat.shiftRight_eq_div_pow]
  have hmode (w : Nat) : BitVec.ofNat 2 (bits w 2 1) = BitVec.ofNat 2 (w / 2) := by
    apply BitVec.eq_of_toNat_eq
    simp [bits, Nat.shiftRight_eq_div_pow]
  simp only [State.serFrame, State.wireOf, hspi, hcs, hmode]

/-- t is s after controller i became y and lost a byte for want of room. -/
def State.SerLost (s : State) (i : Fin 5) (y : Serial) (t : State) : Prop :=
  t = { s.setSer i y with regs := t.regs } ∧ bit (t.reg (Reg.edgeSerStat + 16 * i.val)) 12 = true

theorem State.serOvr_lost (s : State) (i : Fin 5) (y : Serial) : s.SerLost i y ((s.setSer i y).serOvr i) :=
  ⟨rfl, State.bit_setBit_same _ _ (by decide)⟩

/-! ### The data register -/

theorem execSerDataWrite_disabled (hadm : s.admitted q true (Reg.edgeSerData + 16 * i.val) = true)
    (hen : s.serEn i = false) (v : Word) : execSerDataWrite q i v s = .next s := by
  rw [execSerDataWrite, done_regWrite hadm, State.serWrite, hen]
  exact done_keep rfl rfl

theorem execSerDataWrite_queues (hadm : s.admitted q true (Reg.edgeSerData + 16 * i.val) = true)
    (hen : s.serEn i = true) (hroom : s.edge.ser[i].tx.length < 16) (v : Word) : execSerDataWrite q i v s =
      .next (s.setSer i { s.edge.ser[i] with
        tx := s.edge.ser[i].tx ++ [(v.setWidth 8, if isI2c i then (v >>> 8).setWidth 4 else 0)] }) := by
  rw [execSerDataWrite, done_regWrite hadm, State.serWrite, hen]
  dsimp only
  rw [if_neg (by decide), if_neg (Nat.not_le.mpr hroom)]
  exact done_keep rfl rfl

theorem execSerDataWrite_full (hadm : s.admitted q true (Reg.edgeSerData + 16 * i.val) = true)
    (hen : s.serEn i = true) (hfull : 16 ≤ s.edge.ser[i].tx.length) (v : Word) :
    ∃ t, execSerDataWrite q i v s = .next t ∧ s.SerLost i s.edge.ser[i] t := by
  have hlost := s.serOvr_lost i s.edge.ser[i]
  rw [State.setSer_self] at hlost
  refine ⟨_, ?_, hlost⟩
  rw [execSerDataWrite, done_regWrite hadm, State.serWrite, hen, if_neg (by decide), if_pos hfull]
  exact done_keep rfl rfl

theorem execSerDataRead_admitted (hadm : s.admitted q false (Reg.edgeSerData + 16 * i.val) = true) :
    execSerDataRead q i s = .next (if q.quiet then s else
      s.setSer i { s.edge.ser[i] with rx := s.edge.ser[i].rx.tail }) := by
  obtain ⟨hal, hcode⟩ := State.admitted_iff.mp hadm
  rw [execSerDataRead, when_true hal, if_pos hcode, State.serPop]
  cases q.quiet <;> exact done_keep rfl rfl

/-! ### The control register -/

theorem execSerCtl_admitted (hadm : s.admitted q true (Reg.edgeSerCtl + 16 * i.val) = true) (v : Word) :
    ∃ t, execSerCtl q i v s = .next t ∧
      t.reg (Reg.edgeSerCtl + 16 * i.val) = v &&& (if i = 4 then 0xFFFFF7#32 else 0xFFFFF1#32) ∧ t.mem = s.mem ∧
      t.edge.ser[i] = if v.getLsbD 0 then s.edge.ser[i] else { s.edge.ser[i] with tx := [], rx := [] } := by
  have hspi : i.val = 4 ↔ i = 4 := Fin.ext_iff (b := 4).symm
  have hword := s.setReg_reg_same (Reg.edgeSerCtl + 16 * i.val) (v &&& if i = 4 then 0xFFFFF7#32 else 0xFFFFF1#32)
  rw [execSerCtl, done_regWrite hadm]
  simp only [State.serCtlWrite, hspi, bit]
  cases hv : v.getLsbD 0 with
  | true => exact ⟨_, done_keep rfl rfl, hword, rfl, rfl⟩
  | false => exact ⟨_, done_keep rfl rfl, hword, rfl, vset_get_same _ _ _⟩

/-! ### Bytes on the lines -/

section
variable {e : Byte × BitVec 4} {l : List (Byte × BitVec 4)}

theorem execSerialByteSent_plain (htx : s.edge.ser[i].tx = e :: l) (hread : i = 2 ∨ i = 3 → e.2.getLsbD 2 = false)
    {nack : Bool} (hnack : (nack && isI2c i) = false) : execSerialByteSent i nack s =
      .next (s.setSer i { s.edge.ser[i] with tx := l, wire := some (s.wireOf i true e.1 e.2 false) }) := by
  have hsend : (isI2c i && e.2.getLsbD 2) = false := Bool.and_eq_false_imp.mpr fun h => hread (isI2c_iff.mp h)
  rw [execSerialByteSent]
  dsimp only
  rw [htx]
  dsimp only
  rw [hsend, hnack, State.serFrame_eq]
  exact done_keep rfl rfl

theorem execSerialByteSent_nacked (htx : s.edge.ser[i].tx = e :: l) (hread : i = 2 ∨ i = 3 → e.2.getLsbD 2 = false)
    (hi2c : i = 2 ∨ i = 3) : ∃ t, execSerialByteSent i true s = .next t ∧
      t = { s.setSer i { s.edge.ser[i] with tx := [], wire := some (s.wireOf i true e.1 e.2 true) } with regs := t.regs } ∧
      bit (t.reg (Reg.edgeSerStat + 16 * i.val)) 11 = true := by
  have hsend : (isI2c i && e.2.getLsbD 2) = false := Bool.and_eq_false_imp.mpr fun _ => hread hi2c
  rw [execSerialByteSent]
  dsimp only
  rw [htx]
  dsimp only
  rw [hsend, isI2c_iff.mpr hi2c, State.serFrame_eq]
  exact ⟨_, done_keep rfl rfl, rfl, State.bit_setBit_same _ _ (by decide)⟩

end

/-- A received byte b, its queue now tx and its lines w: into the FIFO where there is room, and lost otherwise. -/
def State.rxTaken (s : State) (i : Fin 5) (tx : List (Byte × BitVec 4)) (w : SerFrame) (b : Byte) : State :=
  if 16 ≤ s.edge.ser[i].rx.length then (s.setSer i ⟨tx, s.edge.ser[i].rx, some w⟩).serOvr i
  else s.setSer i ⟨tx, s.edge.ser[i].rx ++ [b], some w⟩

section
variable (tx : List (Byte × BitVec 4)) (w : SerFrame) (b : Byte)

theorem done_rxTaken_room (h : s.edge.ser[i].rx.length < 16) :
    done s (s.rxTaken i tx w b) = .next (s.setSer i ⟨tx, s.edge.ser[i].rx ++ [b], some w⟩) := by
  rw [State.rxTaken, if_neg (Nat.not_le.mpr h)]
  exact done_keep rfl rfl

theorem done_rxTaken_full (h : 16 ≤ s.edge.ser[i].rx.length) :
    ∃ t, done s (s.rxTaken i tx w b) = .next t ∧ s.SerLost i ⟨tx, s.edge.ser[i].rx, some w⟩ t := by
  rw [State.rxTaken, if_pos h]
  exact ⟨_, done_keep rfl rfl, s.serOvr_lost i _⟩

end

theorem execSerialByteReceived_plain (hen : s.serEn i = true) (hplain : ¬ (i = 2 ∨ i = 3)) (b : Byte) :
    execSerialByteReceived i b s =
      done s (s.rxTaken i s.edge.ser[i].tx (s.wireOf i false b 0 false) b) := by
  rw [execSerialByteReceived, when_true hen, isI2c_eq_false_iff.mpr hplain]
  dsimp only
  rw [State.serFrame_eq]
  rfl

theorem execSerialByteReceived_unread (hen : s.serEn i = true) (hi2c : i = 2 ∨ i = 3)
    (hhead : ∀ e, s.edge.ser[i].tx.head? = some e → e.2.getLsbD 2 = false) (b : Byte) :
    execSerialByteReceived i b s = .next s := by
  rw [execSerialByteReceived, when_true hen, isI2c_iff.mpr hi2c]
  dsimp only
  cases htx : s.edge.ser[i].tx with
  | nil => exact done_keep rfl rfl
  | cons e l =>
    dsimp only
    rw [hhead e (by rw [htx]; rfl)]
    exact done_keep rfl rfl

theorem execSerialByteReceived_read {e : Byte × BitVec 4} {l : List (Byte × BitVec 4)} (hen : s.serEn i = true)
    (hi2c : i = 2 ∨ i = 3) (htx : s.edge.ser[i].tx = e :: l) (hread : e.2.getLsbD 2 = true) (b : Byte) :
    execSerialByteReceived i b s = done s (s.rxTaken i l (s.wireOf i false b e.2 (e.2.getLsbD 3)) b) := by
  rw [execSerialByteReceived, when_true hen, isI2c_iff.mpr hi2c]
  dsimp only
  rw [htx]
  dsimp only
  rw [hread, State.serFrame_eq]
  rfl

end

end Sys2Proof.Machine
end

section
open Sys2Proof Sys2Proof.Machine

/-- Settles O41: the engine's commands state by state; a frame by whether its fetch is answered and what frameKind finds; a start,
an isolation and a release at their edges; a wrong frame by foundWrong; each serial controller by what its register accesses and
the bytes on its lines make of its queue. -/
theorem edgeAndSerial : Obligations.EdgeAndSerial := by
  unfold Obligations.EdgeAndSerial
  refine ⟨?engine, ?serial⟩
  case engine =>
    intro s q bay atTick d refused b put idle halted
    have hrefuse : refused s.edgeRefuse :=
      ⟨s.edgeRefuse_refused.frame, s.edgeRefuse_refused.kind, s.edgeRefuse_refused.seq, s.edgeRefuse_refused.flag⟩
    have hhalted (t : State) (h : s.Halted t) : halted t :=
      ⟨by rw [h.frame], by rw [h.frame], h.links, h.ports⟩
    refine ⟨?commands, ?frames, ?starts, ?bays, ?background, ?tree⟩
    case commands =>
      intro hadm first
      refine ⟨fun hon hst => execLoad_begins hadm hon hst, fun hon hst hidle => ?loadStops,
        fun hon hst => ⟨_, execLoad_refused hadm hon hst, hrefuse⟩, fun hon => execLoad_off hadm hon,
        fun hst hload => execReload_begins hadm hst hload bay atTick,
        fun h => ⟨_, execReload_refused hadm h bay atTick, hrefuse⟩,
        fun hst hpend => execStart_begins hadm hst hpend atTick,
        fun h => ⟨_, execStart_refused hadm h atTick, hrefuse⟩, fun hst => ?stop,
        fun hst => execStop_loaded hadm hst, fun hst => ⟨_, execStop_refused hadm hst, hrefuse⟩⟩
      case loadStops =>
        obtain ⟨t, hexec, ht, hedge⟩ := execLoad_leaves hadm hon hst hidle
        exact ⟨t, hexec, hhalted t ht, hedge⟩
      case stop =>
        obtain ⟨ht, hedge⟩ := State.edgeHalt_running hst
        exact ⟨_, execStop_running hadm hst, hhalted _ ht, hedge⟩
    case frames =>
      intro l g hal hheld hon hjoined hload hphase a f ok fails
      have hfetch : s.Fetches l := ⟨hal, hheld, hon, hjoined, hload, hphase⟩
      have hfails (kind : Nat) (t : State) (h : s.LoadFailed l kind t) : fails t kind :=
        ⟨h.mem, h.load, h.st, h.bayDead, fun hseq => ⟨h.kind, h.seq hseq⟩, h.irq⟩
      refine ⟨?next, ?last, ?wrong, ?lost⟩
      case next =>
        intro ⟨hcode, hkind⟩ hnext
        obtain ⟨m, p, haccept⟩ := s.edgeAccept_next l f hnext
        have hexec := execConfigurationFrame_passes hfetch hcode g hkind
        exact ⟨_, l.passed f, (hexec.trans (congrArg (done s) haccept)).trans (done_keep rfl rfl), rfl, rfl, rfl, rfl,
          l.passed_crc f, rfl, l.passed_phase f⟩
      case last =>
        intro ⟨hcode, hkind⟩ hend
        have hexec := execConfigurationFrame_passes hfetch hcode g hkind
        cases hreload : l.reload with
        | false =>
          obtain ⟨m, p, x, haccept⟩ := s.edgeAccept_loaded l f hend hreload
          exact ⟨_, (hexec.trans (congrArg (done s) haccept)).trans (done_keep rfl rfl), rfl,
            fun _ => ⟨rfl, rfl, rfl, rfl⟩, fun h => absurd h (by decide)⟩
        | true =>
          obtain ⟨m, p, x, haccept⟩ := s.edgeAccept_released l f hend hreload
          exact ⟨_, (hexec.trans (congrArg (done s) haccept)).trans (done_keep rfl rfl), rfl,
            fun h => absurd h (by decide), fun _ => ⟨rfl, _, rfl, rfl, rfl⟩⟩
      case wrong =>
        intro hcode hkind
        obtain ⟨t, hexec, ht⟩ := execConfigurationFrame_fails hfetch hcode g hkind
        exact ⟨t, hexec, hfails _ t ht⟩
      case lost =>
        intro ecc hlost
        obtain ⟨t, hexec, ht⟩ := execConfigurationFrame_lost hfetch g hlost
        exact ⟨t, hexec, hfails 7 t ht⟩
    case starts => exact fun x r m hpend hst hat => execFabricRunning_at hpend hst hat
    case bays =>
      rintro l hload rfl
      refine ⟨fun hphase hdev => ?_, fun hphase hat => ⟨_, execBayRelease_at hload hphase hat, rfl, rfl, rfl, rfl⟩⟩
      obtain ⟨ht, hedge⟩ := State.bayIsolate_isolated (s := s.atD d) hload hphase
      exact ⟨_, execBayIsolation_due hload hphase hdev d, hedge, by rw [ht.frame]; rfl, by rw [ht.frame]; rfl,
        by rw [ht.frame]; rfl, ht.writes, ht.links⟩
    case background =>
      intro n hst hany f
      have hwrong := s.foundWrong_spec f
      refine ⟨fun hok => ?_, fun hbad => ?_, execBackgroundCheck_upset_spec hst hany⟩
      · refine (execBackgroundCheck_whole hst hany).trans ?_
        rw [if_pos hok]
        exact done_keep rfl rfl
      · refine ⟨_, (execBackgroundCheck_whole hst hany).trans ?_, hwrong.flag, hwrong.seq, hwrong.fatal, hwrong.contained,
          hwrong.edge, hwrong.mem⟩
        rw [if_neg (by rw [hbad]; decide)]
        exact done_keep hwrong.keep.1 hwrong.keep.2
    case tree => exact fun n mhz hal hon => ⟨_, execGclkFast_powered hal hon n mhz, s.treeMeasured_spec n mhz⟩
  case serial =>
    intro s q i v byte x stat ctl put i2c wire ovr en
    refine ⟨?write, fun hadm => execSerDataRead_admitted hadm, fun hadm => execSerCtl_admitted hadm v, ?sent, ?received⟩
    case write =>
      intro hadm
      refine ⟨fun hen => execSerDataWrite_disabled hadm hen v, fun hen hroom => ?_,
        fun hen hfull => execSerDataWrite_full hadm hen hfull v⟩
      have hi : (i.val = 2 ∨ i.val = 3) ↔ isI2c i = true := by rw [isI2c_iff, Fin.ext_iff, Fin.ext_iff]; rfl
      rw [if_congr hi rfl rfl]
      exact execSerDataWrite_queues hadm hen hroom v
    case sent =>
      intro e l htx hread
      refine ⟨execSerialByteSent_plain htx hread rfl, fun hplain => ?_, fun hi2c => execSerialByteSent_nacked htx hread hi2c⟩
      exact execSerialByteSent_plain htx hread (isI2c_eq_false_iff.mpr hplain)
    case received =>
      intro hen
      refine ⟨fun hplain hroom => ?_, fun hplain hfull => ?_,
        fun hi2c hhead => execSerialByteReceived_unread hen hi2c hhead byte,
        fun e l hi2c htx hread => ⟨fun hroom => ?_, fun hfull => ?_⟩⟩
      · exact (execSerialByteReceived_plain hen hplain byte).trans (done_rxTaken_room _ _ byte hroom)
      · rw [show exec (.serialByteReceived i byte) s = _ from execSerialByteReceived_plain hen hplain byte]
        exact done_rxTaken_full _ _ byte hfull
      · exact (execSerialByteReceived_read hen hi2c htx hread byte).trans (done_rxTaken_room _ _ byte hroom)
      · rw [show exec (.serialByteReceived i byte) s = _ from execSerialByteReceived_read hen hi2c htx hread byte]
        exact done_rxTaken_full _ _ byte hfull

end

section
/-! Which links a write of JESD_CTL enables: those that stay, and of the new ones the valid, whose lanes no enabled link
holds (08 R226). -/
namespace Sys2Proof.Machine

/-- One requested link: a new one is enabled where its configuration is valid beside the links enabled so far. -/
def enableLink (old want : BitVec 4) (cfg : Nat → Word) (khz : Nat) (r : BitVec 4 × Bool) (k : Nat) : BitVec 4 × Bool :=
  if want.getLsbD k && !old.getLsbD k then
    (if cfgValid (cfg k) khz (lanesOf r.1 cfg) then (r.1 ||| (1#4 <<< k), r.2) else (r.1, true))
  else r

theorem enables_eq_foldl (old want : BitVec 4) (cfg : Nat → Word) (khz : Nat) :
    enables old want cfg khz = (List.range 4).foldl (enableLink old want cfg khz) (old &&& want, false) := rfl

/-- A request leaves the enables as they are, or adds a link that is wanted and valid. -/
theorem enableLink_cases (old want : BitVec 4) (cfg : Nat → Word) (khz : Nat) (r : BitVec 4 × Bool) (k : Nat) :
    (enableLink old want cfg khz r k).1 = r.1 ∨ (want.getLsbD k = true ∧ cfgValid (cfg k) khz (lanesOf r.1 cfg) = true ∧
      (enableLink old want cfg khz r k).1 = r.1 ||| (1#4 <<< k)) := by
  unfold enableLink
  split
  case isFalse => exact .inl rfl
  case isTrue hnew =>
    split
    · next hvalid => exact .inr ⟨(Bool.and_eq_true_iff.mp hnew).1, hvalid, rfl⟩
    · exact .inl rfl

/-- What holds of the links that stay, and of every set of enables with a valid wanted link added, holds of the enables after
a write. -/
theorem enables_induction {old want : BitVec 4} {cfg : Nat → Word} {khz : Nat} {P : BitVec 4 → Prop} (hstay : P (old &&& want))
    (hadd : ∀ en k, k < 4 → want.getLsbD k = true → cfgValid (cfg k) khz (lanesOf en cfg) = true → P en →
      P (en ||| (1#4 <<< k))) :
    P (enables old want cfg khz).1 := by
  rw [enables_eq_foldl]
  refine List.foldlRecOn (motive := fun r : BitVec 4 × Bool => P r.1) _ _ hstay fun r hr k hk => ?_
  rcases enableLink_cases old want cfg khz r k with hsame | ⟨hwant, hvalid, hnew⟩
  · rw [hsame]
    exact hr
  · rw [hnew]
    exact hadd r.1 k (List.mem_range.mp hk) hwant hvalid hr

theorem getLsbD_or_one_shiftLeft {n : Nat} (x : BitVec n) (k : Nat) {i : Nat} (hi : i < n) :
    (x ||| (1#n <<< k)).getLsbD i = (x.getLsbD i || decide (i = k)) := by
  rw [BitVec.getLsbD_or, BitVec.getLsbD_shiftLeft, BitVec.getLsbD_one]
  congr 1
  rw [Bool.eq_iff_iff]
  simp only [Bool.and_eq_true, decide_eq_true_eq, Bool.not_eq_true', decide_eq_false_iff_not]
  omega

/-- A link that is enabled was asked for. -/
theorem enables_wanted (old want : BitVec 4) (cfg : Nat → Word) (khz : Nat) {i : Nat} (hi : i < 4)
    (h : (enables old want cfg khz).1.getLsbD i = true) : want.getLsbD i = true := by
  revert h
  refine enables_induction (P := fun en => en.getLsbD i = true → want.getLsbD i = true) (fun hstay => ?_)
    fun en k _ hwant _ ih hen => ?_
  · exact (Bool.and_eq_true_iff.mp (BitVec.getLsbD_and.symm.trans hstay)).2
  · rw [getLsbD_or_one_shiftLeft en k hi, Bool.or_eq_true, decide_eq_true_iff] at hen
    rcases hen with hold | rfl
    · exact ih hold
    · exact hwant

/-- A link that is enabled and asked for stays enabled. -/
theorem enables_stays {old want : BitVec 4} (cfg : Nat → Word) (khz : Nat) {i : Nat} (hold : old.getLsbD i = true)
    (hwant : want.getLsbD i = true) : (enables old want cfg khz).1.getLsbD i = true := by
  refine enables_induction (P := fun en => en.getLsbD i = true) ?_ fun en k _ _ _ ih => ?_
  · rw [BitVec.getLsbD_and, hold, hwant]
    rfl
  · rw [BitVec.getLsbD_or, ih]
    rfl

/-- No two links of a mask share a lane. -/
def LinksApart (cfg : Nat → Word) (en : BitVec 4) : Prop :=
  ∀ i j, i < 4 → j < 4 → i ≠ j → en.getLsbD i = true → en.getLsbD j = true →
    ∀ l, ¬ (l ∈ cfgLanes (cfg i) ∧ l ∈ cfgLanes (cfg j))

theorem mem_lanesOf_of_enabled {en : BitVec 4} {cfg : Nat → Word} {k l : Nat} (hk : k < 4) (hen : en.getLsbD k = true)
    (hl : l ∈ cfgLanes (cfg k)) : l ∈ lanesOf en cfg :=
  List.mem_flatMap.mpr ⟨k, List.mem_range.mpr hk, by rw [if_pos hen]; exact hl⟩

/-- A valid link has no lane among those in use (08 R226). -/
theorem cfgValid_disjoint {w : Word} {khz : Nat} {used : List Nat} (h : cfgValid w khz used = true) {l : Nat}
    (hl : l ∈ cfgLanes w) : l ∉ used := by
  have hall := List.all_eq_true.mp (Bool.and_eq_true_iff.mp h).2 l hl
  simpa using hall

theorem LinksApart.add {cfg : Nat → Word} {en : BitVec 4} {khz k : Nat} (h : LinksApart cfg en)
    (hvalid : cfgValid (cfg k) khz (lanesOf en cfg) = true) : LinksApart cfg (en ||| (1#4 <<< k)) := by
  intro i j hi hj hne hei hej l ⟨hli, hlj⟩
  rw [getLsbD_or_one_shiftLeft en k hi, Bool.or_eq_true, decide_eq_true_iff] at hei
  rw [getLsbD_or_one_shiftLeft en k hj, Bool.or_eq_true, decide_eq_true_iff] at hej
  rcases hei with hei | rfl <;> rcases hej with hej | rfl
  · exact h i j hi hj hne hei hej l ⟨hli, hlj⟩
  · exact cfgValid_disjoint hvalid hlj (mem_lanesOf_of_enabled hi hei hli)
  · exact cfgValid_disjoint hvalid hli (mem_lanesOf_of_enabled hj hej hlj)
  · exact hne rfl

theorem enables_apart {old want : BitVec 4} {cfg : Nat → Word} (khz : Nat) (h : LinksApart cfg (old &&& want)) :
    LinksApart cfg (enables old want cfg khz).1 :=
  enables_induction (P := LinksApart cfg) h fun _ _ _ _ hvalid hen => hen.add hvalid

/-! ### A write of JESD_CTL (08 R226, R238, R245) -/

section
variable (s : State) (rx tx : BitVec 4) (k : Fin 4)

theorem startLinks_get (old new : BitVec 4) (st : Vector Nat 4) : (startLinks old new st)[k] =
    if new.getLsbD k.val = false then 0 else if old.getLsbD k.val then st[k] else 1 := by
  refine (Vector.getElem_ofFn _).trans ?_
  cases new.getLsbD k.val <;> cases old.getLsbD k.val <;> rfl

theorem State.jesdEnable_link (h : tx.getLsbD k.val = false) :
    (s.jesdEnable rx tx).valve.link[k].req = false ∧ (s.jesdEnable rx tx).valve.link[k].granting = false := by
  have hlink : (s.jesdEnable rx tx).valve.link[k] = { s.valve.link[k] with req := false, granting := false } :=
    (State.burstsEnd_link _ _ k).trans (if_pos (by rw [h]; rfl))
  rw [hlink]
  exact ⟨rfl, rfl⟩

end

/-- The receive enables after a write of v, and whether a requested link was invalid. -/
def State.rxWanted (s : State) (v : Word) : BitVec 4 × Bool := enables s.jesd.rxEn (v.setWidth 4) s.rxCfg s.wh.khz

/-- The same for the transmit links. -/
def State.txWanted (s : State) (v : Word) : BitVec 4 × Bool := enables s.jesd.txEn ((v >>> 4).setWidth 4) s.txCfg s.wh.khz

/-- What the write leaves, but for CFG_ERR. -/
def State.jesdWritten (s : State) (v : Word) : State :=
  let t := s.jesdEnable (s.rxWanted v).1 (s.txWanted v).1
  { t with jesd := { t.jesd with srTrack := v.getLsbD 8 } }

theorem State.jesdCtlWrite_eq (s : State) (v : Word) : s.jesdCtlWrite v =
    if (s.rxWanted v).2 || (s.txWanted v).2 then (s.jesdWritten v).setBit Reg.jesdStat 16 else s.jesdWritten v := rfl

/-- CFG_ERR is a stored bit. -/
theorem State.jesdCtlWrite_frame (s : State) (v : Word) :
    s.jesdCtlWrite v = { s.jesdWritten v with regs := (s.jesdCtlWrite v).regs } := by
  rw [State.jesdCtlWrite_eq]
  split <;> rfl

theorem execJesdCtl_admitted {s : State} {q : Requester} (h : s.admitted q true Reg.jesdCtl = true) (v : Word) :
    execJesdCtl q v s = .next (s.jesdCtlWrite v) := by
  refine (done_regWrite h _).trans (done_keep ?_ ?_) <;> rw [State.jesdCtlWrite_frame] <;> rfl

end Sys2Proof.Machine
end

section
/-! The lanes of a receive link: their error counts, lock, loss of lock, markers (08 R230). -/
namespace Sys2Proof.Machine

/-! ### Error counts (08 R230; 15 R407) -/

/-- An event counts in a field that has room; the saturation bit stands outside it. -/
theorem State.countEv_fld_one (s : State) {a hi lo ob : Nat} (hhi : hi < 32) (hob : ob < lo ∨ hi < ob)
    (h : s.fld a hi lo < 2 ^ (hi + 1 - lo) - 1) : (s.countEv a hi lo a ob 1).fld a hi lo = s.fld a hi lo + 1 := by
  have hset : (s.setFld a hi lo (s.fld a hi lo + 1)).fld a hi lo = s.fld a hi lo + 1 := by
    rw [State.fld_setFld_same _ _ _ _ _ hhi]
    exact Nat.mod_eq_of_lt (by omega)
  rw [State.countEv, if_neg (by decide)]
  dsimp only
  rw [Nat.min_eq_left (by omega)]
  split
  · rw [State.setBit, State.fld_setFld_disjoint _ _ _ _ _ _ _ hhi hob, hset]
  · exact hset

/-- Counting leaves the other fields of the word. -/
theorem State.countEv_fld_disjoint (s : State) {a hi lo ob hi' lo' : Nat} (n : Nat) (hhi : hi' < 32)
    (hfld : hi < lo' ∨ hi' < lo) (hob : ob < lo' ∨ hi' < ob) :
    (s.countEv a hi lo a ob n).fld a hi' lo' = s.fld a hi' lo' := by
  unfold State.countEv
  split
  · rfl
  · dsimp only
    split
    · rw [State.setBit, State.fld_setFld_disjoint _ _ _ _ _ _ _ hhi hob, State.fld_setFld_disjoint _ _ _ _ _ _ _ hhi hfld]
    · exact State.fld_setFld_disjoint _ _ _ _ _ _ _ hhi hfld

/-- The error word of lane l. -/
def laneErr (l : Fin 16) : Nat := Reg.jesdLaneErr + 4 * l.val

/-- An error of lane l counts in field [hi:lo] of its word, and in the summary of corrected errors. -/
def State.laneError (s : State) (l : Fin 16) (hi lo : Nat) : State :=
  (s.countEv (laneErr l) hi lo (laneErr l) 24 1).corrected 5

section
variable (s : State) (l : Fin 16)

theorem State.laneError_frame (hi lo : Nat) : s.laneError l hi lo = { s with regs := (s.laneError l hi lo).regs } := by
  obtain ⟨r, hr⟩ := s.countEv_regs (laneErr l) hi lo (laneErr l) 24 1
  rw [State.laneError, hr]
  rfl

/-- The summary is not a lane's error word. -/
theorem State.corrected_fld_laneErr (source hi lo : Nat) :
    (s.corrected source).fld (laneErr l) hi lo = s.fld (laneErr l) hi lo := by
  refine State.fld_of_reg_eq (State.setBit_reg_other _ _ _ _ ?_) hi lo
  simp only [laneErr, Reg.jesdLaneErr, Reg.errorCorrSum]
  omega

theorem State.laneError_fld {hi lo : Nat} (hhi : hi < 24) (h : s.fld (laneErr l) hi lo < 2 ^ (hi + 1 - lo) - 1) :
    (s.laneError l hi lo).fld (laneErr l) hi lo = s.fld (laneErr l) hi lo + 1 := by
  rw [State.laneError, State.corrected_fld_laneErr, State.countEv_fld_one s (by omega) (.inr hhi) h]

theorem State.laneError_fld_disjoint {hi lo hi' lo' : Nat} (hhi : hi' < 24) (h : hi < lo' ∨ hi' < lo) :
    (s.laneError l hi lo).fld (laneErr l) hi' lo' = s.fld (laneErr l) hi' lo' := by
  rw [State.laneError, State.corrected_fld_laneErr, State.countEv_fld_disjoint s 1 (by omega) h (.inr hhi)]

theorem State.crcCount_nil : s.crcCount [] = s := rfl

variable {s l} in
/-- A CRC error counts in a locked lane of an enabled link (08 R230). -/
theorem State.crcCount_locked {k : Fin 4} (hk : s.rxLinkOf l.val = some k) (hlock : s.jesd.lock.getLsbD l.val = true) :
    s.crcCount [l] = s.laneError l 15 0 := if_pos (by rw [hlock, hk]; rfl)

theorem State.crcCount_frame (c : List (Fin 16)) : s.crcCount c = { s with regs := (s.crcCount c).regs } := by
  refine List.foldlRecOn (motive := fun t : State => t = { s with regs := t.regs }) c _ rfl fun t ht m _ => ?_
  dsimp only
  split
  · exact (t.laneError_frame m 15 0).trans (by rw [ht]; rfl)
  · exact ht

end

/-! ### Lock, loss, marker -/

theorem badHeaders_eq_countP (h : BitVec 64) :
    badHeaders h = (List.range 64).countP (fun i => h.getLsbD i == false) := by
  rw [badHeaders, List.countP_eq_length_filter]
  congr 2
  funext i
  cases h.getLsbD i <;> rfl

theorem State.rxAll_iff (s : State) (k : Fin 4) (m : BitVec 16) :
    s.rxAll k m = true ↔ ∀ l ∈ cfgLanes (s.rxCfg k.val), m.getLsbD l = true := List.all_eq_true

/-- An answer depends on its first state by the queue and the mode alone. -/
theorem done_of_keep {s u : State} (h : Keep s u) (t : State) : done u t = done s t := by
  rw [done, done, h.1, h.2]

/-- The link layers after lane l of link k has locked. -/
def State.laneLocked (s : State) (k : Fin 4) (l : Fin 16) : Jesd :=
  let j : Jesd := { s.jesd with lock := s.jesd.lock ||| (1#16 <<< l.val) }
  if j.rxSt[k] = 1 ∧ s.rxAll k j.lock = true then
    { j with rxSt := vset j.rxSt k 2, marker := j.marker &&& ~~~(laneBits (cfgLanes (s.rxCfg k.val))) }
  else j

/-- The state after lane l of link k has lost its lock: the whole link is in search, without markers or words; the loss
counts. -/
def State.laneLost (s : State) (k : Fin 4) (l : Fin 16) : State :=
  let lanes := laneBits (cfgLanes (s.rxCfg k.val))
  let j : Jesd := { s.jesd with
    lock := s.jesd.lock &&& ~~~(1#16 <<< l.val), marker := s.jesd.marker &&& ~~~lanes
    rxSt := vset s.jesd.rxSt k 1, rxOut := vset s.jesd.rxOut k [] }
  (({ s with jesd := j.dropWords lanes } : State).laneError l 23 16).dropEg

section
variable {s : State} {k : Fin 4} {l : Fin 16} {h : BitVec 64}

theorem State.laneLocked_lock (s : State) (k : Fin 4) (l : Fin 16) :
    (s.laneLocked k l).lock = s.jesd.lock ||| (1#16 <<< l.val) := by
  unfold State.laneLocked
  dsimp only
  split <;> rfl

theorem State.laneLocked_rxSt (s : State) (k : Fin 4) (l : Fin 16) (m : Fin 4) : (s.laneLocked k l).rxSt[m] =
    if m = k ∧ s.jesd.rxSt[k] = 1 ∧ s.rxAll k (s.jesd.lock ||| (1#16 <<< l.val)) = true then 2 else s.jesd.rxSt[m] := by
  unfold State.laneLocked
  dsimp only
  split
  · next hall => simp only [vset_get, hall, and_true]
  · next hnot => exact (if_neg (fun hc => hnot hc.2)).symm

theorem execRxLaneLock_locks (hk : s.rxLinkOf l.val = some k) (hdev : s.wh.devLost = false) (hbad : badHeaders h = 0) :
    execRxLaneLock l h [] s = .next { s with jesd := s.laneLocked k l } := by
  unfold execRxLaneLock State.laneLocked
  dsimp only
  rw [State.crcCount_nil, hk]
  dsimp only
  rw [if_neg (by rw [hdev, hbad]; decide)]
  refine (congrArg (done s) (Eq.symm ?_)).trans (done_keep rfl rfl)
  exact apply_ite (fun j : Jesd => ({ s with jesd := j } : State)) _ _ _

theorem execRxLaneLock_absent (habsent : s.rxLinkOf l.val = none ∨ s.wh.devLost = true ∨ badHeaders h ≠ 0) :
    execRxLaneLock l h [] s = .next s := by
  unfold execRxLaneLock
  dsimp only
  rw [State.crcCount_nil]
  cases hk : s.rxLinkOf l.val with
  | none => exact done_keep rfl rfl
  | some k =>
    dsimp only
    rw [if_pos]
    · exact done_keep rfl rfl
    · simpa [hk] using habsent

/-- The loss of lane l's lock leaves everything but the link layers, the links' data without a gap, and stored words. -/
theorem State.laneLost_frame (s : State) (k : Fin 4) (l : Fin 16) : s.laneLost k l =
    { s with regs := (s.laneLost k l).regs, jesd := (s.laneLost k l).jesd, valve := (s.laneLost k l).valve } := by
  unfold State.laneLost
  dsimp only
  rw [State.laneError_frame]
  rfl

theorem State.laneLost_jesd (s : State) (k : Fin 4) (l : Fin 16) :
    (s.laneLost k l).jesd.rxSt = vset s.jesd.rxSt k 1 ∧
      (s.laneLost k l).jesd.lock = s.jesd.lock &&& ~~~(1#16 <<< l.val) := by
  unfold State.laneLost
  dsimp only
  rw [State.laneError_frame]
  exact ⟨rfl, rfl⟩

theorem State.laneLost_counted (k : Fin 4) (hroom : s.fld (laneErr l) 23 16 < 255) :
    (s.laneLost k l).fld (laneErr l) 23 16 = s.fld (laneErr l) 23 16 + 1 :=
  State.laneError_fld _ l (by decide) hroom

theorem State.laneLost_crc (s : State) (k : Fin 4) (l : Fin 16) :
    (s.laneLost k l).fld (laneErr l) 15 0 = s.fld (laneErr l) 15 0 :=
  State.laneError_fld_disjoint _ l (by decide) (.inr (by decide))

theorem execLossOfLock_loses (hk : s.rxLinkOf l.val = some k) (hlock : s.jesd.lock.getLsbD l.val = true)
    (hbad : 16 ≤ badHeaders h) : execLossOfLock l h [] s = .next (s.laneLost k l) := by
  unfold execLossOfLock
  dsimp only
  rw [State.crcCount_nil, hk]
  dsimp only
  rw [if_neg (by rw [hlock, decide_eq_false (Nat.not_lt.mpr hbad)]; decide)]
  refine done_keep (t := s.laneLost k l) ?_ ?_ <;> rw [State.laneLost_frame]

theorem execLossOfLock_absent
    (habsent : s.rxLinkOf l.val = none ∨ s.jesd.lock.getLsbD l.val = false ∨ badHeaders h < 16) :
    execLossOfLock l h [] s = .next s := by
  unfold execLossOfLock
  dsimp only
  rw [State.crcCount_nil]
  cases hk : s.rxLinkOf l.val with
  | none => exact done_keep rfl rfl
  | some k =>
    dsimp only
    rw [if_pos]
    · exact done_keep rfl rfl
    · simpa [hk] using habsent

theorem execEndOfExtendedMultiblockMarker_aligning (hk : s.rxLinkOf l.val = some k) (hst : s.jesd.rxSt[k] = 2) :
    execEndOfExtendedMultiblockMarker l [] s =
      .next { s with jesd := { s.jesd with marker := s.jesd.marker ||| (1#16 <<< l.val) } } := by
  unfold execEndOfExtendedMultiblockMarker
  dsimp only
  rw [State.crcCount_nil, hk]
  dsimp only
  rw [if_pos hst]
  exact done_keep rfl rfl

theorem execEndOfExtendedMultiblockMarker_absent (habsent : ∀ k, s.rxLinkOf l.val = some k → s.jesd.rxSt[k] ≠ 2) :
    execEndOfExtendedMultiblockMarker l [] s = .next s := by
  unfold execEndOfExtendedMultiblockMarker
  dsimp only
  rw [State.crcCount_nil]
  cases hk : s.rxLinkOf l.val with
  | none => exact done_keep rfl rfl
  | some k =>
    dsimp only
    rw [if_neg (habsent k hk)]
    exact done_keep rfl rfl

end

/-! ### A lane's event without a CRC error, and with one -/

/-- i is one of the three events of lane l, with the CRC errors c. -/
def LaneEvent (l : Fin 16) (h : BitVec 64) (c : List (Fin 16)) (i : Instr) : Prop :=
  i ∈ [.rxLaneLock l h c, .lossOfLock l h c, .endOfExtendedMultiblockMarker l c]

theorem laneEvent_iff {l : Fin 16} {h : BitVec 64} {c : List (Fin 16)} {i : Instr} : LaneEvent l h c i ↔
    i = .rxLaneLock l h c ∨ i = .lossOfLock l h c ∨ i = .endOfExtendedMultiblockMarker l c := by
  simp [LaneEvent]

/-- The event itself leaves memory and the count of CRC errors. -/
theorem exec_laneEvent_keeps_crc {l : Fin 16} {h : BitVec 64} {i : Instr} (hi : LaneEvent l h [] i) (s : State) :
    ∃ t, exec i s = .next t ∧ t.fld (laneErr l) 15 0 = s.fld (laneErr l) 15 0 ∧ t.mem = s.mem := by
  rcases laneEvent_iff.mp hi with rfl | rfl | rfl
  case inl =>
    by_cases habsent : s.rxLinkOf l.val = none ∨ s.wh.devLost = true ∨ badHeaders h ≠ 0
    · exact ⟨s, execRxLaneLock_absent habsent, rfl, rfl⟩
    · obtain ⟨hlink, hdev, hbad⟩ : s.rxLinkOf l.val ≠ none ∧ s.wh.devLost = false ∧ badHeaders h = 0 := by
        simpa using habsent
      obtain ⟨k, hk⟩ := Option.ne_none_iff_exists'.mp hlink
      exact ⟨_, execRxLaneLock_locks hk hdev hbad, rfl, rfl⟩
  case inr.inl =>
    by_cases habsent : s.rxLinkOf l.val = none ∨ s.jesd.lock.getLsbD l.val = false ∨ badHeaders h < 16
    · exact ⟨s, execLossOfLock_absent habsent, rfl, rfl⟩
    · obtain ⟨hlink, hlock, hbad⟩ : s.rxLinkOf l.val ≠ none ∧ s.jesd.lock.getLsbD l.val = true ∧ 16 ≤ badHeaders h := by
        simpa using habsent
      obtain ⟨k, hk⟩ := Option.ne_none_iff_exists'.mp hlink
      exact ⟨_, execLossOfLock_loses hk hlock hbad, s.laneLost_crc k l, by rw [State.laneLost_frame]⟩
  case inr.inr =>
    by_cases halign : ∃ k, s.rxLinkOf l.val = some k ∧ s.jesd.rxSt[k] = 2
    · obtain ⟨k, hk, hst⟩ := halign
      exact ⟨_, execEndOfExtendedMultiblockMarker_aligning hk hst, rfl, rfl⟩
    · exact ⟨s, execEndOfExtendedMultiblockMarker_absent fun k hk hst => halign ⟨k, hk, hst⟩, rfl, rfl⟩

/-- An event with CRC errors is the event without them once they are counted. -/
theorem exec_laneEvent_crc {l : Fin 16} {h : BitVec 64} {c : List (Fin 16)} {i : Instr} (hi : LaneEvent l h c i) (s : State) :
    ∃ i', LaneEvent l h [] i' ∧ exec i s = exec i' (s.crcCount c) := by
  have hkeep : Keep s (s.crcCount c) := by rw [State.crcCount_frame]; exact ⟨rfl, rfl⟩
  rcases laneEvent_iff.mp hi with rfl | rfl | rfl
  · exact ⟨.rxLaneLock l h [], laneEvent_iff.mpr (.inl rfl), (done_of_keep hkeep _).symm⟩
  · exact ⟨.lossOfLock l h [], laneEvent_iff.mpr (.inr (.inl rfl)), (done_of_keep hkeep _).symm⟩
  · exact ⟨.endOfExtendedMultiblockMarker l [], laneEvent_iff.mpr (.inr (.inr rfl)), (done_of_keep hkeep _).symm⟩

theorem exec_laneEvent_counts {s : State} {k : Fin 4} {l : Fin 16} {h : BitVec 64} {i : Instr} (hi : LaneEvent l h [l] i)
    (hk : s.rxLinkOf l.val = some k) (hlock : s.jesd.lock.getLsbD l.val = true) (hroom : s.fld (laneErr l) 15 0 < 65535) :
    ∃ t, exec i s = .next t ∧ t.fld (laneErr l) 15 0 = s.fld (laneErr l) 15 0 + 1 ∧ t.mem = s.mem := by
  obtain ⟨i', hi', hexec⟩ := exec_laneEvent_crc hi s
  obtain ⟨t, ht, hfld, hmem⟩ := exec_laneEvent_keeps_crc hi' (s.crcCount [l])
  refine ⟨t, hexec.trans ht, ?_, by rw [hmem, State.crcCount_frame]⟩
  rw [hfld, State.crcCount_locked hk hlock]
  exact s.laneError_fld l (by decide) hroom

end Sys2Proof.Machine
end

section
/-! LEMC boundaries, where links enter data, and the release of an extended multiblock to the fabric (08 R227, R228, R230,
R231). -/
namespace Sys2Proof.Machine

/-! ### LEMC boundaries (08 R228, R230, R231) -/

theorem State.lemcAt_iff {s : State} {w : Word} {d : Nat} : s.lemcAt w d = true ↔
    s.jesd.srSeen = true ∧ s.jesd.lemc0 ≤ d ∧ cfgLemc w ≠ 0 ∧ (d - s.jesd.lemc0) % cfgLemc w = 0 := by
  simp [State.lemcAt, and_assoc]

section
variable (s : State) (d : Nat) (k : Fin 4)

theorem State.lemcStep_frame : s.lemcStep d =
    { s with dcyc := max s.dcyc d, jesd := (s.lemcStep d).jesd, valve := (s.lemcStep d).valve } := rfl

/-- An aligned link enters data at its own boundary, with every marker. -/
theorem State.lemcStep_rxSt : (s.lemcStep d).jesd.rxSt[k] =
    if s.jesd.rxSt[k] = 2 ∧ s.rxAll k s.jesd.marker = true ∧ s.lemcAt (s.rxCfg k.val) d = true then 3
    else s.jesd.rxSt[k] := by
  refine (Vector.getElem_ofFn _).trans (if_congr ?_ rfl rfl)
  rw [Bool.and_eq_true, Bool.and_eq_true, decide_eq_true_iff, and_assoc]
  exact Iff.rfl

/-- A waiting transmit link enters data at its own boundary. -/
theorem State.lemcStep_txSt : (s.lemcStep d).jesd.txSt[k] =
    if s.jesd.txSt[k] = 1 ∧ s.lemcAt (s.txCfg k.val) d = true then 2 else s.jesd.txSt[k] := Vector.getElem_ofFn _

end

/-- A boundary is the step of the links where no LINK_UP waits. -/
theorem execLemcBoundary_quiet {s : State} (hseen : s.jesd.srSeen = true) (hdev : s.wh.devLost = false)
    (hup : s.host.linkUp = none) (d : Nat) : execLemcBoundary d [] s = .next (s.lemcStep d) := by
  unfold execLemcBoundary
  rw [when_true (by rw [hseen, hdev]; rfl)]
  dsimp only
  rw [State.crcCount_nil, if_neg]
  · exact done_keep rfl rfl
  · rw [show (s.lemcStep d).host.linkUp = none from hup]
    exact Bool.false_ne_true

/-! ### The words of a released lane (07 R218; 08 R230) -/

section
variable {data : List (BitVec 128)} {l : Nat} {crcBad : List (Fin 16 × Fin 16)} {headBad : List (Fin 16 × Fin 256)}

theorem laneWords_data : (laneWords data l crcBad headBad).map (·.data) = data := by
  rw [laneWords, List.map_map]
  exact List.zipIdx_map_fst 0 data

/-- RX_ERR of word i. -/
theorem laneWords_err {i : Nat} {w : LaneWord} (h : (laneWords data l crcBad headBad)[i]? = some w) :
    w.err = ((i % 16 == 15 && crcBad.any (fun b => b.1.val == l && b.2.val == i / 16)) ||
      headBad.any (fun b => b.1.val == l && b.2.val == i)) := by
  rw [laneWords, List.getElem?_map, List.getElem?_zipIdx, Option.map_map, Option.map_eq_some_iff] at h
  obtain ⟨x, _, rfl⟩ := h
  simp only [Function.comp_apply, Nat.zero_add]

theorem laneWords_clean {w : LaneWord} (h : w ∈ laneWords data l [] []) : w.err = false := by
  obtain ⟨i, hi⟩ := List.mem_iff_getElem?.mp h
  rw [laneWords_err hi, List.any_nil, List.any_nil, Bool.and_false]
  rfl

/-- A CRC error of multiblock n marks the last of its 16 words. -/
theorem laneWords_crc {m n : Fin 16} {i : Nat} {w : LaneWord} (h : (laneWords data m.val [(m, n)] [])[i]? = some w) :
    w.err = decide (i = 16 * n.val + 15) := by
  rw [laneWords_err h, Bool.eq_iff_iff]
  simp only [List.any_cons, BEq.rfl, Bool.true_and, List.any_nil, Bool.or_false, Bool.and_eq_true, beq_iff_eq, decide_eq_true_eq]
  omega

/-- A bad sync header of word n marks that word. -/
theorem laneWords_header {m : Fin 16} {n : Fin 256} {i : Nat} {w : LaneWord}
    (h : (laneWords data m.val [] [(m, n)])[i]? = some w) : w.err = decide (i = n.val) := by
  rw [laneWords_err h, List.any_nil, Bool.and_false, Bool.false_or, Bool.eq_iff_iff]
  simp [eq_comm (a := i)]

end

/-! ### Release (08 R227, R230) -/

/-- The CRC errors that a release of link k counts: those of its own lanes. -/
def State.releaseCrc (s : State) (k : Fin 4) (crcBad : List (Fin 16 × Fin 16)) : List (Fin 16 × Fin 16) :=
  (crcBad.filter (fun b => (cfgLanes (s.rxCfg k.val)).contains b.1.val)).eraseDups

/-- t is s after link k released samples: they and the words of its lanes are at the fabric, its CRC errors are counted. -/
structure State.Released (s : State) (k : Fin 4) (d : Nat) (samples : List (List (BitVec 16)))
    (crcBad : List (Fin 16 × Fin 16)) (headBad : List (Fin 16 × Fin 256)) (t : State) : Prop where
  frame : t = { s with
    dcyc := max s.dcyc d, regs := ((s.atD d).crcCount ((s.releaseCrc k crcBad).map (·.1))).regs, jesd := t.jesd, valve := t.valve }
  rxSt : t.jesd.rxSt = s.jesd.rxSt
  out : t.jesd.rxOut[k] = samples
  words : ∀ l : Fin 16, t.jesd.rxWord[l] = if l.val ∈ cfgLanes (s.rxCfg k.val)
    then laneWords (laneData (s.rxCfg k.val) samples (l.val - (s.rxCfg k.val).toNat % 16)) l.val (s.releaseCrc k crcBad) headBad
    else s.jesd.rxWord[l]

/-- When a release of link k with its first cycle in d is due. -/
def State.releaseDue (s : State) (k : Fin 4) (d : Nat) : Prop :=
  let rbd := s.fld (Reg.jesdRxRbd + 4 * k.val) 11 0
  s.jesd.rxSt[k] = 3 ∧ s.wh.devLost = false ∧ rbd ≤ d ∧ s.lemcAt (s.rxCfg k.val) (d - rbd) = true

section
variable {s t : State} {k : Fin 4} {d : Nat}

theorem execRxRelease_due (h : s.releaseDue k d) (samples : List (List (BitVec 16))) (crcBad : List (Fin 16 × Fin 16))
    (headBad : List (Fin 16 × Fin 256)) :
    ∃ t, execRxRelease k d samples crcBad headBad s = .next t ∧ s.Released k d samples crcBad headBad t := by
  obtain ⟨hst, hdev, hle, hat⟩ := h
  unfold execRxRelease
  dsimp only
  rw [when_true (by rw [hst, hdev, decide_eq_true hle, hat]; rfl), State.crcCount_frame]
  refine ⟨_, done_keep rfl rfl, rfl, rfl, vset_get_same _ _ _, fun l => ?_⟩
  exact (Vector.getElem_ofFn _).trans (if_congr List.contains_iff_mem rfl rfl)

variable {samples : List (List (BitVec 16))} {headBad : List (Fin 16 × Fin 256)} {l n : Fin 16}

/-- Without CRC errors no stored word changes. -/
theorem State.Released.regs (h : s.Released k d samples [] headBad t) : t.regs = s.regs := by rw [h.frame]; rfl

theorem State.Released.words_mem {crcBad : List (Fin 16 × Fin 16)} (h : s.Released k d samples crcBad headBad t)
    (hl : l.val ∈ cfgLanes (s.rxCfg k.val)) : t.jesd.rxWord[l] =
      laneWords (laneData (s.rxCfg k.val) samples (l.val - (s.rxCfg k.val).toNat % 16)) l.val (s.releaseCrc k crcBad) headBad :=
  (h.words l).trans (if_pos hl)

theorem State.releaseCrc_own (hl : l.val ∈ cfgLanes (s.rxCfg k.val)) : s.releaseCrc k [(l, n)] = [(l, n)] := by
  rw [State.releaseCrc, List.filter_eq_self.mpr (by simpa using hl)]
  rfl

/-- A CRC error in a lane of the link counts there, where the lane is locked. -/
theorem State.Released.counts (h : s.Released k d samples [(l, n)] headBad t) (hl : l.val ∈ cfgLanes (s.rxCfg k.val))
    (hk : s.rxLinkOf l.val = some k) (hlock : s.jesd.lock.getLsbD l.val = true) (hroom : s.fld (laneErr l) 15 0 < 65535) :
    t.fld (laneErr l) 15 0 = s.fld (laneErr l) 15 0 + 1 := by
  have hregs : t.regs = ((s.atD d).laneError l 15 0).regs := by
    have hcount := State.crcCount_locked (s := s.atD d) hk hlock
    rw [h.frame, State.releaseCrc_own hl]
    exact congrArg (·.regs) hcount
  refine (State.fld_of_reg_eq ?_ 15 0).trans ((s.atD d).laneError_fld l (by decide) hroom)
  rw [State.reg, State.reg, hregs]

end

end Sys2Proof.Machine
end

section
open Sys2Proof Sys2Proof.Machine

/-- Settles O42: the enables by the invariant of enables_induction, a lane's event as the event without CRC errors once they
are counted, a LEMC boundary by what lemcStep makes of each link, a release by State.Released. -/
theorem linkLayers : Obligations.LinkLayers := by
  unfold Obligations.LinkLayers
  refine ⟨fun old want cfg khz => ⟨fun k hk => ⟨enables_wanted old want cfg khz hk, enables_stays cfg khz⟩, enables_apart khz⟩,
    ?commands⟩
  intro s q v l k d j lane
  refine ⟨?control, fun i h hi hk hlock => exec_laneEvent_counts hi hk hlock, ?lanes, ?boundary, ?release⟩
  case control =>
    intro hadm
    refine ⟨_, execJesdCtl_admitted hadm v, ?_⟩
    rw [State.jesdCtlWrite_frame]
    exact ⟨rfl, rfl, rfl, rfl, startLinks_get k _ _ _, startLinks_get k _ _ _, fun hoff => s.jesdEnable_link _ _ k hoff⟩
  case lanes =>
    intro h hk wrong
    have hwrong : badHeaders h = wrong := badHeaders_eq_countP h
    refine ⟨fun hdev hnone => ?locks, fun hsome => execRxLaneLock_absent (.inr (.inr (by rwa [hwrong]))),
      fun hfew => execLossOfLock_absent (.inr (.inr (by rwa [hwrong]))), fun hlock hmany => ?loses,
      fun hst => execEndOfExtendedMultiblockMarker_aligning hk hst⟩
    case locks =>
      refine ⟨_, execRxLaneLock_locks hk hdev (hwrong.trans hnone), rfl, s.laneLocked_lock k l, ?_, fun m hm => ?_⟩
      · refine (s.laneLocked_rxSt k l k).trans (if_congr ?_ rfl rfl)
        rw [State.rxAll_iff, eq_self_iff_true, true_and]
      · exact (s.laneLocked_rxSt k l m).trans (if_neg fun hc => hm hc.1)
    case loses =>
      obtain ⟨hrx, hl⟩ := s.laneLost_jesd k l
      refine ⟨_, execLossOfLock_loses hk hlock (by rwa [hwrong]), by rw [hrx, vset_get_same], hl, fun m hm => ?_,
        by rw [State.laneLost_frame], State.laneLost_counted k⟩
      rw [hrx, vset_get_other _ _ _ _ hm]
  case boundary =>
    intro hseen hdev hup due
    have hdue (w : Word) : s.lemcAt w d = true ↔ due w := State.lemcAt_iff.trans (and_iff_right hseen)
    have hrx := s.lemcStep_rxSt d k
    have htx := s.lemcStep_txSt d k
    refine ⟨_, execLemcBoundary_quiet hseen hdev hup d, rfl, rfl, rfl, fun hst hat hall => ?_, fun hnot => ?_, fun hst hat => ?_,
      fun hnot => ?_⟩
    · exact hrx.trans (if_pos ⟨hst, (s.rxAll_iff k _).mpr hall, (hdue _).mpr hat⟩)
    · exact hrx.trans (if_neg fun ⟨hst, _, hat⟩ => hnot.elim (· hst) (· ((hdue _).mp hat)))
    · exact htx.trans (if_pos ⟨hst, (hdue _).mpr hat⟩)
    · exact htx.trans (if_neg fun ⟨hst, hat⟩ => hnot.elim (· hst) (· ((hdue _).mp hat)))
  case release =>
    intro samples rbd hst hdev hle hat
    have hrelease := execRxRelease_due (s := s) (k := k) (d := d) ⟨hst, hdev, hle, hat⟩ samples
    refine ⟨?clean, fun n hl => ?crc, fun n hl => ?header⟩
    case clean =>
      obtain ⟨t, hexec, ht⟩ := hrelease [] []
      refine ⟨t, hexec, ht.out, ht.regs, by rw [ht.frame], by rw [ht.frame], ht.rxSt, fun m hm => ?_,
        fun m hm => (ht.words m).trans (if_neg hm)⟩
      rw [ht.words_mem hm]
      exact ⟨laneWords_data, fun w => laneWords_clean⟩
    case crc =>
      obtain ⟨t, hexec, ht⟩ := hrelease [(l, n)] []
      refine ⟨t, hexec, fun i w hw => ?_, ht.counts hl⟩
      rw [ht.words_mem hl, State.releaseCrc_own hl] at hw
      exact laneWords_crc hw
    case header =>
      obtain ⟨t, hexec, ht⟩ := hrelease [] [(l, n)]
      refine ⟨t, hexec, ht.regs, fun i w hw => ?_⟩
      rw [ht.words_mem hl] at hw
      exact laneWords_header hw

end
